-- ==== Sys2Proof/Word.lean ====
section
/-!
DEFINITION. The two word types of the part: bytes of the host port and of TALK payloads, and the 16-bit
values that wrap (cycle numbers, epochs, digests; R1, R182).
-/

namespace Sys2Proof

/-- A byte of the host port or of a TALK payload (R182). -/
abbrev Byte := BitVec 8

/-- A 16-bit value that wraps: a cycle number, an epoch, a digest (R1, R185). -/
abbrev U16 := BitVec 16

end Sys2Proof
end

