-- ==== Sys2Proof/Config.lean ====
section
/-!
DEFINITION. The configuration record of the Configuration Store (chapter 9): what one station is told once.
The spec calls no value undefined, so no free value is declared here (NOTES.md, Scope and Assumptions).
-/

namespace Sys2Proof

/-- The two placements of legs in the cycle (R159). -/
inductive Placement where
  | spread
  | pack
  deriving DecidableEq, Repr

/-- The two alignments of a SPREAD window in its slot (R159). -/
inductive Alignment where
  | lead
  | center
  deriving DecidableEq, Repr

/-- The polarity of a leg's pin (R133). -/
inductive Polarity where
  | activeHigh
  | activeLow
  deriving DecidableEq, Repr

/-- The six group parameters (R165). The numbers are held as carried: a fingerprint read from a frame may
hold a value that no legal station configures (R186). -/
structure Fingerprint where
  p : Nat
  prescale : Nat
  k : Nat
  placement : Placement
  alignment : Alignment
  tb : Nat
  deriving DecidableEq, Repr

/-- The configuration record (R159). -/
structure ConfigRecord where
  id : Nat
  legs : Nat
  fp : Fingerprint
  polarity0 : Polarity
  polarity1 : Polarity
  minWindow : Nat
  lease : Nat
  deriving DecidableEq, Repr

/-- The record a full reset leaves: "empties the record" (R163). DESIGN CHOICE (log 2): what the fields of an
empty record hold; nothing reads them before CONFIGURE is accepted. -/
def ConfigRecord.empty : ConfigRecord :=
  { id := 0, legs := 0
    fp := { p := 0, prescale := 0, k := 0, placement := .spread, alignment := .lead, tb := 0 }
    polarity0 := .activeHigh, polarity1 := .activeHigh, minWindow := 0, lease := 0 }

end Sys2Proof
end

