-- ==== Sys2Proof/Syntax.lean ====
section
/-!
DEFINITION. The commands of the block: one constructor per row of spec/opcode_table.json, with the operands
the rules give the happening (log 4).
-/

namespace Sys2Proof

/-- The part's four acts on one tick whose order the rules leave open where two of them meet (R9, R18, R44,
R139): the counting of the cycle position with its wrap, the SYNC sample, the TALK sample, the FAULT sample. -/
inductive Stage where
  | cycle
  | sync
  | talk
  | fault
  deriving DecidableEq, Repr

/-- A readout taken between a boundary's acts at different blocks (R132, R169): the byte that completes it, and after
how many of the boundary's acts it is taken (`boundary` in Machine/Cycle.lean numbers them). -/
structure Readout where
  after : Nat
  byte : Byte
  deriving DecidableEq, Repr

/-- What the rules leave open at a boundary. `leaseFirst`: the Plan Unit's counting before the Membership Controller's
switch (R119). `readout`: a readout taken between the boundary's acts, if any (R169). -/
structure BoundaryOrder where
  leaseFirst : Bool
  readout : Option Readout
  deriving DecidableEq, Repr

/-- The order in which the happenings of one tick are taken. `stages`: which of the four acts comes first; an
act not named follows in the order cycle, sync, talk, fault. `lockFirst`: the lock rule before the boundary's
align count (R52). `boundary`: what is open at the tick's boundary, if it has one. `tableFirst`: the Peer Table
takes an accepted frame before the Membership Controller (R76). -/
structure TickOrder where
  stages : List Stage
  lockFirst : Bool
  boundary : BoundaryOrder
  tableFirst : Bool
  deriving DecidableEq, Repr

/-- The levels that everything outside the part leaves on the pins at one CLK edge; `true` is high. SYNC and
TALK are open-drain: the line is low if the outside or the part pulls it low (1.1 of 00_scope.md). `transmits`: the
part's own pull reaches TALK; it is false where the transmitter cannot pull the line low (2.7, 4.9; R35, R38). -/
structure Pins where
  sync : Bool
  talk : Bool
  fault : Bool
  transmits : Bool
  deriving DecidableEq, Repr

/-- The commands: one constructor per row of spec/opcode_table.json. -/
inductive Instr where
  | fullReset
  | resetRelease
  | wrap (order : BoundaryOrder)
  | syncFall (lockFirst : Bool) (order : BoundaryOrder)
  | markerEnd
  | syncStuck
  | talkMark
  | frameOriginate
  | arbitrationLost
  | bitError
  | longHighFault
  | longLowFault
  | frameVoided
  | hailAccepted (tableFirst : Bool)
  | claimAccepted (tableFirst : Bool)
  | recastAccepted (tableFirst : Bool)
  | leaveAccepted (tableFirst : Bool)
  | talkStuck
  | foundGroup
  | alignTimeout
  | hailInterval
  | leaveTimeout
  | backoffExpiry
  | heartbeat
  | quietHoldOn
  | leaseExpiry
  | peerLost (id : Nat)
  | peerPurge (id : Nat)
  | viewSwitch
  | observedSwitch
  | windowEdge
  | faultAsserted
  | faultReleased
  | selFall
  | selRise
  | configure (record : List Byte)
  | join
  | leave
  | restart
  | setDemand (leg : Byte) (value : U16)
  | setEnables (masks : Byte)
  | getStatus
  | getView (which index : Byte)
  | getPeer (index : Byte)
  | getPlan (index : Byte)
  | getChange (index : Byte)
  | peekEvent
  | popEvent
  | unknownCode (code : Byte)
  | tick (pins : Pins) (order : TickOrder)
  | byteComplete (byte : Byte)
  deriving DecidableEq, Repr

end Sys2Proof
end

