-- ==== Sys2Proof/Decode.lean ====
section
/-!
DEFINITION. The words of the opcode table. The block has no instruction words: no row of spec/opcode_table.json gives a
bit (its rows are happenings and host commands), so no word spells a command (log 4).
-/

namespace Sys2Proof

/-- The command that a word of the table spells: none, as no row of the table has a bit. -/
def decodeTableWord (_nbits _w : Nat) : Option Instr := none

end Sys2Proof
end

