-- ==== Sys2Proof/Machine/State.lean ====
section
/-!
DEFINITION. The state of the part, block by block (00_scope.md 1.2), the two ways a step could stop, and the
state after a full reset. INVENTORY.md lists every field with its rule and its reset value.
-/

namespace Sys2Proof.Machine

/-- The seven station states (R43). -/
inductive Station where
  | unconfigured
  | detached
  | listening
  | aligning
  | hailing
  | member
  | leaving
  deriving DecidableEq, Repr

/-- Why the station last entered DETACHED (R45). -/
inductive DetachReason where
  | none
  | hostLeave
  | leaveTimeout
  | notAdmitted
  | muted
  | duplicateId
  | restarted
  deriving DecidableEq, Repr

/-- The four kinds of frame (R25). -/
inductive FrameKind where
  | recast
  | leave
  | hail
  | claim
  deriving DecidableEq, Repr

/-- The states of the receive assembler (R26). -/
inductive RxPhase where
  | waiting
  | receiving
  | faulted
  deriving DecidableEq, Repr

/-- The faults a receiver can find (R27). -/
inductive RxFault where
  | startNotZero
  | longLow
  | longHigh
  | earlyMark
  | badLength
  | badCheck
  deriving DecidableEq, Repr

/-- The receive assembler (R26): the cells read so far, the cell in progress and its tick (the mark's tick is 1),
the value read in the cell in progress, the boundary flag, the fault found, and whether the veto is held in the
cell in progress (R28). -/
structure Rx where
  phase : RxPhase
  bits : List Bool
  cell : Nat
  tick : Nat
  lastBit : Option Bool
  boundary : Bool
  fault : Option RxFault
  vetoing : Bool
  deriving DecidableEq, Repr

/-- The assembler with no frame (R26). -/
def Rx.idle : Rx :=
  { phase := .waiting, bits := [], cell := 0, tick := 0, lastBit := none, boundary := false, fault := none,
    vetoing := false }

/-- The transmit request set (R31). -/
structure Requests where
  recast : Bool
  leave : Bool
  hail : Bool
  claim : Bool
  deriving DecidableEq, Repr

/-- The empty request set. -/
def Requests.empty : Requests := { recast := false, leave := false, hail := false, claim := false }

/-- The frame in flight: its kind, its snapshot as payload bytes, its renewal flag (R32, R37). -/
structure Flight where
  kind : FrameKind
  payload : List Byte
  renewal : Bool
  deriving DecidableEq, Repr

/-- One member of a view (R85). -/
structure Member where
  id : Nat
  legs : Nat
  new : Bool
  deriving DecidableEq, Repr

/-- A view record (R85). -/
structure View where
  epoch : U16
  members : List Member
  fp : Fingerprint
  deriving DecidableEq, Repr

/-- A pending view with its switch cycle (R86, R105). -/
structure PendingView where
  view : View
  switchCycle : U16
  deriving DecidableEq, Repr

/-- The three values by which views are ranked (R103). -/
structure Identity where
  size : Nat
  anchor : Nat
  digest : U16
  deriving DecidableEq, Repr

/-- The best identity heard, with its epoch (R105). -/
structure BestIdentity where
  identity : Identity
  epoch : U16
  deriving DecidableEq, Repr

/-- The observed record of a station not yet admitted (R105). -/
structure Observed where
  best : Option BestIdentity
  senders : List Nat
  pending : Option PendingView
  deriving DecidableEq, Repr

/-- The empty observed record. -/
def Observed.empty : Observed := { best := none, senders := [], pending := none }

/-- Why a REMOVE was placed (R89). -/
inductive RemoveCause where
  | leave
  | lost
  deriving DecidableEq, Repr

/-- A membership change (R87): ADD and REFRESH carry the leg count of the HAIL, REMOVE its cause. -/
inductive Change where
  | add (legs : Nat)
  | remove (cause : RemoveCause)
  | refresh (legs : Nat)
  deriving DecidableEq, Repr

/-- An entry of the change list (R87). -/
structure ChangeEntry where
  id : Nat
  change : Change
  trigger : U16
  deriving DecidableEq, Repr

/-- A demand waiting for its apply cycle (R69, R109). -/
structure PendingDemand where
  demand : Nat
  applyCycle : U16
  deriving DecidableEq, Repr

/-- The standing of a peer toward the current view (R69). -/
inductive PeerKind where
  | heard
  | member
  | lost
  deriving DecidableEq, Repr

/-- Whether a peer's last HAIL carried the station's own fingerprint (R69). -/
inductive Verdict where
  | unknown
  | isMatch
  | mismatch
  deriving DecidableEq, Repr

/-- A peer's demand for one leg (R69). -/
structure LegRecord where
  current : Nat
  valid : Bool
  pending : Option PendingDemand
  deriving DecidableEq, Repr

/-- A leg record of a new entry (R69). -/
def LegRecord.fresh : LegRecord := { current := 0, valid := false, pending := none }

/-- A peer entry (R69). -/
structure Peer where
  id : Nat
  kind : PeerKind
  legs : Option Nat
  verdict : Verdict
  silence : Nat
  lastEpoch : Option U16
  foreign : Bool
  leg0 : LegRecord
  leg1 : LegRecord
  deriving DecidableEq, Repr

/-- A grant placed in the cycle (R126). -/
structure Window where
  grant : Nat
  start : Nat
  deriving DecidableEq, Repr

/-- An entry of the plan (R126). -/
structure PlanEntry where
  index : Nat
  id : Nat
  leg : Nat
  own : Bool
  known : Bool
  demand : Nat
  window : Window
  deriving DecidableEq, Repr

/-- The plan of one cycle (R126). -/
structure Plan where
  cycle : U16
  epoch : U16
  placement : Placement
  alignment : Alignment
  n : Nat
  entries : List PlanEntry
  deriving DecidableEq, Repr

/-- The demand records of one own leg (R109). -/
structure OwnLeg where
  requested : Nat
  published : Nat
  pending : Option PendingDemand
  deriving DecidableEq, Repr

/-- An own leg's records after a full reset (R131). -/
def OwnLeg.zero : OwnLeg := { requested := 0, published := 0, pending := none }

/-- What a leg pin carries (R133). -/
inductive OutLevel where
  | highZ
  | inactive
  | active
  deriving DecidableEq, Repr

/-- The FAULT latch (R138). -/
inductive Latch where
  | clear
  | asserted
  | waiting
  deriving DecidableEq, Repr

/-- The 25 kinds of event record (R148). -/
inductive EventKind where
  | syncFault
  | talkFault
  | muted
  | duplicateId
  | faultOn
  | leaseExpired
  | overrun
  | founded
  | joined
  | left
  | excluded
  | viewChanged
  | notAdmitted
  | foreignView
  | outOfStep
  | peerHeard
  | peerLost
  | peerReturned
  | hailRefused
  | tableFull
  | slip
  | faultOff
  | recastRejected
  | alignTimeout
  | restarted
  deriving DecidableEq, Repr

/-- The four event classes, first to last in the order of taking (R148). -/
inductive EventClass where
  | alarm
  | membership
  | peer
  | notice
  deriving DecidableEq, Repr

/-- An event's detail as R190 lays it out: a code and a value. -/
structure Detail where
  code : Nat
  value : Nat
  deriving DecidableEq, Repr

/-- An event record (R147); its class follows from its kind. -/
structure Event where
  kind : EventKind
  cycle : Option U16
  station : Option Nat
  detail : Option Detail
  deriving DecidableEq, Repr

/-- The class enables (R156). -/
structure Enables where
  alarm : Bool
  membership : Bool
  peer : Bool
  notice : Bool
  deriving DecidableEq, Repr

/-- The phases of a host transaction (R168). -/
inductive PortPhase where
  | idle
  | code
  | operands
  | response
  | spent
  | blocked
  deriving DecidableEq, Repr

/-- Cycle Timer (chapter 1). `begun` is the model's own field (log 5): the position stands at 0 where a wrap or a snap
put it, and no tick, fall or adopted cycle number has moved the timer since, so that the happenings of that boundary may
be taken; a late restart and a first fall leave it clear. -/
structure CycleTimer where
  prescRunning : Bool
  presc : Nat
  position : Nat
  cycle : U16
  adopted : Bool
  lockCount : Nat
  lastSnap : Nat
  slips : Byte
  begun : Bool
  deriving DecidableEq, Repr

/-- Sync Line Interface (chapter 1). `prevHigh` is the previous tick's sample (R7). -/
structure SyncLine where
  markerActive : Bool
  markerLeft : Nat
  stuckCount : Nat
  stuck : Bool
  prevHigh : Bool
  deriving DecidableEq, Repr

/-- Talk Line Interface (chapter 2). `prevHigh` is the previous tick's sample (R22). -/
structure TalkLine where
  idle : Nat
  rx : Rx
  requests : Requests
  flight : Option Flight
  failures : Nat
  stuckCount : Nat
  stuck : Bool
  prevHigh : Bool
  deriving DecidableEq, Repr

/-- Membership Controller (chapters 3 and 5). -/
structure Membership where
  station : Station
  reason : DetachReason
  listenCount : Nat
  alignCount : Nat
  hailInterval : Nat
  hailCount : Nat
  leaveCount : Nat
  current : Option View
  pending : Option PendingView
  observed : Observed
  changes : List ChangeEntry
  backoff : Option Nat
  deriving DecidableEq, Repr

/-- Plan Unit (chapter 6). `counting` is the model's own field (log 5): a wrap or snap has found the station MEMBER and
the Plan Unit's counts of that boundary are still to be made. -/
structure PlanUnit where
  leg0 : OwnLeg
  leg1 : OwnLeg
  lease : Nat
  age : Nat
  claimed : Bool
  counting : Bool
  complete : Bool
  plan : Option Plan
  prev0 : Option Window
  prev1 : Option Window
  deriving DecidableEq, Repr

/-- Leg Output Stage (chapter 7). -/
structure LegStage where
  out0 : OutLevel
  out1 : OutLevel
  supp0 : Bool
  supp1 : Bool
  latch : Latch
  quiet : Bool
  deriving DecidableEq, Repr

/-- Event Queue and Interrupt (chapter 8). `irqLow`: the part pulls IRQ low (R157). -/
structure EventUnit where
  records : List Event
  enables : Enables
  irqLow : Bool
  deriving DecidableEq, Repr

/-- Host Port (chapter 10): the phase, the command in assembly, the response bytes not yet shifted out. -/
structure HostPort where
  phase : PortPhase
  code : Option Byte
  operands : List Byte
  response : List Byte
  deriving DecidableEq, Repr

/-- The whole part. `resetAsserted` and `selLow` are the RESET and SEL pins; `pending` is the queue of commands
that wait for it, first in, first out (the model's own field). -/
structure State where
  cyt : CycleTimer
  sli : SyncLine
  tli : TalkLine
  mbc : Membership
  peers : List Peer
  plu : PlanUnit
  los : LegStage
  evq : EventUnit
  hpt : HostPort
  cfg : ConfigRecord
  locked : Bool
  resetAsserted : Bool
  selLow : Bool
  pending : List Instr
  deriving DecidableEq, Repr

/-- Nothing in the spec stops the part (INVENTORY.md, Faults): no meaning raises a fault, and there is none. -/
inductive Fault where
  deriving DecidableEq, Repr

/-- Why a command has no meaning in the model. -/
inductive Refusal where
  /-- Raised by `exec`'s arm of a command that has no meaning yet; safe, as nothing can be proved of it. No arm
  raises it in this package. -/
  | notModelled (mnemonic : String)
  deriving DecidableEq, Repr

/-- The part right after a full reset that was released with SEL high (R20, R42, R43, R45, R84, R131, R146, R158,
R163, R168). DESIGN CHOICE (log 2): the pins' levels, the previous line samples and the empty record's fields. -/
def State.reset : State :=
  { cyt := { prescRunning := false, presc := 0, position := 0, cycle := 0, adopted := false, lockCount := 0,
             lastSnap := 0, slips := 0, begun := false }
    sli := { markerActive := false, markerLeft := 0, stuckCount := 0, stuck := false, prevHigh := false }
    tli := { idle := 0, rx := Rx.idle, requests := Requests.empty, flight := none, failures := 0, stuckCount := 0,
             stuck := false, prevHigh := false }
    mbc := { station := .unconfigured, reason := .none, listenCount := 0, alignCount := 0, hailInterval := 0,
             hailCount := 0, leaveCount := 0, current := none, pending := none, observed := Observed.empty,
             changes := [], backoff := none }
    peers := []
    plu := { leg0 := OwnLeg.zero, leg1 := OwnLeg.zero, lease := 0, age := 0, claimed := false, counting := false,
             complete := false, plan := none, prev0 := none, prev1 := none }
    los := { out0 := .highZ, out1 := .highZ, supp0 := false, supp1 := false, latch := .clear, quiet := true }
    evq := { records := [], enables := { alarm := false, membership := false, peer := false, notice := false },
             irqLow := false }
    hpt := { phase := .idle, code := none, operands := [], response := [] }
    cfg := ConfigRecord.empty
    locked := false
    resetAsserted := false
    selLow := false
    pending := [] }

end Sys2Proof.Machine
end

