-- ==== Sys2Proof/Machine/Operands.lean ====
section
/-!
DEFINITION. The formats of the wire and of the host port (chapter 11): cells, keys, payloads, the check and the
digest, the command codes and the configuration record. Everything a frame or an operand spells is read and
written here and nowhere else.
-/

namespace Sys2Proof.Machine

/-! ### Bytes, words and bits (R182) -/

/-- The low 8 bits of a number as a byte. -/
def natByte (n : Nat) : Byte := BitVec.ofNat 8 n

/-- A two-byte value, most significant byte first (R182). -/
def wordBytes (w : U16) : List Byte := [w.extractLsb' 8 8, w.extractLsb' 0 8]

/-- A number sent as a two-byte value (R182). -/
def natBytes (n : Nat) : List Byte := wordBytes (BitVec.ofNat 16 n)

/-- The two-byte value with this most and this least significant byte (R182). -/
def wordOfBytes (hi lo : Byte) : U16 := BitVec.ofNat 16 (hi.toNat * 256 + lo.toNat)

/-- The byte at an offset; 0 past the end. -/
def byteAt (bs : List Byte) (i : Nat) : Byte := bs.getD i 0

/-- The two-byte value at an offset (R182). -/
def wordAt (bs : List Byte) (i : Nat) : U16 := wordOfBytes (byteAt bs i) (byteAt bs (i + 1))

/-- The low `w` bits of a number, most significant first (R182). -/
def bitsOfNat : Nat → Nat → List Bool
  | 0, _ => []
  | w + 1, n => n.testBit w :: bitsOfNat w n

/-- The number that bits spell, most significant first (R182). -/
def natOfBits (bits : List Bool) : Nat := bits.foldl (fun n b => 2 * n + b.toNat) 0

/-- The bits of a byte, most significant first (R182). -/
def bitsOfByte (b : Byte) : List Bool := bitsOfNat 8 b.toNat

/-- The bits of bytes in order (R183). -/
def bitsOfBytes (bs : List Byte) : List Bool := bs.flatMap bitsOfByte

/-- The first `n` bytes that a run of bits spells (R183). -/
def bytesOfBits : Nat → List Bool → List Byte
  | 0, _ => []
  | n + 1, bits => natByte (natOfBits (bits.take 8)) :: bytesOfBits n (bits.drop 8)

/-! ### The check and the digest (R185) -/

/-- One bit entering the check register (R185). -/
def checkStep (r : U16) (bit : Bool) : U16 :=
  if r.msb ^^ bit then (r <<< 1) ^^^ 0x1021#16 else r <<< 1

/-- The 16-bit check of a stream of bits (R185). -/
def checkOf (bits : List Bool) : U16 := bits.foldl checkStep 0xFFFF#16

/-! ### Frames (R25, R183) -/

/-- The kind's two cells as a number (R25). -/
def kindCode : FrameKind → Nat
  | .recast => 0
  | .leave => 1
  | .hail => 2
  | .claim => 3

/-- The kind that two cells name (R25). -/
def kindOfCode (n : Nat) : FrameKind :=
  if n = 0 then .recast else if n = 1 then .leave else if n = 2 then .hail else .claim

/-- The legal payload lengths of each kind (R25). -/
def legalLength : FrameKind → Nat → Bool
  | .hail, n => n == 7
  | .claim, n => n == 10 || n == 12
  | .recast, n => decide (12 ≤ n) && decide (n ≤ 27)
  | .leave, n => n == 2

/-- The cells the check covers: key, length, payload (R185). -/
def bodyBits (kind : FrameKind) (sender : Nat) (payload : List Byte) : List Bool :=
  bitsOfNat 2 (kindCode kind) ++ bitsOfNat 6 sender ++ bitsOfNat 5 payload.length ++ bitsOfBytes payload

/-- All cells of a frame as its sender drives them: start, key, length, payload, check, veto driven 1 (R183). -/
def frameCells (kind : FrameKind) (sender : Nat) (payload : List Byte) : List Bool :=
  let body := bodyBits kind sender payload
  false :: body ++ bitsOfNat 16 (checkOf body).toNat ++ [true]

/-- The number of the veto cell of a frame of `n` payload bytes (R183). -/
def vetoCell (n : Nat) : Nat := 30 + 8 * n

/-- The kind read in the key (R183: cells 1 and 2). -/
def readKind (bits : List Bool) : FrameKind := kindOfCode (natOfBits ((bits.drop 1).take 2))

/-- The sender's station id read in the key (R183: cells 3 to 8). -/
def readSender (bits : List Bool) : Nat := natOfBits ((bits.drop 3).take 6)

/-- The payload length read (R183: cells 9 to 13). -/
def readLength (bits : List Bool) : Nat := natOfBits ((bits.drop 9).take 5)

/-- The payload read (R183). -/
def readPayload (bits : List Bool) : List Byte := bytesOfBits (readLength bits) (bits.drop 14)

/-- The check read (R183). -/
def readCheck (bits : List Bool) : Nat := natOfBits ((bits.drop (14 + 8 * readLength bits)).take 16)

/-- The check computed over the key, length and payload read (R185). -/
def computedCheck (bits : List Bool) : Nat :=
  (checkOf ((bits.drop 1).take (13 + 8 * readLength bits))).toNat

/-! ### Fingerprints and member bytes (R184) -/

/-- The placement and alignment byte (R184). -/
def placeByte (p : Placement) (a : Alignment) : Byte :=
  natByte ((if p = .pack then 1 else 0) + (if a = .center then 2 else 0))

/-- A fingerprint's six bytes (R184). -/
def fingerprintBytes (f : Fingerprint) : List Byte :=
  natBytes f.p ++ [natByte f.prescale, natByte f.k, placeByte f.placement f.alignment, natByte f.tb]

/-- The fingerprint at an offset, decoded as R186 gives: bits 7 to 2 of the placement byte are ignored. -/
def fingerprintAt (bs : List Byte) (i : Nat) : Fingerprint :=
  { p := (wordAt bs i).toNat
    prescale := (byteAt bs (i + 2)).toNat
    k := (byteAt bs (i + 3)).toNat
    placement := if (byteAt bs (i + 4)).getLsbD 0 then .pack else .spread
    alignment := if (byteAt bs (i + 4)).getLsbD 1 then .center else .lead
    tb := (byteAt bs (i + 5)).toNat }

/-- A member byte (R184). -/
def memberByte (m : Member) : Byte :=
  natByte (m.id * 4 + (if m.legs = 2 then 2 else 0) + (if m.new then 1 else 0))

/-- The member a byte spells (R184, R186). -/
def memberOfByte (b : Byte) : Member :=
  { id := b.toNat / 4, legs := if b.getLsbD 1 then 2 else 1, new := b.getLsbD 0 }

/-- The digest of a member list (R185). -/
def digestOf (ms : List Member) : U16 := checkOf (bitsOfBytes (ms.map memberByte))

/-! ### Payloads (R184, R186) -/

/-- What a HAIL carries. -/
structure HailContent where
  legs : Nat
  fp : Fingerprint
  deriving DecidableEq, Repr

/-- What a CLAIM carries; `demand1` is absent in a 10-byte CLAIM. -/
structure ClaimContent where
  epoch : U16
  cycle : U16
  identity : Identity
  demand0 : Nat
  demand1 : Option Nat
  deriving DecidableEq, Repr

/-- What a RECAST carries: `count` is the member count as sent, `members` the member bytes as carried. -/
structure RecastContent where
  epoch : U16
  switchCycle : U16
  fp : Fingerprint
  count : Nat
  members : List Member
  deriving DecidableEq, Repr

/-- The 7 bytes of a HAIL (R184). -/
def encodeHail (h : HailContent) : List Byte := natByte h.legs :: fingerprintBytes h.fp

/-- A HAIL as decoded: a leg count byte of 2 means two legs, any other one (R186). -/
def decodeHail (bs : List Byte) : HailContent :=
  { legs := if byteAt bs 0 = 2 then 2 else 1, fp := fingerprintAt bs 1 }

/-- The 10 or 12 bytes of a CLAIM (R184). -/
def encodeClaim (c : ClaimContent) : List Byte :=
  wordBytes c.epoch ++ wordBytes c.cycle ++ [natByte c.identity.size, natByte c.identity.anchor]
    ++ wordBytes c.identity.digest ++ natBytes c.demand0
    ++ (match c.demand1 with
        | some d => natBytes d
        | none => [])

/-- A CLAIM as decoded: 12 bytes carry two demands (R186). -/
def decodeClaim (bs : List Byte) : ClaimContent :=
  { epoch := wordAt bs 0
    cycle := wordAt bs 2
    identity := { size := (byteAt bs 4).toNat, anchor := (byteAt bs 5).toNat, digest := wordAt bs 6 }
    demand0 := (wordAt bs 8).toNat
    demand1 := if bs.length = 12 then some (wordAt bs 10).toNat else none }

/-- The 11 + m bytes of a RECAST (R184). -/
def encodeRecast (r : RecastContent) : List Byte :=
  wordBytes r.epoch ++ wordBytes r.switchCycle ++ fingerprintBytes r.fp ++ [natByte r.count]
    ++ r.members.map memberByte

/-- A RECAST as decoded (R186). -/
def decodeRecast (bs : List Byte) : RecastContent :=
  { epoch := wordAt bs 0
    switchCycle := wordAt bs 2
    fp := fingerprintAt bs 4
    count := (byteAt bs 10).toNat
    members := (bs.drop 11).map memberOfByte }

/-- The 2 bytes of a LEAVE (R184). -/
def encodeLeave (epoch : U16) : List Byte := wordBytes epoch

/-! ### Host commands (R187) -/

/-- How many operand bytes follow a command code; none for a code that names no command (R187). -/
def operandCount (code : Byte) : Option Nat :=
  if code = 0x01#8 then some 13
  else if code = 0x02#8 then some 0
  else if code = 0x03#8 then some 0
  else if code = 0x04#8 then some 0
  else if code = 0x05#8 then some 3
  else if code = 0x06#8 then some 1
  else if code = 0x10#8 then some 0
  else if code = 0x11#8 then some 2
  else if code = 0x12#8 then some 1
  else if code = 0x13#8 then some 1
  else if code = 0x14#8 then some 1
  else if code = 0x20#8 then some 0
  else if code = 0x21#8 then some 0
  else none

/-- The six status codes (R189). -/
inductive Status where
  | ok
  | wrongState
  | range
  | locked
  | unknown
  | empty
  deriving DecidableEq, Repr

/-- A status byte (R189). -/
def statusByte : Status → Byte
  | .ok => 0
  | .wrongState => 1
  | .range => 2
  | .locked => 3
  | .unknown => 4
  | .empty => 5

/-! ### The configuration record on the host port (R160, R161, R188) -/

/-- The tests of a CONFIGURE record in order, each with its number (R188): the range pass 1 to 12, then the
cross-field pass 13 and 14. -/
def configTests (bs : List Byte) : List (Nat × Bool) :=
  let n := fun i => (byteAt bs i).toNat
  let p := (wordAt bs 2).toNat
  [ (1, decide (1 ≤ n 0) && decide (n 0 ≤ 62)),
    (2, n 1 == 1 || n 1 == 2),
    (3, decide (2048 ≤ p)),
    (4, decide (n 4 ≤ 7)),
    (5, decide (1 ≤ n 5) && decide (n 5 ≤ 16)),
    (6, decide (n 6 ≤ 1)),
    (7, decide (n 7 ≤ 1)),
    (8, decide (4 ≤ n 8) && decide (n 8 ≤ 127)),
    (9, decide (n 9 ≤ 1)),
    (10, decide (n 10 ≤ 1)),
    (11, true),
    (12, true),
    (13, decide (512 * n 8 ≤ p)),
    (14, !(n 6 == 1 && n 7 == 1)) ]

/-- The number of the first test that fails (R160). -/
def firstFailing (bs : List Byte) : Option Nat :=
  ((configTests bs).find? (fun t => !t.2)).map (·.1)

/-- The record a CONFIGURE that passes carries (R188). -/
def decodeConfig (bs : List Byte) : ConfigRecord :=
  { id := (byteAt bs 0).toNat
    legs := (byteAt bs 1).toNat
    fp := { p := (wordAt bs 2).toNat
            prescale := (byteAt bs 4).toNat
            k := (byteAt bs 5).toNat
            placement := if byteAt bs 6 = 1 then .pack else .spread
            alignment := if byteAt bs 7 = 1 then .center else .lead
            tb := (byteAt bs 8).toNat }
    polarity0 := if byteAt bs 9 = 1 then .activeLow else .activeHigh
    polarity1 := if byteAt bs 10 = 1 then .activeLow else .activeHigh
    minWindow := (byteAt bs 11).toNat
    lease := (byteAt bs 12).toNat }

end Sys2Proof.Machine
end

