-- ==== Sys2Proof/Machine/Flags.lean ====
section
/-!
DEFINITION. Values computed from the state: serial comparison, station classes, the lock flag, the view's derived
values, the quiet hold, the IRQ level, the output gate of each leg, the levels the part drives on its lines.
-/

namespace Sys2Proof.Machine

/-! ### Serial comparison (R1) -/

/-- `a` is newer than `b` (R1). -/
def newer (a b : U16) : Bool := decide (1 ≤ (a - b).toNat) && decide ((a - b).toNat ≤ 32767)

/-- How far `a` is ahead of `b` (R1). -/
def ahead (a b : U16) : Nat := (a - b).toNat

/-- Cycle `c` equals cycle `x` or is newer than it (R79, R99, R108). -/
def reached (c x : U16) : Bool := c == x || newer c x

/-! ### Station classes -/

/-- The five states in which the cycle timer runs and TALK is heard (R3, R22). -/
def Station.running : Station → Bool
  | .listening => true
  | .aligning => true
  | .hailing => true
  | .member => true
  | .leaving => true
  | .unconfigured => false
  | .detached => false

/-- ALIGNING and HAILING, the states of the follower rule (R11). -/
def Station.following : Station → Bool
  | .aligning => true
  | .hailing => true
  | _ => false

/-- MEMBER and LEAVING, the states that hold a current view (R86). -/
def Station.inGroup : Station → Bool
  | .member => true
  | .leaving => true
  | _ => false

/-- The frame kinds each state may send (R31). -/
def permitted : Station → FrameKind → Bool
  | .member, .recast => true
  | .member, .claim => true
  | .leaving, .leave => true
  | .hailing, .hail => true
  | _, _ => false

/-! ### Derived values of the cycle timer (9.5) -/

/-- The configured cycle length P. -/
def State.P (s : State) : Nat := s.cfg.fp.p

/-- The configured cell length TB. -/
def State.TB (s : State) : Nat := s.cfg.fp.tb

/-- The lock flag: set exactly while the lock count stands at 4 (R12). -/
def lockFlag (s : State) : Bool := s.cyt.lockCount == 4

/-- The lock tolerance (R12). -/
def lockTolerance (s : State) : Nat := s.P / 64

/-- The listen window (R49). -/
def listenWindow (s : State) : Nat := 64 + s.cfg.id

/-! ### Views (R85) -/

/-- The leg total of a member list (R85). -/
def legTotal (ms : List Member) : Nat := (ms.map (·.legs)).sum

/-- A member list lists a station. -/
def lists (ms : List Member) (id : Nat) : Bool := ms.any (fun m => m.id == id)

/-- The station a member list gives the new flag. -/
def listsNew (ms : List Member) (id : Nat) : Bool := ms.any (fun m => m.id == id && m.new)

/-- A held view lists a station. -/
def listedIn (v : Option View) (id : Nat) : Bool :=
  match v with
  | some v => lists v.members id
  | none => false

/-- The view inside a pending view. -/
def pendingOf (p : Option PendingView) : Option View := p.map (·.view)

/-- A view's anchor, the lowest id listed (R85). -/
def anchorOf (ms : List Member) : Nat :=
  match ms with
  | [] => 0
  | m :: rest => rest.foldl (fun a x => min a x.id) m.id

/-- Size, anchor and digest of a member list (R85, R103). -/
def identityOf (ms : List Member) : Identity :=
  { size := ms.length, anchor := anchorOf ms, digest := digestOf ms }

/-- `a` ranks above `b`: larger size, then lower anchor, then lower digest (R103). -/
def ranksAbove (a b : Identity) : Bool :=
  decide (b.size < a.size) ||
  (a.size == b.size &&
    (decide (a.anchor < b.anchor) ||
      (a.anchor == b.anchor && decide (a.digest.toNat < b.digest.toNat))))

/-- The room test: at most 16 stations and 16 legs (R85, R92). -/
def fits (ms : List Member) : Bool := decide (ms.length ≤ 16) && decide (legTotal ms ≤ 16)

/-- The legs of a view in view-index order: (station id, leg) (R85). -/
def viewLegs (ms : List Member) : List (Nat × Nat) :=
  ms.flatMap (fun m => if m.legs = 2 then [(m.id, 0), (m.id, 1)] else [(m.id, 0)])

/-! ### The quiet hold and IRQ -/

/-- The quiet hold: no own CLAIM accepted since becoming MEMBER, or an age of 16 or more (R141). -/
def quietHold (s : State) : Bool := !s.plu.claimed || decide (16 ≤ s.plu.age)

/-- The class of each kind (R148). -/
def eventClass : EventKind → EventClass
  | .syncFault => .alarm
  | .talkFault => .alarm
  | .muted => .alarm
  | .duplicateId => .alarm
  | .faultOn => .alarm
  | .leaseExpired => .alarm
  | .overrun => .alarm
  | .founded => .membership
  | .joined => .membership
  | .left => .membership
  | .excluded => .membership
  | .viewChanged => .membership
  | .notAdmitted => .membership
  | .foreignView => .membership
  | .outOfStep => .membership
  | .peerHeard => .peer
  | .peerLost => .peer
  | .peerReturned => .peer
  | .hailRefused => .peer
  | .tableFull => .peer
  | .slip => .notice
  | .faultOff => .notice
  | .recastRejected => .notice
  | .alignTimeout => .notice
  | .restarted => .notice

/-- The enable of a class (R156). -/
def Enables.isOn (e : Enables) : EventClass → Bool
  | .alarm => e.alarm
  | .membership => e.membership
  | .peer => e.peer
  | .notice => e.notice

/-- IRQ is low while the queue holds a record of an enabled class (R157). -/
def irqLevel (s : State) : Bool := s.evq.records.any (fun r => s.evq.enables.isOn (eventClass r.kind))

/-! ### The output gate (R134 to R137) -/

/-- The window of an own leg in a plan; none where the plan gives the leg no entry (R120, R129). -/
def ownWindow (p : Plan) (leg : Nat) : Option Window :=
  (p.entries.find? (fun e => e.own && e.leg == leg)).map (·.window)

/-- The window of an own leg in the plan in force. -/
def currentWindow (s : State) (leg : Nat) : Option Window := s.plu.plan.bind (fun p => ownWindow p leg)

/-- The previous window of an own leg (R129). -/
def previousWindow (s : State) (leg : Nat) : Option Window := if leg = 0 then s.plu.prev0 else s.plu.prev1

/-- Position `x` lies in window `w` of its own cycle (R135). -/
def inWindow (p : Nat) (w : Window) (x : Nat) : Bool :=
  decide (w.start ≤ x) && decide (x < min (w.start + w.grant) p)

/-- The tail of the previous window is uncut: both windows present and equal (R136). -/
def tailUncut (s : State) (leg : Nat) : Bool :=
  match previousWindow s leg, currentWindow s leg with
  | some a, some b => a == b
  | _, _ => false

/-- Position `x` lies in the tail that a window leaves in the next cycle (R135, R136). -/
def inTail (p : Nat) (w : Window) (x : Nat) : Bool := decide (x + p < w.start + w.grant)

/-- The leg's suppression flag (R137). -/
def suppressed (s : State) (leg : Nat) : Bool := if leg = 0 then s.los.supp0 else s.los.supp1

/-- The cycle position lies in the leg's window or in its uncut tail (R134, condition 6). -/
def positionOpen (s : State) (leg : Nat) : Bool :=
  (match currentWindow s leg with
   | some w => inWindow s.P w s.cyt.position
   | none => false) ||
  (tailUncut s leg &&
   (match previousWindow s leg with
    | some w => inTail s.P w s.cyt.position
    | none => false))

/-- The gate of one leg: the six conditions of R134, for a configured leg (R133). -/
def legGate (s : State) (leg : Nat) : Bool :=
  decide (leg < s.cfg.legs) &&
  s.mbc.station == .member &&
  s.los.latch == .clear &&
  !quietHold s &&
  (s.cfg.fp.placement == .spread || s.plu.complete) &&
  !suppressed s leg &&
  positionOpen s leg

/-- What a leg's pin carries: high-impedance until CONFIGURE, then active or inactive (R133, R134). -/
def outLevel (s : State) (leg : Nat) : OutLevel :=
  if s.locked then (if legGate s leg then .active else .inactive) else .highZ

/-- The electrical level of a driven pin, `none` for high-impedance (R133). -/
def pinLevel (pol : Polarity) : OutLevel → Option Bool
  | .highZ => none
  | .active => some (pol == .activeHigh)
  | .inactive => some (pol == .activeLow)

/-- The electrical level on OUT0 or OUT1 (`true` is high): what the leg's pin carries, by the leg's configured polarity
(R133, R162, R166). -/
def outPin (s : State) (leg : Nat) : Option Bool :=
  if leg = 0 then pinLevel s.cfg.polarity0 s.los.out0 else pinLevel s.cfg.polarity1 s.los.out1

/-- The outputs and the IRQ line follow the state that a happening leaves (R134, R141, R157). -/
def settle (s : State) : State :=
  { s with
    los := { s.los with quiet := quietHold s, out0 := outLevel s 0, out1 := outLevel s 1 }
    evq := { s.evq with irqLow := irqLevel s } }

/-! ### What the part drives on its lines -/

/-- The part pulls SYNC low (R15). -/
def syncDriven (s : State) : Bool := s.sli.markerActive

/-- The ticks for which a cell of this value is pulled low (R23). -/
def pullTicks (tb : Nat) (value : Bool) : Nat := if value then tb / 4 else 3 * (tb / 4)

/-- The cells of the frame in flight (R33). -/
def flightCells (s : State) (f : Flight) : List Bool := frameCells f.kind s.cfg.id f.payload

/-- The value the frame in flight gives a cell (R33). -/
def drivenBit (s : State) (f : Flight) (cell : Nat) : Bool := (flightCells s f).getD cell true

/-- The part pulls TALK low at tick `t` of the cell in progress: as a sender (R33) or holding the veto (R28). -/
def pullsAt (s : State) (t : Nat) : Bool :=
  (match s.tli.flight with
   | some f => decide (t ≤ pullTicks s.TB (drivenBit s f s.tli.rx.cell))
   | none => false) ||
  (s.tli.rx.vetoing && decide (t ≤ 3 * (s.TB / 4)))

/-- The part pulls TALK low now. -/
def talkDriven (s : State) : Bool :=
  s.mbc.station.running && s.tli.rx.phase != .waiting && pullsAt s s.tli.rx.tick

/-- The byte on SDO; `none` is high-impedance (R167, R171, R189). -/
def sdo (s : State) : Option Byte :=
  if s.resetAsserted then none
  else
    match s.hpt.phase with
    | .idle => none
    | .response => some (s.hpt.response.headD 0xFF#8)
    | .code => some 0xFF#8
    | .operands => some 0xFF#8
    | .spent => some 0xFF#8
    | .blocked => some 0xFF#8

end Sys2Proof.Machine
end

