-- ==== Sys2Proof/Machine/Ops.lean ====
section
/-!
DEFINITION. The operations every family of commands shares: taking a happening, posting an event, posting a transmit
request, and the entries into and exits from the station states.
-/

namespace Sys2Proof.Machine

/-- Take a happening: where it is due (and RESET is released) its effects are made and the outputs and IRQ follow
(R134, R157); where it is not due it does not occur and nothing changes (log 5). -/
def happen (s : State) (due : Bool) (f : State → State) : Host.Outcome State Fault Refusal :=
  .next (if !s.resetAsserted && due then settle (f s) else s)

/-! ### The event queue (R149 to R153) -/

/-- The cycle field of a record posted now: present while the timer runs (R149). -/
def stamp (s : State) : Option U16 := if s.mbc.station.running then some s.cyt.cycle else none

/-- An OVERRUN record is held (R151). -/
def hasOverrun (q : List Event) : Bool := q.any (fun e => e.kind == .overrun)

/-- The OVERRUN record that takes the place of an arrival, with dropped count 0 (R151). -/
def overrunRecord (cycle : Option U16) : Event :=
  { kind := .overrun, cycle := cycle, station := none, detail := some { code := 0, value := 0 } }

/-- One more record dropped: the OVERRUN record's count grows and stops at 255 (R152). -/
def countDropped (e : Event) : Event :=
  if e.kind = .overrun then
    { e with detail := e.detail.map (fun d => { d with value := min (d.value + 1) 255 }) }
  else e

/-- A record arrives (R151, R152). -/
def arrive (q : List Event) (e : Event) : List Event :=
  if hasOverrun q then q.map countDropped
  else if q.length ≤ 14 then q ++ [e]
  else q ++ [overrunRecord e.cycle]

/-- Hand a record with a given cycle field to the queue (R150). -/
def postAt (s : State) (cycle : Option U16) (kind : EventKind) (station : Option Nat) (detail : Option Detail) :
    State :=
  { s with evq.records := arrive s.evq.records { kind := kind, cycle := cycle, station := station, detail := detail } }

/-- Post a record at the present happening (R149, R150). -/
def post (s : State) (kind : EventKind) (station : Option Nat) (detail : Option Detail) : State :=
  postAt s (stamp s) kind station detail

/-- The rank of a class for taking; a lower number is taken first (R148). -/
def classRank : EventClass → Nat
  | .alarm => 0
  | .membership => 1
  | .peer => 2
  | .notice => 3

/-- The rank of a record's class (R153). -/
def eventRank (e : Event) : Nat := classRank (eventClass e.kind)

/-- The record POP EVENT would remove: the oldest of the highest-ranked class present (R153). -/
def nextEvent (q : List Event) : Option Event :=
  q.foldl (fun best e =>
    match best with
    | none => some e
    | some b => if eventRank e < eventRank b then some e else some b) none

/-- The queue without the oldest record of a class rank (R153). -/
def removeFirstOfRank : List Event → Nat → List Event
  | [], _ => []
  | e :: rest, r => if eventRank e = r then rest else e :: removeFirstOfRank rest r

/-! ### Transmit requests (R31, R37) -/

/-- Set the flag of a kind. -/
def Requests.setKind (r : Requests) (k : FrameKind) (v : Bool) : Requests :=
  match k with
  | .recast => { r with recast := v }
  | .leave => { r with leave := v }
  | .hail => { r with hail := v }
  | .claim => { r with claim := v }

/-- The flag of a kind. -/
def Requests.hasKind (r : Requests) : FrameKind → Bool
  | .recast => r.recast
  | .leave => r.leave
  | .hail => r.hail
  | .claim => r.claim

/-- A flag is set. -/
def Requests.any (r : Requests) : Bool := r.recast || r.leave || r.hail || r.claim

/-- The flags a state permits are kept, the others withdrawn (R31). -/
def Requests.withdraw (r : Requests) (st : Station) : Requests :=
  { recast := r.recast && permitted st .recast
    leave := r.leave && permitted st .leave
    hail := r.hail && permitted st .hail
    claim := r.claim && permitted st .claim }

/-- The renewal flag of a frame in flight of the posted kind is set (R37). -/
def renew (f : Option Flight) (k : FrameKind) : Option Flight :=
  f.map (fun f => if f.kind = k then { f with renewal := true } else f)

/-- Post a request: taken where the state permits the kind, without effect otherwise (R31, R37). -/
def postRequest (s : State) (k : FrameKind) : State :=
  if permitted s.mbc.station k then
    { s with tli.requests := s.tli.requests.setKind k true, tli.flight := renew s.tli.flight k }
  else s

/-- A frame of this kind is in flight. -/
def flightOf (s : State) (k : FrameKind) : Bool :=
  match s.tli.flight with
  | some f => f.kind == k
  | none => false

/-! ### Peer demotion, plan and view clearing -/

/-- A leg record marked invalid with its values kept (R82). -/
def LegRecord.invalidate (r : LegRecord) : LegRecord := { r with valid := false }

/-- An entry after an exit from MEMBER or LEAVING, or on entry to DETACHED: HEARD, demands invalid, foreign flag
clear (R67, R82). -/
def Peer.demote (p : Peer) : Peer :=
  { p with kind := .heard, foreign := false, leg0 := p.leg0.invalidate, leg1 := p.leg1.invalidate }

/-- Every entry demoted (R82). -/
def demotePeers (s : State) : State := { s with peers := s.peers.map Peer.demote }

/-- The plan, the previous windows, the table-complete flag and the suppression flags are discarded (R117, R137). -/
def clearPlan (s : State) : State :=
  { s with
    plu := { s.plu with plan := none, prev0 := none, prev1 := none, complete := false }
    los := { s.los with supp0 := false, supp1 := false } }

/-- The current, pending and observed views, the change list and the backoff timer are cleared (R61, R67). -/
def clearViews (s : State) : State :=
  { s with mbc := { s.mbc with current := none, pending := none, observed := Observed.empty, changes := [],
                               backoff := none } }

/-- The adopted flag, the lock count and with it the lock flag are cleared (R19). -/
def clearLock (s : State) : State := { s with cyt := { s.cyt with adopted := false, lockCount := 0 } }

/-- The marker driver becomes idle and releases SYNC (R15). -/
def stopMarker (s : State) : State := { s with sli := { s.sli with markerActive := false, markerLeft := 0 } }

/-- The published demand of both legs becomes 0 and any published pending is discarded (R48, R62, R64, R116). -/
def zeroPublished (s : State) : State :=
  { s with plu := { s.plu with leg0 := { s.plu.leg0 with published := 0, pending := none }
                               leg1 := { s.plu.leg1 with published := 0, pending := none } } }

/-! ### Changes of station state -/

/-- The station state changes and the requests it does not permit are withdrawn (R31, R43). -/
def setStation (s : State) (st : Station) : State :=
  { s with mbc.station := st, tli.requests := s.tli.requests.withdraw st }

/-- Entry to LISTENING from ALIGNING, HAILING or MEMBER (R19, R49, R53). -/
def enterListening (s : State) : State :=
  let t := stopMarker (clearLock (clearViews (setStation s .listening)))
  { t with mbc.listenCount := 0 }

/-- Entry to ALIGNING (R19, R51). -/
def enterAligning (s : State) : State :=
  let t := stopMarker (clearLock (clearViews (setStation s .aligning)))
  { t with mbc.alignCount := 0 }

/-- MEMBER leaves for ALIGNING: the effects of R61. -/
def memberToAligning (s : State) : State := enterAligning (demotePeers (clearPlan s))

/-- MEMBER leaves for LISTENING: the effects of R61. -/
def memberToListening (s : State) : State := enterListening (demotePeers (clearPlan s))

/-- The Talk Line Interface on entry to DETACHED (R42). -/
def TalkLine.held : TalkLine :=
  { idle := 0, rx := Rx.idle, requests := Requests.empty, flight := none, failures := 0, stuckCount := 0,
    stuck := false, prevHigh := false }

/-- The Sync Line Interface on entry to DETACHED (R19). -/
def SyncLine.held : SyncLine :=
  { markerActive := false, markerLeft := 0, stuckCount := 0, stuck := false, prevHigh := false }

/-- Entry to DETACHED with a reason: the effects of R67 (R19, R39, R42, R45, R82, R117). -/
def enterDetached (s : State) (reason : DetachReason) : State :=
  let t := demotePeers (clearPlan (clearViews s))
  { t with
    cyt := { t.cyt with position := 0, cycle := 0, adopted := false, lockCount := 0, begun := false }
    sli := SyncLine.held
    tli := TalkLine.held
    mbc := { t.mbc with station := .detached, reason := reason, listenCount := 0, alignCount := 0,
                        hailInterval := 0, hailCount := 0, leaveCount := 0 } }

/-- The wire code of a detach reason (R189), which LEFT carries as its detail (R190). -/
def reasonCode : DetachReason → Nat
  | .none => 0
  | .hostLeave => 1
  | .leaveTimeout => 2
  | .notAdmitted => 3
  | .muted => 4
  | .duplicateId => 5
  | .restarted => 6

/-- LEFT is posted and the station enters DETACHED (R45). -/
def detachLeft (s : State) (reason : DetachReason) : State :=
  enterDetached (post s .left none (some { code := reasonCode reason, value := 0 })) reason

/-- An ALIGNING station with the lock flag and the adopted flag set enters HAILING and requests a HAIL (R52, R54). -/
def tryHail (s : State) : State :=
  if s.mbc.station = .aligning ∧ lockFlag s ∧ s.cyt.adopted then
    let t := setStation s .hailing
    postRequest { t with mbc := { t.mbc with hailCount := 1, hailInterval := 0 } } .hail
  else s

/-! ### The Peer Table as a list (R70) -/

/-- The entry of a station. -/
def findPeer (t : List Peer) (id : Nat) : Option Peer := t.find? (fun p => p.id == id)

/-- Change the entry of a station. -/
def updatePeer (t : List Peer) (id : Nat) (f : Peer → Peer) : List Peer :=
  t.map (fun p => if p.id = id then f p else p)

/-- Insert an entry at the place its id takes (R70). -/
def insertPeer : List Peer → Peer → List Peer
  | [], p => [p]
  | q :: rest, p => if p.id < q.id then p :: q :: rest else q :: insertPeer rest p

/-- Remove the entry of a station. -/
def removePeer (t : List Peer) (id : Nat) : List Peer := t.filter (fun p => !(p.id == id))

/-- Of several entries, the one with the largest silence, the higher id going on equal silence (R73). -/
def mostSilent (t : List Peer) : Option Peer :=
  t.foldl (fun best p =>
    match best with
    | none => some p
    | some b =>
      if b.silence < p.silence ∨ (b.silence = p.silence ∧ b.id < p.id) then some p else some b) none

/-- A new entry (R69). -/
def newPeer (id : Nat) (kind : PeerKind) (legs : Option Nat) : Peer :=
  { id := id, kind := kind, legs := legs, verdict := .unknown, silence := 0, lastEpoch := none, foreign := false,
    leg0 := LegRecord.fresh, leg1 := LegRecord.fresh }

end Sys2Proof.Machine
end

