-- ==== Sys2Proof/Machine/Changes.lean ====
section
/-!
DEFINITION. The change list, rank and backoff, and the building of a RECAST (chapter 5, 5.3 to 5.5).
-/

namespace Sys2Proof.Machine

/-! ### Rank and backoff (R90, R91) -/

/-- The change list holds a REMOVE for a station (R90). -/
def hasRemove (changes : List ChangeEntry) (id : Nat) : Bool :=
  changes.any (fun e => e.id == id && (match e.change with
    | .remove _ => true
    | _ => false))

/-- A station's Peer Table entry is LOST (R90). -/
def peerIsLost (t : List Peer) (id : Nat) : Bool :=
  match findPeer t id with
  | some p => p.kind == .lost
  | none => false

/-- The other stations of the rank list: the current view's ids without those LOST and those with a REMOVE (R90). -/
def rankOthers (s : State) : List Nat :=
  match s.mbc.current with
  | none => []
  | some v => (v.members.map (·.id)).filter
      (fun id => !(id == s.cfg.id) && !peerIsLost s.peers id && !hasRemove s.mbc.changes id)

/-- The station's rank: how many ids of the rank list come before its own (R90). -/
def rank (s : State) : Nat := ((rankOthers s).filter (fun id => decide (id < s.cfg.id))).length

/-- The backoff timer is set: a RECAST request at once at rank 0, else 2 cycles for each rank (R91, R97). -/
def setBackoff (s : State) : State :=
  if rank s = 0 then postRequest { s with mbc.backoff := none } .recast
  else { s with mbc.backoff := some (2 * rank s) }

/-- The timer becomes absent when the change list is empty (R91). -/
def clearBackoffIfEmpty (s : State) : State :=
  if s.mbc.changes = [] then { s with mbc.backoff := none } else s

/-! ### Placing and withdrawing (R87, R88, R76) -/

/-- An entry is an ADD or a REFRESH. -/
def isAddOrRefresh (e : ChangeEntry) : Bool :=
  match e.change with
  | .remove _ => false
  | _ => true

/-- The list without its oldest ADD or REFRESH (R87). -/
def dropOldestAdd : List ChangeEntry → List ChangeEntry
  | [] => []
  | e :: rest => if isAddOrRefresh e then rest else e :: dropOldestAdd rest

/-- HAIL_REFUSED, with MISMATCH (0) or FULL (1) as detail (R88, R190). -/
def refuseHail (s : State) (id : Nat) (full : Bool) : State :=
  post s .hailRefused (some id) (some { code := if full then 1 else 0, value := 0 })

/-- A change is appended with its own trigger cycle; a list that was empty sets the backoff (R87, R91). -/
def appendChange (s : State) (changes : List ChangeEntry) (id : Nat) (change : Change) : State :=
  let wasEmpty := s.mbc.changes.isEmpty
  let t := { s with mbc.changes := changes ++ [{ id := id, change := change, trigger := s.cyt.cycle }] }
  if wasEmpty then setBackoff t else t

/-- A change is placed in the change list (R87): it replaces an entry of the same id; in a full list a REMOVE
displaces the oldest ADD or REFRESH, and an ADD or REFRESH is refused with FULL (R88). DESIGN CHOICE (log 24): a REMOVE
that finds 16 REMOVEs, a case R87 says cannot be, is appended as a seventeenth entry. -/
def placeChange (s : State) (id : Nat) (change : Change) : State :=
  let held := s.mbc.changes
  if held.any (fun e => e.id == id) then
    appendChange s (held.filter (fun e => !(e.id == id))) id change
  else if held.length < 16 then appendChange s held id change
  else
    match change with
    | .remove _ =>
      match held.find? isAddOrRefresh with
      | some old => appendChange (refuseHail s old.id true) (dropOldestAdd held) id change
      | none => appendChange s held id change
    | _ => refuseHail s id true

/-- A REMOVE with cause LOST for this station is withdrawn when its peer returns (R76); an emptied list makes the
timer absent (R91). -/
def withdrawLost (s : State) (id : Nat) : State :=
  let kept := s.mbc.changes.filter (fun e => !(e.id == id && e.change == .remove .lost))
  if kept.length = s.mbc.changes.length then s
  else clearBackoffIfEmpty { s with mbc.changes := kept }

/-! ### Building (R92, R93) -/

/-- A member in the place its id takes. -/
def insertMember : List Member → Member → List Member
  | [], m => [m]
  | n :: rest, m => if m.id < n.id then m :: n :: rest else n :: insertMember rest m

/-- The list with a listed station's leg count changed. -/
def setLegs (ms : List Member) (id legs : Nat) : List Member :=
  ms.map (fun m => if m.id = id then { m with legs := legs } else m)

/-- The walk of the change list so far: the list built, the entries kept, the stations refused, and whether a
refresh is carried (R92). -/
structure Walk where
  members : List Member
  kept : List ChangeEntry
  dropped : List Nat
  refresh : Bool
  deriving DecidableEq, Repr

/-- An ADD of a station not listed: inserted if the list stays within 16 stations and 16 legs, dropped if not (R92). -/
def walkAdd (w : Walk) (e : ChangeEntry) (legs : Nat) : Walk :=
  let grown := insertMember w.members { id := e.id, legs := legs, new := false }
  if fits grown then { w with members := grown, kept := w.kept ++ [e] }
  else { w with dropped := w.dropped ++ [e.id] }

/-- One entry of the change list (R92). -/
def walkEntry (w : Walk) (e : ChangeEntry) : Walk :=
  match e.change with
  | .add legs => if lists w.members e.id then w else walkAdd w e legs
  | .remove _ =>
    if lists w.members e.id then
      { w with members := w.members.filter (fun m => !(m.id == e.id)), kept := w.kept ++ [e] }
    else w
  | .refresh legs =>
    if lists w.members e.id then
      let changed := setLegs w.members e.id legs
      { w with
        members := if legTotal changed ≤ 16 then changed else w.members
        kept := w.kept ++ [e]
        refresh := true }
    else walkAdd w e legs

/-- The change list walked in arrival order from a base list (R92). -/
def walkChanges (base : List Member) (changes : List ChangeEntry) : Walk :=
  changes.foldl walkEntry { members := base, kept := [], dropped := [], refresh := false }

/-- The base of a build: the pending view if one is held, else the current view (R92). -/
def baseView (s : State) : Option View :=
  match s.mbc.pending with
  | some p => some p.view
  | none => s.mbc.current

/-- Two lists have the same station ids and leg counts (R93). -/
def sameMembership (a b : List Member) : Bool := a.map (fun m => (m.id, m.legs)) == b.map (fun m => (m.id, m.legs))

/-- Each member's new flag: set if the current view does not list the station (R93). -/
def markNew (current : Option View) (ms : List Member) : List Member :=
  ms.map (fun m => { m with new := !listedIn current m.id })

/-- The content of a RECAST built at this start mark, or none if it is empty, in which case the RECAST request is
withdrawn; entries satisfied or dropped leave the change list in either case (R32, R91 to R93). DESIGN CHOICE (log 38): a
walk that deletes every member is sent as R92 and R93 build it, a RECAST of 11 bytes with no member byte, although R25,
R85 and R184 give a RECAST 1 to 16 members. -/
def buildRecast (s : State) : State × Option RecastContent :=
  match baseView s with
  | none => ({ s with tli.requests := s.tli.requests.setKind .recast false }, none)
  | some base =>
    let w := walkChanges base.members s.mbc.changes
    let refused := w.dropped.foldl (fun t id => refuseHail t id true) s
    let t := clearBackoffIfEmpty { refused with mbc.changes := w.kept }
    if sameMembership w.members base.members && !w.refresh then
      ({ t with tli.requests := t.tli.requests.setKind .recast false }, none)
    else
      (t, some { epoch := base.epoch + 1
                 switchCycle := s.cyt.cycle + 4
                 fp := s.cfg.fp
                 count := w.members.length
                 members := markNew s.mbc.current w.members })

/-- Is an entry covered by an adopted list? (R96) -/
def covered (ms : List Member) (e : ChangeEntry) : Bool :=
  match e.change with
  | .add _ => lists ms e.id
  | .remove _ => !lists ms e.id
  | .refresh _ => lists ms e.id

/-- Entries covered by an adopted RECAST leave the list; an emptied list makes the timer absent (R91, R96). -/
def coverChanges (s : State) (ms : List Member) : State :=
  clearBackoffIfEmpty { s with mbc.changes := s.mbc.changes.filter (fun e => !covered ms e) }

end Sys2Proof.Machine
end

