-- ==== Sys2Proof/Machine/PeerTable.lean ====
section
/-!
DEFINITION. The Peer Table (chapter 4): hearing a station, silence, loss, return and purge, demand records, the
table at a view switch; the commands PEER_LOST and PEER_PURGE.
-/

namespace Sys2Proof.Machine

/-! ### Holds and eviction (R73) -/

/-- A HEARD entry is held while its station is listed in the pending view (MEMBER, LEAVING), has an entry in the
change list (MEMBER), or is listed in the observed pending view (ALIGNING, HAILING) (R73). -/
def heldEntry (s : State) (id : Nat) : Bool :=
  match s.mbc.station with
  | .member => listedIn (pendingOf s.mbc.pending) id || s.mbc.changes.any (fun e => e.id == id)
  | .leaving => listedIn (pendingOf s.mbc.pending) id
  | .aligning => listedIn (pendingOf s.mbc.observed.pending) id
  | .hailing => listedIn (pendingOf s.mbc.observed.pending) id
  | _ => false

/-- The entry a frame from an unknown sender evicts from a full table (R73). -/
def evictee (s : State) : Option Peer :=
  mostSilent (s.peers.filter (fun p => p.kind == .heard && !heldEntry s p.id))

/-- PEER_HEARD or TABLE_FULL with the kind of the frame as detail (R72, R73, R190); `cycle` is the cycle field of a
record of this acceptance (R149). -/
def postHeard (cycle : Option U16) (s : State) (kind : EventKind) (sender : Nat) (frame : FrameKind) : State :=
  postAt s cycle kind (some sender) (some { code := kindCode frame, value := 0 })

/-- The sender of a delivered frame is entered if it has no entry: at once, after an eviction, or not at all (R72, R73).
DESIGN CHOICE (log 34): a sender id of 0 or 63, which no station bears and of which no rule speaks (R69, R183), is
entered like any other. -/
def enterSender (cycle : Option U16) (s : State) (sender : Nat) (frame : FrameKind) : State :=
  if (findPeer s.peers sender).isSome then s
  else if s.peers.length < 20 then
    postHeard cycle { s with peers := insertPeer s.peers (newPeer sender .heard none) } .peerHeard sender frame
  else
    match evictee s with
    | some old =>
      postHeard cycle { s with peers := insertPeer (removePeer s.peers old.id) (newPeer sender .heard none) }
        .peerHeard sender frame
    | none => postHeard cycle s .tableFull sender frame

/-! ### Returning and updating (R71, R76, R78) -/

/-- No pending view is held, or the pending view lists the peer (R76). -/
def mayReturn (s : State) (id : Nat) : Bool := s.mbc.pending.isNone || listedIn (pendingOf s.mbc.pending) id

/-- A frame from a LOST peer returns its entry to MEMBER (R76). -/
def returnPeer (cycle : Option U16) (s : State) (sender : Nat) : State :=
  match findPeer s.peers sender with
  | some p =>
    if p.kind = .lost ∧ mayReturn s sender then
      let t := postAt { s with peers := updatePeer s.peers sender (fun q => { q with kind := .member }) } cycle
        .peerReturned (some sender) (some { code := p.silence, value := 0 })
      if s.mbc.station = .member then withdrawLost t sender else t
    else s
  | none => s

/-- A leg record takes a pending part from a CLAIM; a later one replaces an earlier (R78). -/
def LegRecord.receive (r : LegRecord) (demand : Nat) (applyCycle : U16) : LegRecord :=
  { r with pending := some { demand := demand, applyCycle := applyCycle } }

/-- The fields a frame's kind updates in its sender's entry (R71, R78, R186). DESIGN CHOICE (log 23): of a RECAST that
names its sender twice, or whose member count differs from its payload, the first of the sender's bytes among all member
bytes carried gives the leg count. -/
def Peer.update (fp : Fingerprint) (kind : FrameKind) (payload : List Byte) (p : Peer) : Peer :=
  match kind with
  | .hail =>
    { p with legs := some (decodeHail payload).legs
             verdict := if (decodeHail payload).fp = fp then .isMatch else .mismatch }
  | .claim =>
    let c := decodeClaim payload
    let q := { p with legs := some (if c.demand1.isSome then 2 else 1)
                      lastEpoch := some c.epoch
                      leg0 := p.leg0.receive c.demand0 (c.cycle + 2) }
    match c.demand1 with
    | some d => { q with leg1 := p.leg1.receive d (c.cycle + 2) }
    | none => q
  | .recast =>
    match (decodeRecast payload).members.find? (fun m => m.id == p.id) with
    | some m => { p with legs := some m.legs }
    | none => p
  | .leave => p

/-- The Peer Table takes an accepted frame of another station (R71); its records carry `cycle`, the cycle field of a
record of this acceptance (R149). -/
def hearFrame (cycle : Option U16) (s : State) (kind : FrameKind) (sender : Nat) (payload : List Byte) : State :=
  let t := returnPeer cycle (enterSender cycle s sender kind) sender
  { t with
    peers := updatePeer t.peers sender (fun p => Peer.update t.cfg.fp kind payload { p with silence := 0 }) }

/-! ### At a boundary (R74, R75, R77, R79) -/

/-- Every entry's silence grows by one and stops at 255 (R74). -/
def agePeers (s : State) : State :=
  { s with peers := s.peers.map (fun p => { p with silence := min (p.silence + 1) 255 }) }

/-- What becomes of a pending value at a boundary into cycle `c` (R79, R114): applied when its apply cycle is
reached, kept when 1 or 2 ahead, otherwise removed. -/
inductive PendingFate where
  | applied
  | kept
  | removed
  deriving DecidableEq, Repr

/-- The three cases of R79. -/
def pendingFate (c applyCycle : U16) : PendingFate :=
  if reached c applyCycle then .applied
  else if ahead applyCycle c = 1 ∨ ahead applyCycle c = 2 then .kept
  else .removed

/-- A leg record at a boundary into cycle `c` (R79). -/
def LegRecord.advance (c : U16) (r : LegRecord) : LegRecord :=
  match r.pending with
  | none => r
  | some d =>
    match pendingFate c d.applyCycle with
    | .applied => { current := d.demand, valid := true, pending := none }
    | .kept => r
    | .removed => { r with pending := none }

/-- Pending parts are examined at a wrap or snap with the adopted flag set (R79). -/
def applyPeerDemands (s : State) : State :=
  if s.cyt.adopted then
    { s with
      peers := s.peers.map (fun p =>
        { p with leg0 := p.leg0.advance s.cyt.cycle, leg1 := p.leg1.advance s.cyt.cycle }) }
  else s

/-- A MEMBER entry with a silence of 32 or more (R75). -/
def isOverdue (p : Peer) : Bool := p.kind == .member && decide (32 ≤ p.silence)

/-- The entry becomes LOST and PEER_LOST is posted (R75). -/
def markLost (s : State) (p : Peer) : State :=
  post { s with peers := updatePeer s.peers p.id (fun q => { q with kind := .lost }) }
    .peerLost (some p.id) (some { code := p.silence, value := 0 })

/-- In MEMBER a REMOVE with cause LOST is placed for each (R75, R89). -/
def placeLost (s : State) (id : Nat) : State :=
  if s.mbc.station = .member then placeChange s id (.remove .lost) else s

/-- The loss test of every entry (R75). DESIGN CHOICE (log 10): all are marked, with their PEER_LOST records in ascending
id, then the REMOVEs are placed in ascending id. A boundary that takes the station out of MEMBER and LEAVING leaves nothing
to test (log 15). -/
def lossTest (s : State) : State :=
  if s.mbc.station.inGroup then
    let overdue := s.peers.filter isOverdue
    (overdue.map (·.id)).foldl placeLost (overdue.foldl markLost s)
  else s

/-- A HEARD entry with a silence of 64 or more (R77). -/
def isPurgeable (p : Peer) : Bool := p.kind == .heard && decide (64 ≤ p.silence)

/-- The HEARD entries silent for 64 boundaries or more are removed (R77). -/
def purgeHeard (s : State) : State := { s with peers := s.peers.filter (fun p => !isPurgeable p) }

/-- The purge that ends a boundary's work in the table, in every running state it leaves the station in (R77, R81). In
DETACHED the entries stand as they were held on entry (R47, R84). -/
def purgeTest (s : State) : State := if s.mbc.station.running then purgeHeard s else s

/-! ### At a view switch (R80) -/

/-- A leg record of a station the new view does not list (R80). -/
def LegRecord.unlisted : LegRecord := { current := 0, valid := false, pending := none }

/-- A leg record of a station listed with the new flag (R80). -/
def LegRecord.listedNew : LegRecord := { current := 0, valid := true, pending := none }

/-- An entry under the new current view: demoted if not listed, promoted and updated if listed (R80). DESIGN CHOICE
(log 36): the new flag sets both legs valid with demand 0, as R80 says, of a station listed with one leg too, of whose
leg 1 R177 says that it reads invalid unless a CLAIM of two legs wrote it. -/
def Peer.underView (ms : List Member) (p : Peer) : Peer :=
  match ms.find? (fun m => m.id == p.id) with
  | none => { p with kind := .heard, leg0 := LegRecord.unlisted, leg1 := LegRecord.unlisted }
  | some m =>
    let q := { p with kind := if p.kind = .heard then .member else p.kind, legs := some m.legs, foreign := false }
    if m.new then { q with leg0 := LegRecord.listedNew, leg1 := LegRecord.listedNew } else q

/-- A new MEMBER entry for a listed station without one; a full table evicts the most silent entry of an unlisted
station, held or not (R80). Leg 1 of a one-leg station with the new flag: log 36. -/
def createMember (ms : List Member) (t : List Peer) (m : Member) : List Peer :=
  if (findPeer t m.id).isSome then t
  else
    let fresh := newPeer m.id .member (some m.legs)
    let entry := if m.new then { fresh with leg0 := LegRecord.listedNew, leg1 := LegRecord.listedNew } else fresh
    if t.length < 20 then insertPeer t entry
    else
      match mostSilent (t.filter (fun p => !lists ms p.id)) with
      | some old => insertPeer (removePeer t old.id) entry
      | none => t

/-- The table takes the new current view (R80). -/
def tableSwitch (s : State) (v : View) : State :=
  { s with
    peers := (v.members.filter (fun m => !(m.id == s.cfg.id))).foldl (createMember v.members)
      (s.peers.map (Peer.underView v.members)) }

/-! ### Commands -/

/-- PEER_LOST is due: in MEMBER or LEAVING, the MEMBER entry's silence stands at 32 or more (R75). -/
def peerLostDue (s : State) (id : Nat) : Bool :=
  s.mbc.station.inGroup && (match findPeer s.peers id with
    | some p => isOverdue p
    | none => false)

/-- PEER_LOST (R75): the entry becomes LOST, PEER_LOST is posted, and in MEMBER a REMOVE is placed. -/
def losePeer (s : State) (id : Nat) : State :=
  match findPeer s.peers id with
  | some p => placeLost (markLost s p) id
  | none => s

/-- The command PEER_LOST (R75). -/
def execPeerLost (id : Nat) (s : State) : Host.Outcome State Fault Refusal :=
  happen s (peerLostDue s id) (fun s => losePeer s id)

/-- PEER_PURGE is due: at a boundary of a running state, the HEARD entry's silence stands at 64 or more (R77). -/
def peerPurgeDue (s : State) (id : Nat) : Bool :=
  s.mbc.station.running && s.cyt.begun && (match findPeer s.peers id with
    | some p => isPurgeable p
    | none => false)

/-- The command PEER_PURGE (R77): the entry is removed without an event. -/
def execPeerPurge (id : Nat) (s : State) : Host.Outcome State Fault Refusal :=
  happen s (peerPurgeDue s id) (fun s => { s with peers := removePeer s.peers id })

end Sys2Proof.Machine
end

