-- ==== Sys2Proof/Machine/Plan.lean ====
section
/-!
DEFINITION. The Plan Unit (chapter 6): the own demand path, the lease, effective demands, SPREAD and PACK, the plan;
the commands HEARTBEAT and LEASE_EXPIRY.
-/

namespace Sys2Proof.Machine

/-! ### The own demand path (R109 to R114) -/

/-- The demand records of an own leg. -/
def ownLeg (s : State) (leg : Nat) : OwnLeg := if leg = 0 then s.plu.leg0 else s.plu.leg1

/-- Change the demand records of an own leg. -/
def setOwnLeg (s : State) (leg : Nat) (o : OwnLeg) : State :=
  if leg = 0 then { s with plu.leg0 := o } else { s with plu.leg1 := o }

/-- The demand a CLAIM's payload carries for a leg. -/
def claimDemand (payload : List Byte) (leg : Nat) : Nat :=
  if leg = 0 then (decodeClaim payload).demand0 else (decodeClaim payload).demand1.getD 0

/-- The last value put toward the group for a leg: the CLAIM in flight, else the published pending value, else the
published demand (R111). -/
def lastPut (s : State) (leg : Nat) : Nat :=
  match s.tli.flight with
  | some f => if f.kind = .claim then claimDemand f.payload leg else settledPut (ownLeg s leg)
  | none => settledPut (ownLeg s leg)
where
  /-- The published pending value, else the published demand. -/
  settledPut (o : OwnLeg) : Nat :=
    match o.pending with
    | some d => d.demand
    | none => o.published

/-- Some configured leg's requested demand differs from the last value put toward the group (R111). -/
def claimIsDue (s : State) : Bool :=
  (List.range s.cfg.legs).any (fun leg => !((ownLeg s leg).requested == lastPut s leg))

/-- The CLAIM-due test (R111). -/
def claimDueTest (s : State) : State := if claimIsDue s then postRequest s .claim else s

/-- An own leg's published pending at a boundary into cycle `c` (R114). -/
def OwnLeg.advance (c : U16) (o : OwnLeg) : OwnLeg :=
  match o.pending with
  | none => o
  | some d =>
    match pendingFate c d.applyCycle with
    | .applied => { o with published := d.demand, pending := none }
    | .kept => o
    | .removed => { o with pending := none }

/-- The published pending of each leg is examined with the adopted flag set (R114). -/
def applyPublished (s : State) : State :=
  if s.cyt.adopted then
    { s with plu := { s.plu with leg0 := s.plu.leg0.advance s.cyt.cycle, leg1 := s.plu.leg1.advance s.cyt.cycle } }
  else s

/-- The station's own CLAIM delivered on loopback in MEMBER (R113). -/
def takeLoopback (s : State) (c : ClaimContent) : State :=
  if s.mbc.station = .member then
    let leg1 := match c.demand1 with
      | some d => { s.plu.leg1 with pending := some { demand := d, applyCycle := c.cycle + 2 } }
      | none => s.plu.leg1
    { s with plu := { s.plu with
        leg0 := { s.plu.leg0 with pending := some { demand := c.demand0, applyCycle := c.cycle + 2 } }
        leg1 := leg1
        age := 0
        claimed := true } }
  else s

/-- What an own CLAIM carries at its start mark (R112). -/
def claimContent (s : State) : ClaimContent :=
  let v := s.mbc.current.getD { epoch := 0, members := [], fp := s.cfg.fp }
  { epoch := v.epoch
    cycle := s.cyt.cycle
    identity := identityOf v.members
    demand0 := s.plu.leg0.requested
    demand1 := if s.cfg.legs = 2 then some s.plu.leg1.requested else none }

/-! ### Becoming MEMBER (R57, R116) -/

/-- The change list is empty and the backoff timer clear, a CLAIM request is posted, the CLAIM age is 0 and the
claimed flag clear (R57, R116), and this boundary has no counts to make (R119; log 12). -/
def memberEntry (s : State) : State :=
  let t := { s with mbc := { s.mbc with changes := [], backoff := none }
                    plu := { s.plu with age := 0, claimed := false, counting := false } }
  postRequest t .claim

/-! ### Lease and heartbeat (R115, R118, R119) -/

/-- Lease expiry: requested demands become 0, LEASE_EXPIRED is posted, the CLAIM-due test is applied (R119). DESIGN CHOICE
(log 37): with a published demand of 0 and a value above 0 in the CLAIM in flight or pending, the test of R111 finds a
CLAIM due and it is requested, where R119 also says that none is posted if the published demands were already 0. -/
def expireLease (s : State) : State :=
  let t := { s with plu := { s.plu with lease := 0
                                        leg0 := { s.plu.leg0 with requested := 0 }
                                        leg1 := { s.plu.leg1 with requested := 0 } } }
  claimDueTest (post t .leaseExpired none (some { code := 0, value := s.cfg.lease }))

/-- The lease countdown at a boundary in MEMBER (R118). -/
def leaseStep (s : State) : State :=
  if s.plu.lease = 1 then expireLease s else { s with plu.lease := s.plu.lease - 1 }

/-- The heartbeat is due: MEMBER, age 8, claimed, no CLAIM request set and no own CLAIM in flight (R115). -/
def heartbeatDue (s : State) : Bool :=
  s.mbc.station == .member && s.plu.age == 8 && s.plu.claimed && !s.tli.requests.claim && !flightOf s .claim

/-- The own CLAIM age at a boundary taken in MEMBER, with the heartbeat where it reaches 8 (R115). -/
def ageStep (s : State) : State :=
  let t := { s with plu.age := min (s.plu.age + 1) 255 }
  if heartbeatDue t then postRequest t .claim else t

/-- The Plan Unit's counting at a boundary, made once: the lease and the CLAIM age of a station that was MEMBER when the
boundary came and still is, so that neither counts the boundary at which the station becomes MEMBER (R115, R118, R119;
log 12). -/
def planCount (s : State) : State :=
  let t := { s with plu.counting := false }
  if s.plu.counting ∧ s.mbc.station = .member then ageStep (leaseStep t) else t

/-! ### Effective demand and table completeness (R120, R121) -/

/-- The peer's record of a leg. -/
def Peer.legRecord (p : Peer) (leg : Nat) : LegRecord := if leg = 0 then p.leg0 else p.leg1

/-- The record held for another station's leg is valid. -/
def recordValid (s : State) (id leg : Nat) : Bool :=
  match findPeer s.peers id with
  | some p => (p.legRecord leg).valid
  | none => false

/-- The effective demand of a view leg and whether it is known (R120, R126). -/
def effectiveDemand (s : State) (id leg : Nat) : Bool × Nat :=
  if id = s.cfg.id then (true, if leg < s.cfg.legs then (ownLeg s leg).published else 0)
  else
    match findPeer s.peers id with
    | some p => if (p.legRecord leg).valid then (true, min (p.legRecord leg).current s.P) else (false, 0)
    | none => (false, 0)

/-- Every other station of the current view has valid records for every leg listed for it (R121). -/
def tableComplete (s : State) : Bool :=
  match s.mbc.current with
  | none => false
  | some v => (viewLegs v.members).all (fun l => l.1 == s.cfg.id || recordValid s l.1 l.2)

/-! ### SPREAD (R122, R123) -/

/-- The slot offset of leg `i` of `n` (R122); the offset of leg `n` is P. -/
def slotOffset (p n i : Nat) : Nat := i * p / n

/-- The ceiling (R122). -/
def ceiling (p n k : Nat) : Nat := min p (k * p / n)

/-- The start of a SPREAD window (R123). -/
def spreadStart (p n : Nat) (a : Alignment) (i grant : Nat) : Nat :=
  let o := slotOffset p n i
  let width := slotOffset p n (i + 1) - o
  match a with
  | .lead => o
  | .center => (o + width / 2 + p - grant / 2) % p

/-- The SPREAD windows of legs with these demands, from leg `i` of `n` on (R123). -/
def spreadWindows (p n k : Nat) (a : Alignment) : Nat → List Nat → List Window
  | _, [] => []
  | i, d :: rest =>
    let grant := min d (ceiling p n k)
    { grant := grant, start := spreadStart p n a i grant } :: spreadWindows p n k a (i + 1) rest

/-! ### PACK (R124, R125) -/

/-- One round's satisfied legs: those unsatisfied whose demand is at most the share get their demand (R124 step 3). -/
def satisfy (share : Nat) (ds : List Nat) (gs : List (Option Nat)) : List (Option Nat) :=
  List.zipWith (fun d g =>
    match g with
    | some g => some g
    | none => if d ≤ share then some d else none) ds gs

/-- The number of unsatisfied legs. -/
def unsatisfied (gs : List (Option Nat)) : Nat := (gs.filter (·.isNone)).length

/-- The sum of the grants made. -/
def granted (gs : List (Option Nat)) : Nat := (gs.map (fun g => g.getD 0)).sum

/-- The legs still unsatisfied get the share, the first of them one tick more while a leftover lasts (R124 step 5). -/
def giveShare (share : Nat) : Nat → List (Option Nat) → List Nat
  | _, [] => []
  | left, some g :: rest => g :: giveShare share left rest
  | 0, none :: rest => share :: giveShare share 0 rest
  | left + 1, none :: rest => (share + 1) :: giveShare share left rest

/-- Water-filling of a budget among demands (R124); the fuel is the number of rounds allowed, one more than legs. -/
def fillRounds (budget : Nat) (ds : List Nat) : Nat → List (Option Nat) → List Nat
  | 0, gs => gs.map (fun g => g.getD 0)
  | fuel + 1, gs =>
    let left := budget - granted gs
    let share := left / unsatisfied gs
    let next := satisfy share ds gs
    if unsatisfied next = unsatisfied gs then giveShare share (left - share * unsatisfied gs) gs
    else fillRounds budget ds fuel next

/-- The PACK grants (R124). -/
def packGrants (budget : Nat) (ds : List Nat) : List Nat :=
  if ds.sum ≤ budget then ds
  else fillRounds budget ds (ds.length + 1) (ds.map (fun _ => none))

/-- The PACK windows end to end from a running sum (R125). -/
def packWindows (p : Nat) : Nat → List Nat → List Window
  | _, [] => []
  | acc, g :: rest => { grant := g, start := acc % p } :: packWindows p (acc + g) rest

/-! ### The plan (R126, R127, R129, R137) -/

/-- The windows of all legs of a view, by the configured placement (R123, R125). -/
def planWindows (fp : Fingerprint) (ds : List Nat) : List Window :=
  match fp.placement with
  | .spread => spreadWindows fp.p ds.length fp.k fp.alignment 0 ds
  | .pack => packWindows fp.p 0 (packGrants (fp.k * fp.p) ds)

/-- The entries of a plan, numbered from `i` (R126). -/
def planEntries (s : State) : Nat → List (Nat × Nat) → List Window → List PlanEntry
  | i, (id, leg) :: legs, w :: ws =>
    { index := i, id := id, leg := leg, own := id == s.cfg.id, known := (effectiveDemand s id leg).1,
      demand := (effectiveDemand s id leg).2, window := w } :: planEntries s (i + 1) legs ws
  | _, _, _ => []

/-- The plan of the current cycle on a view (R126, R127). -/
def planOf (s : State) (v : View) : Plan :=
  let legs := viewLegs v.members
  let ds := legs.map (fun l => (effectiveDemand s l.1 l.2).2)
  { cycle := s.cyt.cycle
    epoch := v.epoch
    placement := s.cfg.fp.placement
    alignment := s.cfg.fp.alignment
    n := legs.length
    entries := planEntries s 0 legs (planWindows s.cfg.fp ds) }

/-- The minimum window suppresses a leg whose grant is above 0 and below it (R137). -/
def suppresses (minWindow : Nat) (w : Option Window) : Bool :=
  match w with
  | some w => decide (0 < w.grant) && decide (w.grant < minWindow)
  | none => false

/-- The plan of the current cycle is made: the windows of the plan replaced become the previous windows, and the
suppression flags are set (R127, R129, R137). -/
def makePlan (s : State) : State :=
  match s.mbc.current with
  | none => s
  | some v =>
    let plan := planOf s v
    { s with
      plu := { s.plu with plan := some plan
                          prev0 := currentWindow s 0
                          prev1 := if s.cfg.legs = 2 then currentWindow s 1 else none }
      los := { s.los with supp0 := suppresses s.cfg.minWindow (ownWindow plan 0)
                          supp1 := suppresses s.cfg.minWindow (ownWindow plan 1) } }

/-- The end of a boundary at the Plan Unit: the table-complete flag and the plan, in MEMBER and LEAVING (R121, R127). -/
def planBoundary (s : State) : State :=
  if s.mbc.station.inGroup then makePlan { s with plu.complete := tableComplete s } else s

/-! ### Commands -/

/-- The command HEARTBEAT (R115): a heartbeat CLAIM request is posted. -/
def execHeartbeat (s : State) : Host.Outcome State Fault Refusal :=
  happen s (heartbeatDue s) (fun s => postRequest s .claim)

/-- LEASE_EXPIRY is due: MEMBER with the lease count at 1, at a boundary that found the station MEMBER and whose counts
are still to be made, so that neither the boundary of an admission nor one already counted expires it (R118, R119). -/
def leaseExpiryDue (s : State) : Bool :=
  s.mbc.station == .member && s.cyt.begun && s.plu.counting && s.plu.lease == 1

/-- The command LEASE_EXPIRY (R119): the step of the lease count from 1 to 0 with its effects. -/
def execLeaseExpiry (s : State) : Host.Outcome State Fault Refusal :=
  happen s (leaseExpiryDue s) expireLease

end Sys2Proof.Machine
end

