-- ==== Sys2Proof/Machine/Readouts.lean ====
section
/-!
DEFINITION. The result bytes of every readout (R175 to R180, R189, R190).
-/

namespace Sys2Proof.Machine

/-- A flag at a bit place. -/
def flagAt (b : Bool) (place : Nat) : Nat := if b then 2 ^ place else 0

/-- The bytes of an optional two-byte value; absent ones are sent as 00h (R189). -/
def optWord (w : Option U16) : List Byte := wordBytes (w.getD 0)

/-- A station state's code (R189). -/
def stationCode : Station → Nat
  | .unconfigured => 0
  | .detached => 1
  | .listening => 2
  | .aligning => 3
  | .hailing => 4
  | .member => 5
  | .leaving => 6

/-- The FAULT latch's code (R189). -/
def latchCode : Latch → Nat
  | .clear => 0
  | .asserted => 1
  | .waiting => 2

/-- A peer kind's code (R189). -/
def peerKindCode : PeerKind → Nat
  | .heard => 0
  | .member => 1
  | .lost => 2

/-- A verdict's code (R189). -/
def verdictCode : Verdict → Nat
  | .unknown => 0
  | .isMatch => 1
  | .mismatch => 2

/-- An own leg's requested, published and effective demand; 0 on an unconfigured leg (R132, R175). -/
def legDemandBytes (s : State) (leg : Nat) : List Byte :=
  if leg < s.cfg.legs then
    natBytes (ownLeg s leg).requested ++ natBytes (ownLeg s leg).published ++ natBytes (ownLeg s leg).published
  else natBytes 0 ++ natBytes 0 ++ natBytes 0

/-- The flags byte of the status record (R189). -/
def statusFlags (s : State) : Nat :=
  flagAt s.cyt.adopted 0 + flagAt (lockFlag s) 1 + flagAt s.sli.stuck 2 + flagAt s.tli.stuck 3 +
  flagAt s.plu.complete 4 + flagAt (quietHold s) 5 + flagAt s.mbc.current.isSome 6 + flagAt s.mbc.pending.isSome 7

/-- The 33 bytes of the status record (R175, R189). -/
def statusRecord (s : State) : List Byte :=
  [natByte (stationCode s.mbc.station), natByte (reasonCode s.mbc.reason), natByte (statusFlags s),
   natByte (latchCode s.los.latch)]
  ++ wordBytes s.cyt.cycle
  ++ optWord (s.mbc.current.map (·.epoch))
  ++ [natByte ((s.mbc.current.map (fun v => v.members.length)).getD 0),
      natByte ((s.mbc.current.map (fun v => legTotal v.members)).getD 0)]
  ++ optWord (s.mbc.pending.map (·.view.epoch))
  ++ optWord (s.mbc.pending.map (·.switchCycle))
  ++ legDemandBytes s 0 ++ legDemandBytes s 1
  ++ natBytes s.plu.lease
  ++ [natByte s.tli.failures, s.cyt.slips]
  ++ natBytes s.cyt.lastSnap
  ++ [natByte s.evq.records.length]

/-- The view index of a member's leg 0: the legs listed before it (R176). -/
def legIndex (ms : List Member) (index : Nat) : Nat := legTotal (ms.take index)

/-- The 21 bytes of a view member (R176, R189); `switchCycle` is absent for the current view. -/
def viewRecord (which : Byte) (v : View) (switchCycle : Option U16) (index : Nat) (m : Member) : List Byte :=
  [which, natByte (flagAt switchCycle.isSome 0)]
  ++ wordBytes v.epoch ++ optWord switchCycle
  ++ [natByte v.members.length, natByte (legTotal v.members), natByte (anchorOf v.members)]
  ++ wordBytes (digestOf v.members)
  ++ fingerprintBytes v.fp
  ++ [natByte m.id, natByte m.legs, natByte (flagAt m.new 0), natByte (legIndex v.members index)]

/-- The bytes of a peer's leg record (R189). -/
def legRecordBytes (r : LegRecord) : List Byte :=
  natBytes r.current ++ natBytes ((r.pending.map (·.demand)).getD 0) ++ optWord (r.pending.map (·.applyCycle))

/-- The 24 bytes of a peer entry (R177, R189). -/
def peerRecord (count : Nat) (p : Peer) : List Byte :=
  [natByte count, natByte p.id, natByte (peerKindCode p.kind),
   natByte (flagAt p.legs.isSome 0 + flagAt p.lastEpoch.isSome 1 + flagAt p.leg0.pending.isSome 2 +
     flagAt p.leg1.pending.isSome 3),
   natByte (p.legs.getD 0), natByte (verdictCode p.verdict), natByte p.silence]
  ++ optWord p.lastEpoch
  ++ [natByte (flagAt p.foreign 0 + flagAt p.leg0.valid 1 + flagAt p.leg1.valid 2)]
  ++ legRecordBytes p.leg0 ++ legRecordBytes p.leg1
  ++ natBytes (p.legs.getD 0 * 8)

/-- The 17 bytes of a plan entry (R178, R189). -/
def planRecord (p : Plan) (e : PlanEntry) : List Byte :=
  wordBytes p.cycle ++ wordBytes p.epoch
  ++ [natByte (if p.placement = .pack then 1 else 0), natByte (if p.alignment = .center then 1 else 0), natByte p.n,
      natByte e.index, natByte e.id, natByte e.leg, natByte (flagAt e.own 0 + flagAt e.known 1)]
  ++ natBytes e.demand ++ natBytes e.window.grant ++ natBytes e.window.start

/-- Change, presence, leg count and cause of a change entry (R189). -/
def changeBytes : Change → List Byte
  | .add legs => [0, 1, natByte legs, 0]
  | .remove .leave => [1, 2, 0, 0]
  | .remove .lost => [1, 2, 0, 1]
  | .refresh legs => [2, 1, natByte legs, 0]

/-- The 8 bytes of a change entry (R179, R189). -/
def changeRecord (count : Nat) (e : ChangeEntry) : List Byte :=
  [natByte count, natByte e.id] ++ changeBytes e.change ++ wordBytes e.trigger

/-- An event kind's code (R190). -/
def eventCode : EventKind → Nat
  | .syncFault => 0x01
  | .talkFault => 0x02
  | .muted => 0x03
  | .duplicateId => 0x04
  | .faultOn => 0x05
  | .leaseExpired => 0x06
  | .overrun => 0x07
  | .founded => 0x11
  | .joined => 0x12
  | .left => 0x13
  | .excluded => 0x14
  | .viewChanged => 0x15
  | .notAdmitted => 0x16
  | .foreignView => 0x17
  | .outOfStep => 0x18
  | .peerHeard => 0x21
  | .peerLost => 0x22
  | .peerReturned => 0x23
  | .hailRefused => 0x24
  | .tableFull => 0x25
  | .slip => 0x31
  | .faultOff => 0x32
  | .recastRejected => 0x33
  | .alignTimeout => 0x34
  | .restarted => 0x35

/-- The 9 bytes of an event record (R190). -/
def eventRecord (e : Event) : List Byte :=
  [natByte (eventCode e.kind), natByte (eventRank e),
   natByte (flagAt e.cycle.isSome 0 + flagAt e.station.isSome 1 + flagAt e.detail.isSome 2)]
  ++ optWord e.cycle
  ++ [natByte (e.station.getD 0), natByte ((e.detail.map (·.code)).getD 0)]
  ++ natBytes ((e.detail.map (·.value)).getD 0)

/-- The enable set in bits 3 to 0 (R187). -/
def enablesByte (e : Enables) : Byte :=
  natByte (flagAt e.alarm 0 + flagAt e.membership 1 + flagAt e.peer 2 + flagAt e.notice 3)

end Sys2Proof.Machine
end

