-- ==== Sys2Proof/Machine/Commands.lean ====
section
/-!
DEFINITION. What each host command does once it is taken (10.3 to 10.6): the checks of R172 in order, the effects, the
response. Machine/HostPort.lean says when a command is taken.
-/

namespace Sys2Proof.Machine

/-- What taking a command leaves: the part after its effects, the status, and the result bytes (R169). -/
structure Answer where
  after : State
  status : Status
  results : List Byte
  deriving DecidableEq, Repr

/-- A command refused or with nothing to return: no effect and no result (R172). -/
def turnDown (s : State) (status : Status) : Answer := { after := s, status := status, results := [] }

/-- A command carried out with these results. -/
def carryOut (s : State) (results : List Byte) : Answer := { after := s, status := .ok, results := results }

/-- A readout of what is held at an index; EMPTY where nothing is (R172). -/
def readOut (s : State) (results : Option (List Byte)) : Answer :=
  match results with
  | some bytes => carryOut s bytes
  | none => turnDown s .empty

/-! ### CONFIGURE (R160, R162, R163) -/

/-- An accepted CONFIGURE: the record is stored and locked, the prescaler starts from 0, every block takes the values of
an accepted CONFIGURE, the station is DETACHED with reason NONE; the event queue and the enables stay (R20, R42, R84,
R131, R140, R158, R162). -/
def configured (s : State) (record : ConfigRecord) : State :=
  { State.reset with
    cyt.prescRunning := true
    mbc.station := .detached
    evq := s.evq
    hpt := s.hpt
    cfg := record
    locked := true
    resetAsserted := s.resetAsserted
    selLow := s.selLow
    pending := s.pending }

/-- CONFIGURE: LOCKED, RANGE with the number of the first failing test, or accepted (R160 to R163). -/
def takeConfigure (record : List Byte) (s : State) : Answer :=
  if s.locked then turnDown s .locked
  else
    match firstFailing record with
    | some test => { after := s, status := .range, results := [natByte test] }
    | none => carryOut (configured s (decodeConfig record)) []

/-! ### JOIN, LEAVE, RESTART -/

/-- An accepted JOIN (R19, R20, R42, R48, R131). -/
def joined (s : State) : State :=
  let t := zeroPublished (clearPlan (clearViews (setStation s .listening)))
  { t with
    cyt := { t.cyt with position := 0, cycle := 0, adopted := false, lockCount := 0, lastSnap := 0, slips := 0,
                        begun := false }
    sli := SyncLine.held
    tli := TalkLine.held
    mbc := { t.mbc with listenCount := 0 }
    peers := []
    plu := { t.plu with age := 0, claimed := false } }

/-- JOIN (R47, R48). -/
def takeJoin (s : State) : Answer :=
  if s.mbc.station = .detached then carryOut (joined s) [] else turnDown s .wrongState

/-- A view lists no station but this one, or is not held (R58). -/
def listsNoOther (s : State) (v : Option View) : Bool :=
  match v with
  | some v => v.members.all (fun m => m.id == s.cfg.id)
  | none => true

/-- The station alone: the current view lists it alone and no pending view lists another station (R58). -/
def alone (s : State) : Bool := listsNoOther s s.mbc.current && listsNoOther s (pendingOf s.mbc.pending)

/-- Entry to LEAVING (R58). -/
def enterLeaving (s : State) : State :=
  let t := setStation s .leaving
  postRequest { t with mbc := { t.mbc with leaveCount := 0, changes := [], backoff := none } } .leave

/-- LEAVE (R58, R65). -/
def takeLeaveCommand (s : State) : Answer :=
  match s.mbc.station with
  | .unconfigured => turnDown s .wrongState
  | .detached => turnDown s .wrongState
  | .leaving => turnDown s .wrongState
  | .listening => carryOut (detachLeft s .hostLeave) []
  | .aligning => carryOut (detachLeft s .hostLeave) []
  | .hailing => carryOut (detachLeft s .hostLeave) []
  | .member => carryOut (if alone s then detachLeft s .hostLeave else enterLeaving s) []

/-- What RESTART does beyond the entry to DETACHED (R20, R68, R131). -/
def restartRecords (s : State) : State :=
  { s with
    peers := []
    cyt := { s.cyt with lastSnap := 0, slips := 0 }
    plu := { s.plu with leg0 := OwnLeg.zero, leg1 := OwnLeg.zero, lease := 0, age := 0, claimed := false } }

/-- An accepted RESTART; RESTARTED carries the cycle number that stood before (R68, R174). -/
def restarted (s : State) : State :=
  postAt (restartRecords (enterDetached s .restarted)) (stamp s) .restarted none none

/-- RESTART (R68, R174). -/
def takeRestart (s : State) : Answer :=
  if s.mbc.station = .unconfigured then turnDown s .wrongState else carryOut (restarted s) []

/-! ### SET DEMAND, SET ENABLES -/

/-- An accepted SET DEMAND: the requested demand, the lease restart, the CLAIM-due test (R110, R111, R118). -/
def demanded (leg : Nat) (value : Nat) (s : State) : State :=
  let t := setOwnLeg s leg { ownLeg s leg with requested := value }
  let u := if t.cfg.lease = 0 then t else { t with plu.lease := t.cfg.lease * 8 }
  claimDueTest u

/-- SET DEMAND (R110). -/
def takeSetDemand (leg : Byte) (value : U16) (s : State) : Answer :=
  if s.mbc.station = .unconfigured then turnDown s .wrongState
  else if s.cfg.legs ≤ leg.toNat then turnDown s .range
  else if s.P < value.toNat then turnDown s .range
  else carryOut (demanded leg.toNat value.toNat s) []

/-- One enable after a write: bit `i` of the value nibble where bit `i` of the mask nibble is 1 (R156, R187). -/
def written (masks : Byte) (i : Nat) (old : Bool) : Bool :=
  if masks.getLsbD (i + 4) then masks.getLsbD i else old

/-- The enable set after a write (R156). -/
def Enables.write (e : Enables) (masks : Byte) : Enables :=
  { alarm := written masks 0 e.alarm
    membership := written masks 1 e.membership
    peer := written masks 2 e.peer
    notice := written masks 3 e.notice }

/-- SET ENABLES answers the set after the write (R156). -/
def takeSetEnables (masks : Byte) (s : State) : Answer :=
  let e := s.evq.enables.write masks
  carryOut { s with evq.enables := e } [enablesByte e]

/-! ### Readouts (R175 to R180) -/

/-- GET STATUS (R175). -/
def takeGetStatus (s : State) : Answer := carryOut s (statusRecord s)

/-- The view in a holder with its switch cycle (R176). -/
def heldView (s : State) (which : Byte) : Option (View × Option U16) :=
  if which = 0 then s.mbc.current.map (fun v => (v, none))
  else if which = 1 then s.mbc.pending.map (fun p => (p.view, some p.switchCycle))
  else s.mbc.observed.pending.map (fun p => (p.view, some p.switchCycle))

/-- GET VIEW (R176). -/
def takeGetView (which index : Byte) (s : State) : Answer :=
  if 2 < which.toNat then turnDown s .range
  else
    readOut s ((heldView s which).bind (fun h =>
      (h.1.members[index.toNat]?).map (fun m => viewRecord which h.1 h.2 index.toNat m)))

/-- GET PEER (R177). -/
def takeGetPeer (index : Byte) (s : State) : Answer :=
  readOut s ((s.peers[index.toNat]?).map (peerRecord s.peers.length))

/-- GET PLAN (R178). -/
def takeGetPlan (index : Byte) (s : State) : Answer :=
  readOut s (s.plu.plan.bind (fun p => (p.entries[index.toNat]?).map (planRecord p)))

/-- GET CHANGE (R179). -/
def takeGetChange (index : Byte) (s : State) : Answer :=
  readOut s ((s.mbc.changes[index.toNat]?).map (changeRecord s.mbc.changes.length))

/-- PEEK EVENT: the record POP EVENT would remove, which stays (R154, R180). -/
def takePeekEvent (s : State) : Answer := readOut s ((nextEvent s.evq.records).map eventRecord)

/-- POP EVENT removes the oldest record of the highest-ranked class present and answers it (R153, R180). -/
def takePopEvent (s : State) : Answer :=
  match nextEvent s.evq.records with
  | some e => carryOut { s with evq.records := removeFirstOfRank s.evq.records (eventRank e) } (eventRecord e)
  | none => turnDown s .empty

/-- A code that names no command: UNKNOWN and no effect (R173). -/
def takeUnknown (s : State) : Answer := turnDown s .unknown

/-- The command that a code and its operands spell (R187). -/
def takeCode (code : Byte) (ops : List Byte) (s : State) : Answer :=
  if code = 0x01#8 then takeConfigure ops s
  else if code = 0x02#8 then takeJoin s
  else if code = 0x03#8 then takeLeaveCommand s
  else if code = 0x04#8 then takeRestart s
  else if code = 0x05#8 then takeSetDemand (byteAt ops 0) (wordAt ops 1) s
  else if code = 0x06#8 then takeSetEnables (byteAt ops 0) s
  else if code = 0x10#8 then takeGetStatus s
  else if code = 0x11#8 then takeGetView (byteAt ops 0) (byteAt ops 1) s
  else if code = 0x12#8 then takeGetPeer (byteAt ops 0) s
  else if code = 0x13#8 then takeGetPlan (byteAt ops 0) s
  else if code = 0x14#8 then takeGetChange (byteAt ops 0) s
  else if code = 0x20#8 then takePeekEvent s
  else if code = 0x21#8 then takePopEvent s
  else takeUnknown s

end Sys2Proof.Machine
end

