-- ==== Sys2Proof/Machine/HostPort.lean ====
section
/-!
DEFINITION. The Host Port (10.2, 10.3): the phases of a transaction, the byte that takes a command, SEL, RESET; the
commands of the host port and of the reset pin.
-/

namespace Sys2Proof.Machine

/-! ### Taking (R168, R169) -/

/-- The port stands at the byte that completes this command: in CODE for one without operands, in OPERANDS with the
code and every operand but the last held for the others (R168). -/
def portReady (s : State) (code : Byte) (ops : List Byte) : Bool :=
  if ops = [] then s.hpt.phase == .code
  else s.hpt.phase == .operands && s.hpt.code == some code && s.hpt.operands == ops.dropLast &&
    operandCount code == some ops.length

/-- The response of a taken command stands ready: the status byte, then the results (R168, R172). -/
def respond (a : Answer) : State :=
  { a.after with
    hpt := { phase := .response, code := none, operands := [], response := statusByte a.status :: a.results } }

/-! ### A complete byte (R168) -/

/-- The byte is the command code (R168). -/
def codeByte (b : Byte) (s : State) : State :=
  match operandCount b with
  | none => respond (takeCode b [] s)
  | some n =>
    if n = 0 then respond (takeCode b [] s)
    else { s with hpt := { s.hpt with phase := .operands, code := some b, operands := [] } }

/-- The byte is an operand; the last one takes the command (R168). -/
def operandByte (b : Byte) (s : State) : State :=
  let ops := s.hpt.operands ++ [b]
  match s.hpt.code with
  | none => s
  | some code =>
    if (operandCount code).getD 0 ≤ ops.length then respond (takeCode code ops s)
    else { s with hpt.operands := ops }

/-- A byte of the response has been shifted out; after the last the port is SPENT (R168). -/
def responseByte (s : State) : State :=
  { s with
    hpt := { s.hpt with response := s.hpt.response.tail
                        phase := if s.hpt.response.tail = [] then .spent else .response } }

/-- A complete byte in each phase; IDLE, SPENT and BLOCKED ignore it (R167, R168, R171). -/
def byteComplete (b : Byte) (s : State) : State :=
  match s.hpt.phase with
  | .code => codeByte b s
  | .operands => operandByte b s
  | .response => responseByte s
  | .idle => s
  | .spent => s
  | .blocked => s

/-! ### A readout between a boundary's acts (R132, R169) -/

/-- The byte completes a readout: GET STATUS, GET VIEW, GET PEER, GET PLAN, GET CHANGE or PEEK EVENT. -/
def completesReadout (s : State) (b : Byte) : Bool :=
  !s.resetAsserted && s.selLow &&
  (match s.hpt.phase, s.hpt.code with
   | .code, _ => b == 0x10#8 || b == 0x20#8
   | .operands, some code => [0x11#8, 0x12#8, 0x13#8, 0x14#8].contains code &&
      decide ((operandCount code).getD 0 ≤ s.hpt.operands.length + 1)
   | _, _ => false)

/-- The readout that the order places after the `k`-th act of the boundary, if it is due there (R169). -/
def readoutAt (order : BoundaryOrder) (k : Nat) (s : State) : State :=
  match order.readout with
  | some r => if r.after = k ∧ completesReadout s r.byte then byteComplete r.byte s else s
  | none => s

/-! ### SEL (R168, R170) -/

/-- SEL falls: a transaction opens from IDLE (R168); in reset the pin alone moves (R171). -/
def selFall (s : State) : State :=
  { s with
    selLow := true
    hpt.phase := if !s.resetAsserted && s.hpt.phase == .idle then .code else s.hpt.phase }

/-- SEL rises: the port is IDLE and holds nothing (R168, R170). -/
def selRise (s : State) : State :=
  { s with
    selLow := false
    hpt := { phase := .idle, code := none, operands := [], response := [] } }

/-! ### RESET (R20, R42, R43, R84, R131, R146, R158, R163, R171) -/

/-- A full reset: every block at its reset value while RESET is low; SEL and the commands that wait are not the
part's. -/
def fullReset (s : State) : State :=
  { State.reset with resetAsserted := true, selLow := s.selLow, pending := s.pending }

/-- RESET is released: the port is IDLE with SEL high and BLOCKED with SEL low (R171). -/
def releaseReset (s : State) : State :=
  { s with
    resetAsserted := false
    hpt.phase := if s.selLow then .blocked else .idle }

/-! ### Commands -/

/-- The command FULL_RESET (R20): RESET goes low. -/
def execFullReset (s : State) : Host.Outcome State Fault Refusal := .next (settle (fullReset s))

/-- The command RESET_RELEASE (R171): RESET goes high. -/
def execResetRelease (s : State) : Host.Outcome State Fault Refusal :=
  .next (if s.resetAsserted then releaseReset s else s)

/-- The command SEL_FALL (R168). -/
def execSelFall (s : State) : Host.Outcome State Fault Refusal :=
  .next (if s.selLow then s else selFall s)

/-- The command SEL_RISE (R168). -/
def execSelRise (s : State) : Host.Outcome State Fault Refusal :=
  .next (if s.selLow then selRise s else s)

/-- The command BYTE_COMPLETE (R167, R168): the eighth bit of a byte on SDI is sampled. -/
def execByteComplete (b : Byte) (s : State) : Host.Outcome State Fault Refusal :=
  happen s s.selLow (byteComplete b)

/-- The command CONFIGURE (R162). -/
def execConfigure (record : List Byte) (s : State) : Host.Outcome State Fault Refusal :=
  happen s (portReady s 0x01#8 record && record.length == 13) (fun s => respond (takeConfigure record s))

/-- The command JOIN (R48). -/
def execJoin (s : State) : Host.Outcome State Fault Refusal :=
  happen s (portReady s 0x02#8 []) (fun s => respond (takeJoin s))

/-- The command LEAVE (R58). -/
def execLeave (s : State) : Host.Outcome State Fault Refusal :=
  happen s (portReady s 0x03#8 []) (fun s => respond (takeLeaveCommand s))

/-- The command RESTART (R174). -/
def execRestart (s : State) : Host.Outcome State Fault Refusal :=
  happen s (portReady s 0x04#8 []) (fun s => respond (takeRestart s))

/-- The command SET DEMAND (R110). -/
def execSetDemand (leg : Byte) (value : U16) (s : State) : Host.Outcome State Fault Refusal :=
  happen s (portReady s 0x05#8 (leg :: wordBytes value)) (fun s => respond (takeSetDemand leg value s))

/-- The command SET ENABLES (R156). -/
def execSetEnables (masks : Byte) (s : State) : Host.Outcome State Fault Refusal :=
  happen s (portReady s 0x06#8 [masks]) (fun s => respond (takeSetEnables masks s))

/-- The command GET STATUS (R175). -/
def execGetStatus (s : State) : Host.Outcome State Fault Refusal :=
  happen s (portReady s 0x10#8 []) (fun s => respond (takeGetStatus s))

/-- The command GET VIEW (R176). -/
def execGetView (which index : Byte) (s : State) : Host.Outcome State Fault Refusal :=
  happen s (portReady s 0x11#8 [which, index]) (fun s => respond (takeGetView which index s))

/-- The command GET PEER (R177). -/
def execGetPeer (index : Byte) (s : State) : Host.Outcome State Fault Refusal :=
  happen s (portReady s 0x12#8 [index]) (fun s => respond (takeGetPeer index s))

/-- The command GET PLAN (R178). -/
def execGetPlan (index : Byte) (s : State) : Host.Outcome State Fault Refusal :=
  happen s (portReady s 0x13#8 [index]) (fun s => respond (takeGetPlan index s))

/-- The command GET CHANGE (R179). -/
def execGetChange (index : Byte) (s : State) : Host.Outcome State Fault Refusal :=
  happen s (portReady s 0x14#8 [index]) (fun s => respond (takeGetChange index s))

/-- The command PEEK EVENT (R154). -/
def execPeekEvent (s : State) : Host.Outcome State Fault Refusal :=
  happen s (portReady s 0x20#8 []) (fun s => respond (takePeekEvent s))

/-- The command POP EVENT (R153). -/
def execPopEvent (s : State) : Host.Outcome State Fault Refusal :=
  happen s (portReady s 0x21#8 []) (fun s => respond (takePopEvent s))

/-- The command UNKNOWN_CODE (R173): the code byte names none of the thirteen commands. -/
def execUnknownCode (code : Byte) (s : State) : Host.Outcome State Fault Refusal :=
  happen s (portReady s code [] && (operandCount code).isNone) (fun s => respond (takeUnknown s))

end Sys2Proof.Machine
end

