-- ==== Sys2Proof/Machine/Views.lean ====
section
/-!
DEFINITION. Views and recasting at the Membership Controller (chapter 5) with founding and admission (3.4, 3.6): what
each accepted frame does there, and the switches; the commands FOUND_GROUP, VIEW_SWITCH and OBSERVED_SWITCH.
-/

namespace Sys2Proof.Machine

/-! ### HAIL and LEAVE (R88, R89) -/

/-- The projected view of the room test: the base view with every other station's entry applied (R88 step 3). -/
def projectedMembers (s : State) (sender : Nat) : List Member :=
  match baseView s with
  | none => []
  | some v => (walkChanges v.members (s.mbc.changes.filter (fun e => !(e.id == sender)))).members

/-- The candidate applied to the projected view (R88 step 3). -/
def withCandidate (ms : List Member) (sender legs : Nat) (refresh : Bool) : List Member :=
  if lists ms sender then (if refresh then setLegs ms sender legs else ms)
  else insertMember ms { id := sender, legs := legs, new := false }

/-- An accepted HAIL of another station, judged in MEMBER (R88). -/
def judgeHail (s : State) (sender : Nat) (h : HailContent) : State :=
  if h.fp ≠ s.cfg.fp then refuseHail s sender false
  else
    let refresh := listedIn s.mbc.current sender
    if fits (withCandidate (projectedMembers s sender) sender h.legs refresh) then
      placeChange s sender (if refresh then .refresh h.legs else .add h.legs)
    else refuseHail s sender true

/-- An accepted LEAVE of another station, taken in MEMBER (R89). -/
def takeLeave (s : State) (sender : Nat) : State :=
  if listedIn s.mbc.current sender then placeChange s sender (.remove .leave) else s

/-! ### Foreign views (R103, R104) -/

/-- FOREIGN_VIEW with lost (0) or won (1) as detail (R190). -/
def postForeign (s : State) (sender : Nat) (won : Bool) : State :=
  post s .foreignView (some sender) (some { code := if won then 1 else 0, value := 0 })

/-- The station's own view wins: FOREIGN_VIEW(won) once per sender that has an entry, each time otherwise (R104, R83). -/
def foreignWon (s : State) (sender : Nat) : State :=
  match findPeer s.peers sender with
  | some p =>
    if p.foreign then s
    else postForeign { s with peers := updatePeer s.peers sender (fun q => { q with foreign := true }) } sender true
  | none => postForeign s sender true

/-- The station's own view loses: it posts FOREIGN_VIEW(lost) and enters ALIGNING with its published demand 0 (R64). -/
def foreignLost (s : State) (sender : Nat) : State :=
  zeroPublished (memberToAligning (postForeign s sender false))

/-- The identity of the current view. -/
def currentIdentity (s : State) : Identity :=
  match s.mbc.current with
  | some v => identityOf v.members
  | none => { size := 0, anchor := 0, digest := 0 }

/-- A foreign view compared with the current view (R103, R104); an equal one leaves the own view the winner. -/
def compareForeign (s : State) (sender : Nat) (i : Identity) : State :=
  if ranksAbove i (currentIdentity s) then foreignLost s sender else foreignWon s sender

/-! ### RECAST in MEMBER and LEAVING (R94 to R97) -/

/-- The member ids are strictly ascending. -/
def ascending : List Nat → Bool
  | [] => true
  | [_] => true
  | a :: b :: rest => decide (a < b) && ascending (b :: rest)

/-- The RECAST is MALFORMED (R95 test 1, R186); `bytes` is the payload length. -/
def malformed (r : RecastContent) (bytes : Nat) : Bool :=
  !(r.count + 11 == bytes) ||
  !ascending (r.members.map (·.id)) ||
  r.members.any (fun m => m.id == 0 || m.id == 63) ||
  decide (16 < legTotal r.members)

/-- The epoch is not newer than the current epoch, or than a held pending view's epoch (R95 test 3). -/
def superseded (s : State) (epoch : U16) : Bool :=
  (match s.mbc.current with
   | some v => !newer epoch v.epoch
   | none => false) ||
  (match s.mbc.pending with
   | some p => !newer epoch p.view.epoch
   | none => false)

/-- The switch cycle is 2 to 8 ahead of the cycle number (R95 test 4, R107). -/
def switchInReach (s : State) (switchCycle : U16) : Bool :=
  decide (2 ≤ ahead switchCycle s.cyt.cycle) && decide (ahead switchCycle s.cyt.cycle ≤ 8)

/-- The first test a RECAST fails, as the detail code of RECAST_REJECTED (R95, R190). -/
def recastFailure (s : State) (r : RecastContent) (bytes : Nat) : Option Nat :=
  if malformed r bytes then some 0
  else if r.fp ≠ s.cfg.fp then some 1
  else if superseded s r.epoch then some 2
  else if !switchInReach s r.switchCycle then some 3
  else none

/-- A RECAST as a pending view (R96, R107). -/
def pendingView (r : RecastContent) : PendingView :=
  { view := { epoch := r.epoch, members := r.members, fp := r.fp }, switchCycle := r.switchCycle }

/-- The backoff timer after a RECAST taken in MEMBER (R97). -/
def restartBackoff (s : State) : State :=
  if s.mbc.changes = [] then { s with mbc.backoff := none } else setBackoff s

/-- A RECAST from a current member is tested and adopted or rejected (R95 to R97). -/
def testRecast (s : State) (sender : Nat) (r : RecastContent) (bytes : Nat) : State :=
  let t := match recastFailure s r bytes with
    | some reason => post s .recastRejected (some sender) (some { code := reason, value := r.epoch.toNat })
    | none =>
      let adopted := { s with mbc.pending := some (pendingView r) }
      if s.mbc.station = .member then coverChanges adopted r.members else adopted
  if s.mbc.station = .member then restartBackoff t else t

/-- The frame is foreign in MEMBER, is compared, and the station's own view wins (R103, R104). -/
def foreignWins (s : State) (kind : FrameKind) (sender : Nat) (payload : List Byte) : Bool :=
  s.mbc.station == .member && !listedIn s.mbc.current sender && !listedIn (pendingOf s.mbc.pending) sender &&
  (match kind with
   | .claim => !ranksAbove (decodeClaim payload).identity (currentIdentity s)
   | .recast => !malformed (decodeRecast payload) payload.length &&
      !ranksAbove (identityOf (decodeRecast payload).members) (currentIdentity s)
   | .hail => false
   | .leave => false)

/-- A RECAST taken in MEMBER or LEAVING (R94). -/
def memberRecast (s : State) (sender : Nat) (r : RecastContent) (bytes : Nat) : State :=
  if listedIn s.mbc.current sender then testRecast s sender r bytes
  else if s.mbc.station = .member ∧ listedIn (pendingOf s.mbc.pending) sender = false then
    if malformed r bytes then s else compareForeign s sender (identityOf r.members)
  else s

/-! ### CLAIM in MEMBER (R101, R103) -/

/-- A CLAIM from a listed sender shows the station out of step: the count test or the view test fails (R101). -/
def outOfStep (s : State) (sender : Nat) (c : ClaimContent) : Bool :=
  !(ahead (c.cycle + 2) s.cyt.cycle == 1 || ahead (c.cycle + 2) s.cyt.cycle == 2) ||
  (match s.mbc.current with
   | some v => lists v.members sender && newer c.epoch v.epoch &&
      (match s.mbc.pending with
       | some p => newer c.epoch p.view.epoch
       | none => true)
   | none => false)

/-- A CLAIM taken in MEMBER (R101, R103). -/
def memberClaim (s : State) (sender : Nat) (c : ClaimContent) : State :=
  if listedIn s.mbc.current sender || listedIn (pendingOf s.mbc.pending) sender then
    if outOfStep s sender c then memberToAligning (post s .outOfStep (some sender) none) else s
  else compareForeign s sender c.identity

/-! ### Following from outside (R105 to R107) -/

/-- An id in ascending place without duplicate. -/
def insertId : List Nat → Nat → List Nat
  | [], x => [x]
  | y :: rest, x => if x < y then x :: y :: rest else if x = y then y :: rest else y :: insertId rest x

/-- The sender is added to the best senders, which hold the 16 lowest ids (R105). -/
def addSender (senders : List Nat) (id : Nat) : List Nat := (insertId senders id).take 16

/-- The judgement of a CLAIM against the best identity (R106). -/
inductive ClaimCase where
  | first
  | equal
  | movedOn
  | higher
  | lower
  deriving DecidableEq, Repr

/-- The first case of R106 that applies. -/
def claimCase (o : Observed) (sender : Nat) (c : ClaimContent) : ClaimCase :=
  match o.best with
  | none => .first
  | some b =>
    if c.identity = b.identity then .equal
    else if o.senders.contains sender && newer c.epoch b.epoch then .movedOn
    else if ranksAbove c.identity b.identity then .higher
    else .lower

/-- The observed record after a CLAIM (R106). -/
def observeClaim (o : Observed) (sender : Nat) (c : ClaimContent) : Observed :=
  let taken := some { identity := c.identity, epoch := c.epoch }
  match claimCase o sender c with
  | .first => { o with best := taken, senders := [sender] }
  | .equal =>
    { o with best := o.best.map (fun b => { b with epoch := if newer c.epoch b.epoch then c.epoch else b.epoch })
             senders := addSender o.senders sender }
  | .movedOn =>
    { best := taken, senders := [sender]
      pending := o.pending.filter (fun p => newer p.view.epoch c.epoch) }
  | .higher => { best := taken, senders := [sender], pending := none }
  | .lower => o

/-- The cycle number is taken from a CLAIM, plus 1 if a boundary passed during the frame, and the adopted flag is
set; an ALIGNING station with lock then enters HAILING (R16, R52). -/
def adoptCycle (s : State) (c : ClaimContent) (boundary : Bool) : State :=
  tryHail { s with
    cyt := { s.cyt with cycle := if boundary then c.cycle + 1 else c.cycle, adopted := true, begun := false } }

/-- A CLAIM of another station taken in ALIGNING or HAILING (R16, R106). -/
def followClaim (s : State) (sender : Nat) (c : ClaimContent) (boundary : Bool) : State :=
  if claimCase s.mbc.observed sender c = .lower then s
  else adoptCycle { s with mbc.observed := observeClaim s.mbc.observed sender c } c boundary

/-- The observed epoch (R105). DESIGN CHOICE (log 20): of two epochs 32768 apart, of which R1 calls neither newer, it is
the best identity's. -/
def observedEpoch (o : Observed) : Option U16 :=
  match o.best, o.pending with
  | some b, some p => some (if newer p.view.epoch b.epoch then p.view.epoch else b.epoch)
  | some b, none => some b.epoch
  | none, some p => some p.view.epoch
  | none, none => none

/-- A RECAST of another station is adopted as the observed pending view (R107). -/
def observable (s : State) (sender : Nat) (r : RecastContent) (bytes : Nat) : Bool :=
  s.mbc.observed.senders.contains sender &&
  !malformed r bytes &&
  r.fp == s.cfg.fp &&
  (match observedEpoch s.mbc.observed with
   | some e => newer r.epoch e
   | none => true) &&
  s.cyt.adopted &&
  switchInReach s r.switchCycle

/-- A RECAST of another station taken in ALIGNING or HAILING (R107). -/
def followRecast (s : State) (sender : Nat) (r : RecastContent) (bytes : Nat) : State :=
  if observable s sender r bytes then { s with mbc.observed.pending := some (pendingView r) } else s

/-! ### An accepted frame at the Membership Controller -/

/-- A frame accepted in LISTENING sets the listen count back to 0 (R49). -/
def hearListening (s : State) : State := { s with mbc.listenCount := 0 }

/-- What the Membership Controller does with an accepted frame, by station state (R49, R59, R88, R89, R94, R101, R106,
R107). `own` is the station's own transmission. -/
def controllerFrame (s : State) (kind : FrameKind) (sender : Nat) (payload : List Byte) (own boundary : Bool) : State :=
  match s.mbc.station with
  | .listening => hearListening s
  | .aligning => follow
  | .hailing => follow
  | .member =>
    match kind with
    | .hail => if own then s else judgeHail s sender (decodeHail payload)
    | .claim => memberClaim s sender (decodeClaim payload)
    | .recast => memberRecast s sender (decodeRecast payload) payload.length
    | .leave => if own then s else takeLeave s sender
  | .leaving =>
    match kind with
    | .recast => memberRecast s sender (decodeRecast payload) payload.length
    | _ => s
  | _ => s
where
  /-- ALIGNING and HAILING follow the frames of others (R106, R107). -/
  follow : State :=
    if own then s
    else
      match kind with
      | .claim => followClaim s sender (decodeClaim payload) boundary
      | .recast => followRecast s sender (decodeRecast payload) payload.length
      | _ => s

/-! ### Switches (R50, R56, R59, R62, R99, R108) -/

/-- A view switch that lists the station with the new flag zeroes its published demand (R99, R116). -/
def zeroIfNew (s : State) (v : View) : State :=
  if listsNew v.members s.cfg.id then zeroPublished s else s

/-- The station is excluded in MEMBER: EXCLUDED is posted and it enters ALIGNING with published demand 0 (R62). -/
def exclude (s : State) (v : View) : State :=
  zeroPublished (memberToAligning (post s .excluded none (some { code := 0, value := v.epoch.toNat })))

/-- The pending view becomes current in MEMBER (R62, R80, R99). -/
def memberSwitch (s : State) (v : View) : State :=
  if lists v.members s.cfg.id then
    let posted := post s .viewChanged none (some { code := v.members.length, value := v.epoch.toNat })
    let t := zeroIfNew (tableSwitch posted v) v
    if listsNew v.members s.cfg.id then postRequest t .claim else t
  else exclude s v

/-- The pending view becomes current in LEAVING (R59). -/
def leavingSwitch (s : State) (v : View) : State :=
  if lists v.members s.cfg.id then postRequest (tableSwitch s v) .leave else detachLeft s .hostLeave

/-- The switch is due at a boundary: a pending view is held and its switch cycle is reached (R99). -/
def viewSwitchDue (s : State) : Bool :=
  s.mbc.station.inGroup && s.cyt.begun &&
  (match s.mbc.pending with
   | some p => reached s.cyt.cycle p.switchCycle
   | none => false)

/-- The switch (R59, R99). -/
def switchView (s : State) : State :=
  match s.mbc.pending with
  | none => s
  | some p =>
    let t := { s with mbc := { s.mbc with current := some p.view, pending := none } }
    if s.mbc.station = .member then memberSwitch t p.view else leavingSwitch t p.view

/-- The station is admitted (R56, R80, R116). -/
def admitTo (s : State) (v : View) : State :=
  let t := setStation s .member
  let u := post { t with mbc := { t.mbc with current := some v, pending := none, observed := Observed.empty } }
    .joined none (some { code := 0, value := v.epoch.toNat })
  memberEntry (zeroIfNew (tableSwitch u v) v)

/-- The observed record after its pending view's switch at a station not admitted (R108). -/
def observedMoved (s : State) (v : View) : Observed :=
  { best := some { identity := identityOf v.members, epoch := v.epoch }
    senders := ((v.members.map (·.id)).filter (fun id => !(id == s.cfg.id))).take 16
    pending := none }

/-- The examination of the observed pending view at a wrap or snap has an effect: its switch is reached or is more than
8 ahead (R108). A late restart is no such boundary (R6, R15, R56). -/
def observedSwitchDue (s : State) : Bool :=
  s.mbc.station.following && s.cyt.begun &&
  (match s.mbc.observed.pending with
   | some p => reached s.cyt.cycle p.switchCycle || decide (8 < ahead p.switchCycle s.cyt.cycle)
   | none => false)

/-- The examination of the observed pending view (R108). -/
def switchObserved (s : State) : State :=
  match s.mbc.observed.pending with
  | none => s
  | some p =>
    if reached s.cyt.cycle p.switchCycle then
      if s.mbc.station = .hailing ∧ lists p.view.members s.cfg.id then admitTo s p.view
      else { s with mbc.observed := observedMoved s p.view }
    else { s with mbc.observed.pending := none }

/-- Founding is due: LISTENING, at a wrap, the listen window passed, the stuck flag clear and SYNC high (R50). -/
def foundDue (s : State) (syncHigh : Bool) : Bool :=
  s.mbc.station == .listening && s.cyt.begun && decide (listenWindow s ≤ s.mbc.listenCount) &&
  !s.sli.stuck && syncHigh

/-- Founding (R50, R19, R57). -/
def found (s : State) : State :=
  let t := setStation s .member
  let view := { epoch := 1, members := [{ id := s.cfg.id, legs := s.cfg.legs, new := false }], fp := s.cfg.fp }
  let u := { t with mbc := { t.mbc with current := some view, pending := none }
                    cyt.adopted := true }
  memberEntry (post (post u .founded none (some { code := 0, value := 1 })) .joined none
    (some { code := 0, value := 1 }))

/-- The marker for a boundary is driven by a station that is MEMBER or LEAVING once the boundary's own state changes
are made (R15). -/
def startMarker (s : State) : State :=
  if s.mbc.station.inGroup then { s with sli := { s.sli with markerActive := true, markerLeft := 8 } } else s

/-- What a boundary ends with: the table-complete flag, the plan and the marker (R15, R121, R127). -/
def finishBoundary (s : State) : State := startMarker (planBoundary s)

/-! ### Commands -/

/-- The command FOUND_GROUP (R50): the station founds at this wrap, plans its cycle and drives its marker. DESIGN CHOICE
(log 33): the row brings no sample of SYNC, so the test of R50 reads the sample last held. -/
def execFoundGroup (s : State) : Host.Outcome State Fault Refusal :=
  happen s (foundDue s s.sli.prevHigh) (fun s => finishBoundary (found s))

/-- The command VIEW_SWITCH (R99): the pending view becomes current at this boundary. -/
def execViewSwitch (s : State) : Host.Outcome State Fault Refusal :=
  happen s (viewSwitchDue s) (fun s => finishBoundary (lossTest (switchView s)))

/-- The command OBSERVED_SWITCH (R108): the observed pending view is examined at this boundary. -/
def execObservedSwitch (s : State) : Host.Outcome State Fault Refusal :=
  happen s (observedSwitchDue s) (fun s => finishBoundary (lossTest (switchObserved s)))

end Sys2Proof.Machine
end

