-- ==== Sys2Proof/Machine/Cycle.lean ====
section
/-!
DEFINITION. The Cycle Timer and the Sync Line Interface (chapter 1): boundaries and what every block does at them,
falls, markers, the SYNC stuck detector; the commands WRAP, SYNC_FALL, MARKER_END, SYNC_STUCK and the timers of the
Membership Controller that count boundaries (ALIGN_TIMEOUT, HAIL_INTERVAL, LEAVE_TIMEOUT, BACKOFF_EXPIRY).
-/

namespace Sys2Proof.Machine

/-! ### The timers of the Membership Controller -/

/-- ALIGN_TIMEOUT is due: ALIGNING with the align count at 64 (R53). -/
def alignTimeoutDue (s : State) : Bool := s.mbc.station == .aligning && decide (64 ≤ s.mbc.alignCount)

/-- The align timeout (R53). -/
def alignTimeout (s : State) : State := enterListening (post s .alignTimeout none none)

/-- HAIL_INTERVAL is due: HAILING with the interval count at 16 (R54). -/
def hailIntervalDue (s : State) : Bool := s.mbc.station == .hailing && decide (16 ≤ s.mbc.hailInterval)

/-- The interval count has reached 16: a further HAIL, or the end of the HAILING period (R54, R55). -/
def hailInterval (s : State) : State :=
  if s.mbc.hailCount < 4 then
    postRequest { s with mbc := { s.mbc with hailCount := s.mbc.hailCount + 1, hailInterval := 0 } } .hail
  else
    enterDetached (post s .notAdmitted none (some { code := s.mbc.hailCount, value := 0 })) .notAdmitted

/-- LEAVE_TIMEOUT is due: LEAVING with the leave count at 32 (R60). -/
def leaveTimeoutDue (s : State) : Bool := s.mbc.station == .leaving && decide (32 ≤ s.mbc.leaveCount)

/-- BACKOFF_EXPIRY is due: MEMBER with the backoff timer at 0 (R91). -/
def backoffExpiryDue (s : State) : Bool := s.mbc.station == .member && s.mbc.backoff == some 0

/-- The timer becomes absent and a RECAST request is posted (R91). -/
def backoffExpiry (s : State) : State := postRequest { s with mbc.backoff := none } .recast

/-- Take what is due, and only then. -/
def whenDue (due : State → Bool) (f : State → State) (s : State) : State := if due s then f s else s

/-! ### The Membership Controller at a boundary -/

/-- A step of the Membership Controller at a boundary. Where it detaches the station, the purge of that boundary comes
before it and takes what stood HEARD; the LOST entries that the detach makes HEARD are kept, whatever their silence
(R47, R75, R82, R84). DESIGN CHOICE (log 15): no rule says which of the purge and the detach of one boundary is first. -/
def purgeBefore (f : State → State) (s : State) : State :=
  if (f s).mbc.station = .detached then f (purgeHeard s) else f s

/-- LISTENING at a wrap: the listen count, then founding (R49, R50). -/
def listenBoundary (syncHigh : Bool) (s : State) : State :=
  whenDue (foundDue · syncHigh) found { s with mbc.listenCount := min (s.mbc.listenCount + 1) (listenWindow s) }

/-- ALIGNING at a boundary: the observed view, then the align count (R53, R108). -/
def alignBoundary (s : State) : State :=
  let t := whenDue observedSwitchDue switchObserved s
  whenDue alignTimeoutDue alignTimeout { t with mbc.alignCount := t.mbc.alignCount + 1 }

/-- HAILING at a boundary: the observed view decides before the interval count (R54 to R56, R108). -/
def hailBoundary (s : State) : State :=
  let t := whenDue observedSwitchDue switchObserved s
  if t.mbc.station = .hailing then
    whenDue hailIntervalDue (purgeBefore hailInterval) { t with mbc.hailInterval := t.mbc.hailInterval + 1 }
  else t

/-- MEMBER at a boundary: the backoff timer, then the switch (R91, R99). -/
def memberBoundary (s : State) : State :=
  let t := { s with mbc.backoff := s.mbc.backoff.map (· - 1) }
  whenDue viewSwitchDue switchView (whenDue backoffExpiryDue backoffExpiry t)

/-- LEAVING at a boundary: the leave count; a switch that excludes the station decides before the timeout (R59, R60). A
switch that still lists it is made before the timeout too. -/
def leavingBoundary (s : State) : State :=
  whenDue leaveTimeoutDue (purgeBefore (detachLeft · .leaveTimeout))
    (whenDue viewSwitchDue (purgeBefore switchView) { s with mbc.leaveCount := s.mbc.leaveCount + 1 })

/-- The Membership Controller at a boundary (R43). -/
def controllerBoundary (syncHigh : Bool) (s : State) : State :=
  match s.mbc.station with
  | .listening => listenBoundary syncHigh s
  | .aligning => alignBoundary s
  | .hailing => hailBoundary s
  | .member => memberBoundary s
  | .leaving => leavingBoundary s
  | _ => s

/-! ### A boundary at every block (R5, R6) -/

/-- The receive assembler records a boundary during a frame (R26). -/
def markBoundary (s : State) : State :=
  if s.tli.rx.phase = .receiving then { s with tli.rx.boundary := true } else s

/-- A FAULT latch in WAITING becomes CLEAR at a wrap or snap (R138). -/
def clearLatch (s : State) : State :=
  if s.los.latch = .waiting then { s with los.latch := .clear } else s

/-- A wrap or snap at every block but the Cycle Timer, whose step is already made (R6). `leaseFirst` takes the Plan
Unit's counting before the Membership Controller, and after the plan otherwise (R119). The Peer Table's aging and the
application of waiting demands come before the Membership Controller, its tests after it (R79, R81, R114; logs 14, 15).
DESIGN CHOICE (log 15): a HEARD entry aged to 64 whose station a switch or an admission of this boundary lists is thus
seated as MEMBER and then found LOST, and not purged before the switch and seated anew. DESIGN CHOICE (log 35):
LEASE_EXPIRED arrives before both or after both of VIEW_CHANGED and PEER_LOST at one boundary, and never between them,
which R150 allows too. A readout may be taken after the Cycle Timer's step (0), the aging and application (1), the first
counting (2), the Membership Controller (3), the tests (4), the plan and the marker (5) (R132, R169). -/
def boundary (order : BoundaryOrder) (syncHigh : Bool) (s : State) : State :=
  let a := applyPublished (applyPeerDemands (agePeers (clearLatch (markBoundary (readoutAt order 0 s)))))
  let b := readoutAt order 1 a
  let c := readoutAt order 2 (if order.leaseFirst then planCount b else b)
  let d := readoutAt order 3 (controllerBoundary syncHigh c)
  let e := readoutAt order 4 (purgeTest (lossTest d))
  let f := readoutAt order 5 (finishBoundary e)
  if order.leaseFirst then f else planCount f

/-- The Cycle Timer begins a new cycle: position 0, the cycle number plus 1 (R4, R5). The Plan Unit has this boundary's
counts to make where the station is MEMBER (R115, R118). -/
def nextCycle (s : State) : State :=
  { s with
    cyt := { s.cyt with position := 0, cycle := s.cyt.cycle + 1, begun := true }
    plu.counting := s.mbc.station == .member }

/-- The position would reach P (R3). -/
def wrapDue (s : State) : Bool := s.mbc.station.running && decide (s.P ≤ s.cyt.position + 1)

/-- A wrap (R3, R5, R6). -/
def wrap (order : BoundaryOrder) (syncHigh : Bool) (s : State) : State := boundary order syncHigh (nextCycle s)

/-! ### Falls (R7 to R14) -/

/-- The lock rule for a fall with this snap amount; lock may take an ALIGNING station to HAILING (R12, R52). -/
def lockRule (amount : Nat) (s : State) : State :=
  tryHail { s with cyt.lockCount := if amount ≤ lockTolerance s then min (s.cyt.lockCount + 1) 4 else 0 }

/-- The lock rule is kept in ALIGNING, HAILING, MEMBER and LEAVING (R12, R52). -/
def keepsLock (st : Station) : Bool := st.following || st.inGroup

/-- A slip is counted and posted where a snap in MEMBER or LEAVING exceeds the tolerance (R14). -/
def slipRule (amount : Nat) (s : State) : State :=
  if s.mbc.station.inGroup && decide (lockTolerance s < amount) then
    post { s with cyt.slips := s.cyt.slips + 1 } .slip none (some { code := 0, value := amount })
  else s

/-- A snap captured at `c` (R11, R13). `lockFirst` takes the lock rule before the boundary's counts (R52). DESIGN CHOICE
(log 22): the SLIP record comes before the records of the other blocks at this boundary, which R150 leaves open. -/
def snap (lockFirst : Bool) (order : BoundaryOrder) (c : Nat) (s : State) : State :=
  let amount := s.P - c
  let t := nextCycle s
  let u := slipRule amount { t with cyt.lastSnap := amount }
  if lockFirst then boundary order false (lockRule amount u)
  else
    let v := boundary order false u
    if keepsLock v.mbc.station then lockRule amount v else v

/-- A late restart captured at `c`: the position restarts, the cycle number stays, and no happening of a boundary may be
taken (R5, R6, R11, R15). -/
def lateRestart (c : Nat) (s : State) : State :=
  let t := markBoundary { s with cyt := { s.cyt with position := 0, lastSnap := c, begun := false } }
  lockRule c t

/-- The first fall in LISTENING (R10, R51). DESIGN CHOICE (log 21): the capture is the last snap amount, as R10 says, also
where it is P - 1, of which the close of R9 says otherwise. -/
def firstFall (c : Nat) (s : State) : State :=
  enterAligning (markBoundary { s with cyt := { s.cyt with position := 0, lastSnap := c, begun := false } })

/-- An own fall (R8). -/
def ownFall (s : State) : State := lockRule 0 { s with cyt.lastSnap := 0 }

/-- The five ways a fall is taken (R7, R8, R10, R11, R13). -/
inductive FallKind where
  | unseen
  | first
  | snap
  | late
  | own
  | ignored
  deriving DecidableEq, Repr

/-- How a fall captured at `c` is taken in a station state (R7, R11, R13). -/
def fallKind (st : Station) (c p : Nat) : FallKind :=
  match st with
  | .listening => .first
  | .aligning => if p / 2 ≤ c then .snap else .late
  | .hailing => if p / 2 ≤ c then .snap else .late
  | .member => if c = 0 then .own else if p / 2 ≤ c then .snap else .ignored
  | .leaving => if c = 0 then .own else if p / 2 ≤ c then .snap else .ignored
  | .unconfigured => .unseen
  | .detached => .unseen

/-- A fall captured at `c` (R7). -/
def takeFall (lockFirst : Bool) (order : BoundaryOrder) (c : Nat) (s : State) : State :=
  match fallKind s.mbc.station c s.P with
  | .unseen => s
  | .first => firstFall c s
  | .snap => snap lockFirst order c s
  | .late => lateRestart c s
  | .own => ownFall s
  | .ignored => s

/-- The fall moves the position to 0 on its tick (R3). -/
def fallMoves (s : State) (c : Nat) : Bool :=
  match fallKind s.mbc.station c s.P with
  | .first => true
  | .snap => true
  | .late => true
  | .unseen => false
  | .own => false
  | .ignored => false

/-- A fall can be observed: the timer runs and the previous sample was high (R7). -/
def fallSeen (s : State) : Bool := s.mbc.station.running && s.sli.prevHigh

/-! ### Marker and SYNC stuck (R15, R17, R18) -/

/-- MARKER_END is due: the active driver's remaining count is 0 (R15). -/
def markerEndDue (s : State) : Bool := s.sli.markerActive && s.sli.markerLeft == 0

/-- Each tick takes one from the marker's remaining count; at 0 the driver becomes idle (R15). -/
def markerTick (s : State) : State :=
  whenDue markerEndDue stopMarker { s with sli.markerLeft := s.sli.markerLeft - 1 }

/-- SYNC_STUCK is due: the low-duration count stands at P with the stuck flag clear (R17). -/
def syncStuckDue (s : State) : Bool :=
  s.mbc.station.running && decide (s.P ≤ s.sli.stuckCount) && !s.sli.stuck

/-- The stuck flag is set, SYNC_FAULT is posted, and the station state changes (R17, R18). -/
def syncStuck (s : State) : State :=
  let t := post { s with sli.stuck := true } .syncFault none none
  match s.mbc.station with
  | .member => memberToListening t
  | .leaving => detachLeft t .leaveTimeout
  | .aligning => enterListening t
  | .hailing => enterListening t
  | _ => t

/-- A low SYNC sample: the count grows and stops at P (R17). -/
def syncLowSample (s : State) : State :=
  { s with sli := { s.sli with prevHigh := false, stuckCount := min (s.sli.stuckCount + 1) s.P } }

/-- A high SYNC sample ends any stuck episode (R17). -/
def syncHighSample (s : State) : State :=
  { s with sli := { s.sli with prevHigh := true, stuckCount := 0, stuck := false } }

/-! ### Commands -/

/-- The command WRAP (R5): the wrap is due when the position would reach P. DESIGN CHOICE (log 33): the row brings no
sample of SYNC, so the test of R50 reads the sample last held. -/
def execWrap (order : BoundaryOrder) (s : State) : Host.Outcome State Fault Refusal :=
  happen s (wrapDue s) (wrap order s.sli.prevHigh)

/-- The command SYNC_FALL (R7): a fall captured at the present position. -/
def execSyncFall (lockFirst : Bool) (order : BoundaryOrder) (s : State) : Host.Outcome State Fault Refusal :=
  happen s (fallSeen s) (fun s => takeFall lockFirst order s.cyt.position { s with sli.prevHigh := false })

/-- The command MARKER_END (R15). -/
def execMarkerEnd (s : State) : Host.Outcome State Fault Refusal :=
  happen s (markerEndDue s) stopMarker

/-- The command SYNC_STUCK (R17). -/
def execSyncStuck (s : State) : Host.Outcome State Fault Refusal :=
  happen s (syncStuckDue s) syncStuck

/-- The command ALIGN_TIMEOUT (R53). -/
def execAlignTimeout (s : State) : Host.Outcome State Fault Refusal :=
  happen s (alignTimeoutDue s) alignTimeout

/-- The command HAIL_INTERVAL (R54). -/
def execHailInterval (s : State) : Host.Outcome State Fault Refusal :=
  happen s (hailIntervalDue s) hailInterval

/-- The command LEAVE_TIMEOUT (R60). -/
def execLeaveTimeout (s : State) : Host.Outcome State Fault Refusal :=
  happen s (leaveTimeoutDue s) (detachLeft · .leaveTimeout)

/-- The command BACKOFF_EXPIRY (R91). -/
def execBackoffExpiry (s : State) : Host.Outcome State Fault Refusal :=
  happen s (backoffExpiryDue s) backoffExpiry

end Sys2Proof.Machine
end

