-- ==== Sys2Proof/Machine/Talk.lean ====
section
/-!
DEFINITION. The Talk Line Interface (chapter 2): marks and cells, the receive assembler, sending, arbitration, bit
errors, the veto, acceptance and delivery, failures, the TALK stuck detector; their commands.
-/

namespace Sys2Proof.Machine

/-! ### Snapshots (R32) -/

/-- The snapshot of the highest-priority request, in the order RECAST, LEAVE, HAIL, CLAIM; a RECAST whose content is
empty is withdrawn and the next kind is taken (R32). -/
def takeSnapshot (s : State) : State × Option Flight :=
  if s.tli.requests.recast then
    match buildRecast s with
    | (t, some r) => (t, some { kind := .recast, payload := encodeRecast r, renewal := false })
    | (t, none) => (t, others t)
  else (s, others s)
where
  /-- The snapshot of the kinds after RECAST. -/
  others (s : State) : Option Flight :=
    if s.tli.requests.leave then
      some { kind := .leave, payload := encodeLeave (claimContent s).epoch, renewal := false }
    else if s.tli.requests.hail then
      some { kind := .hail, payload := encodeHail { legs := s.cfg.legs, fp := s.cfg.fp }, renewal := false }
    else if s.tli.requests.claim then
      some { kind := .claim, payload := encodeClaim (claimContent s), renewal := false }
    else none

/-- The assembler at a start mark (R26). -/
def Rx.started : Rx := { Rx.idle with phase := .receiving, tick := 1 }

/-- A mark resets the idle count and is a low sample (R22, R24). -/
def lowMark (s : State) : State := { s with tli := { s.tli with idle := 0, prevHigh := false } }

/-- A start mark: the assembler begins to receive, and a station with a request joins as a sender (R26, R32). -/
def startFrame (s : State) : State :=
  let r := takeSnapshot s
  { r.1 with tli := { r.1.tli with rx := Rx.started, flight := r.2 } }

/-- FRAME_ORIGINATE is due: the idle count stands at 2 TB, the assembler is WAITING, a request is set (R32). -/
def originateDue (s : State) : Bool :=
  s.mbc.station.running && decide (2 * s.TB ≤ s.tli.idle) && s.tli.rx.phase == .waiting && s.tli.requests.any &&
  s.tli.flight.isNone && !s.tli.stuck

/-- The station makes a start mark: the request is due and a snapshot remains to be sent (R32). -/
def startsFrame (s : State) : Bool := originateDue s && (takeSnapshot s).2.isSome

/-- The station makes the start mark itself, if a snapshot remains to be sent (R32). What the mark does to the line's
sample is the sample's own matter (R24). -/
def originate (s : State) : State :=
  match (takeSnapshot s).2 with
  | some _ => startFrame s
  | none => (takeSnapshot s).1

/-! ### Marks (R22 to R24, R27, R28) -/

/-- The assembler finds a fault and enters FAULTED (R27). -/
def Rx.fail (r : Rx) (f : RxFault) : Rx := { r with phase := .faulted, fault := some f }

/-- The assembler back in WAITING from FAULTED: the frame is gone, the fault flag stays until the assembler next enters
RECEIVING (R26, R27). From RECEIVING it goes back to `Rx.idle`, since no fault has been found there. -/
def Rx.ended (r : Rx) : Rx := { Rx.idle with fault := r.fault }

/-- A mark begins the next cell; a FAULTED receiver holds the veto in it from the first length cell on (R22, R28). -/
def Rx.nextCell (r : Rx) (vetoing : Bool) : Rx :=
  { r with cell := r.cell + 1, tick := 1, lastBit := none, vetoing := vetoing && decide (9 ≤ r.cell + 1) }

/-- An early mark in the veto cell begins that cell again, since none follows it (log 19). -/
def Rx.restarted (r : Rx) : Rx := { r with tick := 1, lastBit := none, vetoing := false }

/-- The cell in progress is the veto cell of the frame as read or, at a sender, as sent (R33, R36). -/
def inVetoCell (s : State) : Bool :=
  match s.tli.flight with
  | some f => s.tli.rx.cell == vetoCell f.payload.length
  | none => decide (14 ≤ s.tli.rx.bits.length) && s.tli.rx.cell == vetoCell (readLength s.tli.rx.bits)

/-- A mark on TALK (R22, R24, R27): it begins a frame, ends the veto cell, begins the next cell, or is an early mark.
DESIGN CHOICE (log 25): in RECEIVING, as after an own start mark that did not reach the line, a mark with the idle count at
TB or more is taken by the cell in progress (R27) and begins no frame, of which R24 also speaks. DESIGN CHOICE (log 19): any
mark in the veto cell of a sender already FAULTED ends that cell, one at or before its sample tick too. -/
def talkMark (s : State) : State :=
  let rx := s.tli.rx
  match rx.phase with
  | .waiting =>
    if s.TB ≤ s.tli.idle ∧ s.tli.stuck = false then
      if s.tli.requests.any ∧ s.tli.flight = none then lowMark (startFrame s)
      else lowMark { s with tli.rx := Rx.started }
    else lowMark s
  | .receiving =>
    if rx.tick + 1 ≤ s.TB / 2 then
      lowMark { s with tli.rx := (if inVetoCell s then rx.restarted else rx.nextCell false).fail .earlyMark }
    else if inVetoCell s then lowMark { s with tli.rx.tick := s.TB + 1 }
    else lowMark { s with tli.rx := rx.nextCell false }
  | .faulted =>
    if s.tli.flight.isSome && inVetoCell s then lowMark { s with tli.rx.tick := s.TB + 1 }
    else lowMark { s with tli.rx := rx.nextCell true }

/-! ### Sample ticks (R23, R26, R27) -/

/-- The fault a value read into the assembler shows: a start cell of 1, an illegal length at its last cell, a check
mismatch at its last cell (R27). -/
def faultOfBits (bits : List Bool) : Option RxFault :=
  if bits.length = 1 then (if bits = [true] then some .startNotZero else none)
  else if bits.length = 14 then
    (if legalLength (readKind bits) (readLength bits) then none else some .badLength)
  else if 14 < bits.length ∧ bits.length = 30 + 8 * readLength bits then
    (if readCheck bits = computedCheck bits then none else some .badCheck)
  else none

/-- The value read at a cell's sample tick enters the assembler (R23, R26). DESIGN CHOICE (log 26): a FAULTED assembler
keeps the value last read alone, and reads no more fields. -/
def sampleCell (high : Bool) (s : State) : State :=
  let rx := s.tli.rx
  match rx.phase with
  | .waiting => s
  | .faulted => { s with tli.rx.lastBit := some high }
  | .receiving =>
    let read := { rx with bits := rx.bits ++ [high], lastBit := some high }
    match faultOfBits read.bits with
    | some f => { s with tli.rx := read.fail f }
    | none => { s with tli.rx := read }

/-! ### Failures (R35, R36, R38) -/

/-- A failure: the frame in flight is discarded and the count grows; at 16 the station is MUTED and detached (R38, R66). -/
def countFailure (s : State) : State :=
  let t := { s with tli := { s.tli with flight := none, failures := s.tli.failures + 1 } }
  if 16 ≤ t.tli.failures then
    enterDetached (post t .muted none (some { code := 0, value := 16 })) .muted
  else t

/-- The framing faults that count as a bit error at a sender (R35). -/
def isFraming : RxFault → Bool
  | .longLow => true
  | .longHigh => true
  | .earlyMark => true
  | .startNotZero => false
  | .badLength => false
  | .badCheck => false

/-- ARBITRATION_LOST is due: in a key cell a sender drives 1 and reads 0 (R34). -/
def arbitrationLostDue (s : State) : Bool :=
  s.mbc.station.running &&
  (match s.tli.flight with
   | some f => decide (1 ≤ s.tli.rx.cell) && decide (s.tli.rx.cell ≤ 8) && s.tli.rx.lastBit == some false &&
      drivenBit s f s.tli.rx.cell
   | none => false)

/-- The sender stops driving and its frame is discarded; its request and its failure count stay (R34). -/
def loseArbitration (s : State) : State := { s with tli.flight := none }

/-- BIT_ERROR is due: a start cell read 1, a cell after the key and before the veto cell read otherwise than driven, or a
framing fault before the veto cell in the sender's own frame (R35). An early mark in the last check cell is one: it has
moved the cell number to the veto cell, but the cells read stop short of it. -/
def bitErrorDue (s : State) : Bool :=
  s.mbc.station.running &&
  (match s.tli.flight with
   | some f =>
     let rx := s.tli.rx
     (rx.cell == 0 && rx.lastBit == some true) ||
     (decide (9 ≤ rx.cell) && decide (rx.cell < vetoCell f.payload.length) &&
       rx.lastBit == some (!drivenBit s f rx.cell)) ||
     (rx.phase == .faulted &&
       (decide (rx.cell < vetoCell f.payload.length) || decide (rx.bits.length < vetoCell f.payload.length)) &&
       (match rx.fault with
       | some k => isFraming k
       | none => false))
   | none => false)

/-- LONG_LOW_FAULT is due: RECEIVING with the line low for TB ticks (R27). -/
def longLowDue (s : State) : Bool :=
  s.mbc.station.running && s.tli.rx.phase == .receiving && decide (s.TB ≤ s.tli.stuckCount)

/-- The long low is a framing fault (R27). -/
def longLow (s : State) : State := { s with tli.rx := s.tli.rx.fail .longLow }

/-- LONG_HIGH_FAULT is due: in a frame, before the veto cell or FAULTED, the line high for TB ticks (R27, R28). A RECEIVING
assembler finds it on high ticks of the cell in progress, not on those before the frame (log 25). -/
def longHighDue (s : State) : Bool :=
  s.mbc.station.running && decide (s.TB ≤ s.tli.idle) &&
  (s.tli.rx.phase == .faulted ||
    (s.tli.rx.phase == .receiving && decide (s.TB ≤ s.tli.rx.tick) && !inVetoCell s))

/-- The long high of a RECEIVING assembler is its fault; FAULTED, with the line high for TB ticks, it returns to WAITING
at once; a sender counts a failure (R27, R28, R35). -/
def longHigh (s : State) : State :=
  let rx := if s.tli.rx.phase = .receiving then s.tli.rx.fail .longHigh else s.tli.rx
  let t := { s with tli.rx := rx.ended }
  if s.tli.flight.isSome then countFailure t else t

/-! ### The end of a frame (R29, R36) -/

/-- The veto cell has ended: its TB ticks have passed, or a mark ended it early (R23, R29; log 9). -/
def vetoEnded (s : State) : Bool := decide (s.TB < s.tli.rx.tick)

/-- The assembler holds a whole frame up to its veto cell (R29). -/
def frameComplete (s : State) : Bool :=
  s.tli.rx.phase == .receiving && decide (14 ≤ s.tli.rx.bits.length) &&
  s.tli.rx.bits.length == vetoCell (readLength s.tli.rx.bits) + 1 && vetoEnded s

/-- FRAME_VOIDED is due: the veto cell of the frame received read 0, or the veto cell of a FAULTED sender's own frame has
ended, whatever it read (R29, R36; log 9). -/
def frameVoidedDue (s : State) : Bool :=
  s.mbc.station.running &&
  ((frameComplete s && s.tli.rx.lastBit == some false) ||
   (s.tli.rx.phase == .faulted && s.tli.flight.isSome && inVetoCell s && vetoEnded s))

/-- The frame is void: a receiver returns to WAITING, a sender counts a failure (R29, R36). -/
def voidFrame (s : State) : State :=
  let t := if s.tli.rx.phase = .receiving then { s with tli.rx := Rx.idle } else s
  if s.tli.flight.isSome then countFailure t else t

/-- An accepted frame of another station bearing the own id (R40): DUPLICATE_ID, and the station is detached (R66). -/
def duplicateId (s : State) (kind : FrameKind) : State :=
  enterDetached (post s .duplicateId (some s.cfg.id) (some { code := kindCode kind, value := 0 })) .duplicateId

/-- The Peer Table takes the frames of others; it takes no action on the station's own (R70, R71). -/
def tableFrame (cycle : Option U16) (s : State) (kind : FrameKind) (sender : Nat) (payload : List Byte) (own : Bool) :
    State :=
  if own then s else hearFrame cycle s kind sender payload

/-- The Plan Unit takes the station's own CLAIM (R113). -/
def planFrame (s : State) (kind : FrameKind) (payload : List Byte) (own : Bool) : State :=
  if own && kind == .claim then takeLoopback s (decodeClaim payload) else s

/-- The foreign flag is set in the entry that the Peer Table has made of a sender after FOREIGN_VIEW(won) was posted
against it, so that the event comes once per foreign sender (R64, R83; log 27). -/
def flagForeign (won : Bool) (s : State) (sender : Nat) : State :=
  if won then { s with peers := updatePeer s.peers sender (fun q => { q with foreign := true }) } else s

/-- A frame is delivered to the Plan Unit, the Peer Table and the Membership Controller; `tableFirst` is the order of
the last two (R30, R76). The Peer Table's records carry the cycle number that the acceptance finds (R149). DESIGN CHOICE
(log 40): with the table first, a CLAIM that shows the station out of step is recorded by the table's rules for MEMBER, the
state in which it reaches the table (R71), where R63 names the rules for the new state. -/
def deliver (tableFirst : Bool) (s : State) (kind : FrameKind) (sender : Nat) (payload : List Byte)
    (own boundary : Bool) : State :=
  let p := planFrame s kind payload own
  if tableFirst then controllerFrame (tableFrame (stamp s) p kind sender payload own) kind sender payload own boundary
  else
    flagForeign (!own && foreignWins p kind sender payload)
      (tableFrame (stamp s) (controllerFrame p kind sender payload own boundary) kind sender payload own) sender

/-- The sender whose frame is accepted: the count becomes 0, the kind's flag is cleared unless the frame was renewed,
the frame in flight is discarded (R36 steps 1 to 3). -/
def completeSender (s : State) (f : Flight) : State :=
  { s with tli := { s.tli with
      failures := 0
      requests := if f.renewal then s.tli.requests else s.tli.requests.setKind f.kind false
      flight := none } }

/-- A frame of kind `k` completed with the veto cell read 1 (R29). -/
def acceptedDue (k : FrameKind) (s : State) : Bool :=
  s.mbc.station.running && frameComplete s && s.tli.rx.lastBit == some true && readKind s.tli.rx.bits == k

/-- The frame in the assembler is accepted (R30, R36, R40). DESIGN CHOICE (log 34): a frame whose key carries the sender
id 0 or 63 is accepted and delivered like any other, since no rule of the receive path tests the id (R27, R69, R183). -/
def acceptFrame (tableFirst : Bool) (s : State) : State :=
  let bits := s.tli.rx.bits
  let kind := readKind bits
  let sender := readSender bits
  let payload := readPayload bits
  let passed := s.tli.rx.boundary
  let t := { s with tli.rx := Rx.idle }
  match s.tli.flight with
  | some f => deliver tableFirst (completeSender t f) kind sender payload true passed
  | none =>
    if sender = s.cfg.id then duplicateId t kind
    else deliver tableFirst t kind sender payload false passed

/-! ### TALK stuck (R41) -/

/-- TALK_STUCK is due: the low-duration count stands at 16 TB with the stuck flag clear (R41). -/
def talkStuckDue (s : State) : Bool :=
  s.mbc.station.running && decide (16 * s.TB ≤ s.tli.stuckCount) && !s.tli.stuck

/-- The stuck flag is set, the frame being followed is dropped with its veto hold, TALK_FAULT is posted (R41). A sender in
RECEIVING has stopped driving long before, at the long low (R35). DESIGN CHOICE (log 18): the frame of one that a length or
check fault had made FAULTED is dropped here, without a failure. -/
def talkStuck (s : State) : State :=
  post { s with tli := { s.tli with stuck := true, rx := s.tli.rx.ended, flight := none } } .talkFault none none

/-! ### Commands -/

/-- The command TALK_MARK (R22): a mark is observed where the previous sample was high. -/
def execTalkMark (s : State) : Host.Outcome State Fault Refusal :=
  happen s (s.mbc.station.running && s.tli.prevHigh) talkMark

/-- The command FRAME_ORIGINATE (R32): the start mark is made and the line samples low (R24). -/
def execFrameOriginate (s : State) : Host.Outcome State Fault Refusal :=
  happen s (originateDue s) (fun s => if startsFrame s then lowMark (originate s) else originate s)

/-- The command ARBITRATION_LOST (R34). -/
def execArbitrationLost (s : State) : Host.Outcome State Fault Refusal :=
  happen s (arbitrationLostDue s) loseArbitration

/-- The command BIT_ERROR (R35). -/
def execBitError (s : State) : Host.Outcome State Fault Refusal :=
  happen s (bitErrorDue s) countFailure

/-- The command LONG_HIGH_FAULT (R27). -/
def execLongHighFault (s : State) : Host.Outcome State Fault Refusal :=
  happen s (longHighDue s) longHigh

/-- The command LONG_LOW_FAULT (R27). -/
def execLongLowFault (s : State) : Host.Outcome State Fault Refusal :=
  happen s (longLowDue s) longLow

/-- The command FRAME_VOIDED (R36). -/
def execFrameVoided (s : State) : Host.Outcome State Fault Refusal :=
  happen s (frameVoidedDue s) voidFrame

/-- The command HAIL_ACCEPTED (R88). -/
def execHailAccepted (tableFirst : Bool) (s : State) : Host.Outcome State Fault Refusal :=
  happen s (acceptedDue .hail s) (acceptFrame tableFirst)

/-- The command CLAIM_ACCEPTED (R101). -/
def execClaimAccepted (tableFirst : Bool) (s : State) : Host.Outcome State Fault Refusal :=
  happen s (acceptedDue .claim s) (acceptFrame tableFirst)

/-- The command RECAST_ACCEPTED (R95). -/
def execRecastAccepted (tableFirst : Bool) (s : State) : Host.Outcome State Fault Refusal :=
  happen s (acceptedDue .recast s) (acceptFrame tableFirst)

/-- The command LEAVE_ACCEPTED (R89). -/
def execLeaveAccepted (tableFirst : Bool) (s : State) : Host.Outcome State Fault Refusal :=
  happen s (acceptedDue .leave s) (acceptFrame tableFirst)

/-- The command TALK_STUCK (R41). -/
def execTalkStuck (s : State) : Host.Outcome State Fault Refusal :=
  happen s (talkStuckDue s) talkStuck

end Sys2Proof.Machine
end

