-- ==== Sys2Proof/Machine/Outputs.lean ====
section
/-!
DEFINITION. The Leg Output Stage (chapter 7): the FAULT latch, the quiet hold and the window edges; their commands. The
gate itself is `legGate` (Machine/Flags.lean), and every command ends in `settle`, which puts it on the pins.
-/

namespace Sys2Proof.Machine

/-- The legs at their active level on the tick before, as FAULT_ON's detail names them (R138, R190). DESIGN CHOICE (log
13): they are read from the pins as they stand, so that after a LEAVE, a RESTART or another command taken between two
ticks they are the levels that this command settled. -/
def activeLegs (s : State) : Nat :=
  (if s.los.out0 = .active then 1 else 0) + (if s.los.out1 = .active then 2 else 0)

/-- An asserted sample moves the latch: FAULT is sampled in every configured state (R138, R140). -/
def faultAssertedDue (s : State) : Bool := s.locked && s.los.latch != .asserted

/-- The latch becomes ASSERTED and FAULT_ON is posted (R138). -/
def faultAsserted (s : State) : State :=
  post { s with los.latch := .asserted } .faultOn none (some { code := activeLegs s, value := 0 })

/-- A deasserted sample moves the latch: it stands in ASSERTED (R138). -/
def faultReleasedDue (s : State) : Bool := s.locked && s.los.latch == .asserted

/-- The latch becomes WAITING and FAULT_OFF is posted (R138). -/
def faultReleased (s : State) : State := post { s with los.latch := .waiting } .faultOff none none

/-- QUIET_HOLD_ON is due: the own CLAIM age stands at 16 or more (R141). -/
def quietHoldOnDue (s : State) : Bool := decide (16 ≤ s.plu.age)

/-- The quiet hold comes into force (R141). -/
def holdQuiet (s : State) : State := { s with los.quiet := true }

/-! ### Commands -/

/-- The command FAULT_ASSERTED (R138): an asserted FAULT sample. -/
def execFaultAsserted (s : State) : Host.Outcome State Fault Refusal :=
  happen s (faultAssertedDue s) faultAsserted

/-- The command FAULT_RELEASED (R138): a deasserted FAULT sample. -/
def execFaultReleased (s : State) : Host.Outcome State Fault Refusal :=
  happen s (faultReleasedDue s) faultReleased

/-- The command QUIET_HOLD_ON (R141). -/
def execQuietHoldOn (s : State) : Host.Outcome State Fault Refusal :=
  happen s (quietHoldOnDue s) holdQuiet

/-- The command WINDOW_EDGE (R135): the gate of each leg is judged on the present position (`settle`). -/
def execWindowEdge (s : State) : Host.Outcome State Fault Refusal :=
  happen s s.locked (fun s => s)

end Sys2Proof.Machine
end

