-- ==== Sys2Proof/Machine/Tick.lean ====
section
/-!
DEFINITION. One CLK edge (R2): the prescaler, and on a tick everything the ten blocks do on it, the happenings that other
commands name one by one included; the command TICK.
-/

namespace Sys2Proof.Machine

/-- The acts of a tick in the order the command gives: those named first, once each, the others after them (log 3). -/
def stageOrder (named : List Stage) : List Stage :=
  named.foldl (fun acc x => if acc.contains x then acc else acc ++ [x]) [] ++
    [Stage.cycle, .sync, .talk, .fault].filter (fun x => !named.contains x)

/-- What the acts of one tick tell each other: the position a fall is captured at, whether a fall has set the position
on this tick, whether SYNC has been sampled and whether the position has been counted. -/
structure TickNote where
  captured : Nat
  moved : Bool
  sampled : Bool
  counted : Bool
  deriving DecidableEq, Repr

/-- The level of SYNC: low if the outside or the part pulls it low (R15). -/
def syncHigh (pins : Pins) (s : State) : Bool := pins.sync && !syncDriven s

/-! ### The cycle position (R3 to R5) -/

/-- The position counts one tick, or wraps; a fall that has set it to 0 on this tick leaves it there (R3). -/
def cycleStage (pins : Pins) (order : TickOrder) (n : TickNote) (s : State) : TickNote × State :=
  if s.mbc.station.running && !n.moved then
    if wrapDue s then
      ({ n with captured := 0, counted := true }, wrap order.boundary (syncHigh pins s) s)
    else ({ n with counted := true }, { s with cyt := { s.cyt with position := s.cyt.position + 1, begun := false } })
  else ({ n with counted := true }, s)

/-! ### The SYNC sample (R7, R17) -/

/-- SYNC is sampled: a fall is taken at the captured position, then the stuck detector is judged (R7, R17). -/
def sampleSync (pins : Pins) (order : TickOrder) (n : TickNote) (s : State) : TickNote × State :=
  if s.mbc.station.running then
    if syncHigh pins s then ({ n with sampled := true }, syncHighSample s)
    else
      let low := syncLowSample s
      let moved := fallSeen s && fallMoves s n.captured
      let t := if fallSeen s then takeFall order.lockFirst order.boundary n.captured low else low
      ({ n with sampled := true, moved := n.moved || moved }, whenDue syncStuckDue syncStuck t)
  else ({ n with sampled := true }, s)

/-- The stuck detector of a line seen high (R17). -/
def endEpisode (s : State) : State :=
  if s.mbc.station.running then { s with sli := { s.sli with stuckCount := 0, stuck := false } } else s

/-- The SYNC sample in its place. A line that is high before the position has been counted ends a stuck episode there
(R17), and is sampled once the position has been counted, so that the marker of this tick's own boundary is seen on this
tick (R8, R15; log 3). -/
def syncStage (pins : Pins) (order : TickOrder) (n : TickNote) (s : State) : TickNote × State :=
  if syncHigh pins s && !n.counted then (n, endEpisode s) else sampleSync pins order n s

/-! ### The TALK sample (R22 to R24) -/

/-- A sender makes the mark of its next cell when the cell in progress has lasted TB ticks (R33). DESIGN CHOICE (log 32):
where TALK is still sampled low then, so that its pull makes no transition and no mark, the mark stays due and the sender
pulls low on every following tick, until the line has been low for TB ticks (R27, R35). DESIGN CHOICE (log 32): a sender
whose assembler a length or check fault has made FAULTED finds no long low any more (R27), so it pulls on until TALK_STUCK
at 16 TB drops its frame without a failure (log 18), where R41 says that it had stopped at the long low. DESIGN CHOICE (log
32): where its pull leaves TALK sampled high, since it does not reach the line, no mark is made either; the cell in progress goes on
and the mark stays due likewise, until the pull reaches the line or the line has been high for TB ticks (R27). No rule says
what such a sender does. -/
def makesMark (s : State) : Bool :=
  match s.tli.flight with
  | some f => s.tli.rx.phase != .waiting && decide (s.TB ≤ s.tli.rx.tick) &&
      decide (s.tli.rx.cell < vetoCell f.payload.length)
  | none => false

/-- The part pulls TALK low on the tick that begins now (R23, R28, R33). -/
def pullsNext (s : State) : Bool :=
  makesMark s || (s.tli.rx.phase != .waiting && pullsAt s (s.tli.rx.tick + 1))

/-- The cell in progress has lasted one tick more (R23). -/
def cellTick (s : State) : State :=
  if s.tli.rx.phase = .waiting then s else { s with tli.rx.tick := s.tli.rx.tick + 1 }

/-- The counters a low sample moves (R24, R41). -/
def talkLowSample (s : State) : State :=
  { s with
    tli := { s.tli with idle := 0, prevHigh := false, stuckCount := min (s.tli.stuckCount + 1) (16 * s.TB) } }

/-- The counters a high sample moves (R24, R41). -/
def talkHighSample (s : State) : State :=
  { s with
    tli := { s.tli with idle := min (s.tli.idle + 1) (2 * s.TB), prevHigh := true, stuckCount := 0, stuck := false } }

/-- The value of the cell in progress is read at its sample tick (R23). -/
def sampleTick (high : Bool) (s : State) : State :=
  if s.tli.rx.phase ≠ .waiting ∧ s.tli.rx.tick = s.TB / 2 then sampleCell high s else s

/-- A frame of this kind is accepted if it is due. -/
def acceptDue (tableFirst : Bool) (k : FrameKind) (s : State) : State :=
  whenDue (acceptedDue k) (acceptFrame tableFirst) s

/-- What the sample makes due: framing faults, TALK stuck, a lost arbitration, a bit error, the end of the frame. -/
def talkFindings (tableFirst : Bool) (s : State) : State :=
  let a := whenDue talkStuckDue talkStuck (whenDue longHighDue longHigh (whenDue longLowDue longLow s))
  let b := whenDue bitErrorDue countFailure (whenDue arbitrationLostDue loseArbitration a)
  let c := whenDue frameVoidedDue voidFrame b
  acceptDue tableFirst .leave (acceptDue tableFirst .recast
    (acceptDue tableFirst .claim (acceptDue tableFirst .hail c)))

/-- TALK is sampled: a start mark of the station's own, a mark, or one more tick of the cell; then the counters, the
cell's value and what they make due (R22 to R24, R27, R32). A transmitter that cannot pull the line low leaves the
sample high in the cells it drives, and the idle count goes on (R24, 4.9; log 25). -/
def talkStage (pins : Pins) (order : TickOrder) (s : State) : State :=
  if s.mbc.station.running then
    let started := startsFrame s
    let s := whenDue originateDue originate s
    let low := !pins.talk || (pins.transmits && (started || pullsNext s))
    let t := if started then s else if low && s.tli.prevHigh then talkMark s else cellTick s
    let u := if low then talkLowSample t else talkHighSample t
    talkFindings order.tableFirst (sampleTick (!low) u)
  else s

/-! ### The FAULT sample (R138) -/

/-- FAULT is sampled in every configured state (R138). -/
def faultStage (pins : Pins) (s : State) : State :=
  if pins.fault then whenDue faultReleasedDue faultReleased s else whenDue faultAssertedDue faultAsserted s

/-! ### The tick -/

/-- One of the four acts. -/
def runStage (pins : Pins) (order : TickOrder) (p : TickNote × State) (x : Stage) : TickNote × State :=
  match x with
  | .cycle => cycleStage pins order p.1 p.2
  | .sync => syncStage pins order p.1 p.2
  | .talk => (p.1, talkStage pins order p.2)
  | .fault => (p.1, faultStage pins p.2)

/-- One tick: the marker's count (R15), then the four acts in their order, SYNC last if it was put off. DESIGN CHOICE
(log 39): each act is taken whole, so that no record of another act arrives between two records of one, as FAULT_ON or
TALK_FAULT between VIEW_CHANGED and PEER_LOST of one boundary, which R150 allows too. DESIGN CHOICE (log 30): a host
command is taken before or after the whole tick, never between two of its acts (R169). DESIGN CHOICE (log 31): a snap's
capture c_s is the position held before this tick's own change to it (R3, R9), so that c_s itself has been held for one
tick, with a leg on whose window covers it; R5, R145 and the example of 7.9 count it as not reached. -/
def tickBody (pins : Pins) (order : TickOrder) (s : State) : State :=
  let s := if s.sli.markerActive then markerTick s else s
  let n : TickNote := { captured := s.cyt.position, moved := false, sampled := false, counted := false }
  let r := (stageOrder order.stages).foldl (runStage pins order) (n, s)
  if r.1.sampled then r.2 else (sampleSync pins order r.1 r.2).2

/-- One CLK edge: the prescaler counts to 2 to the prescale code, and its overflow is a tick (R2). -/
def clockEdge (pins : Pins) (order : TickOrder) (s : State) : State :=
  if s.cyt.presc + 1 < 2 ^ s.cfg.fp.prescale then { s with cyt.presc := s.cyt.presc + 1 }
  else tickBody pins order { s with cyt.presc := 0 }

/-- The command TICK (R2). -/
def execTick (pins : Pins) (order : TickOrder) (s : State) : Host.Outcome State Fault Refusal :=
  happen s s.cyt.prescRunning (clockEdge pins order)

end Sys2Proof.Machine
end

