-- ==== Sys2Proof/Machine/Dispatch.lean ====
section
/-!
DEFINITION. Which meaning each command has: one arm per constructor of `Instr`.
-/

namespace Sys2Proof.Machine

/-- The effect of a command on everything but the queue of waiting commands. -/
def exec (i : Instr) (s : State) : Host.Outcome State Fault Refusal :=
  match i with
  | .fullReset => Sys2Proof.Machine.execFullReset s
  | .resetRelease => Sys2Proof.Machine.execResetRelease s
  | .wrap order => Sys2Proof.Machine.execWrap order s
  | .syncFall lockFirst order => Sys2Proof.Machine.execSyncFall lockFirst order s
  | .markerEnd => Sys2Proof.Machine.execMarkerEnd s
  | .syncStuck => Sys2Proof.Machine.execSyncStuck s
  | .talkMark => Sys2Proof.Machine.execTalkMark s
  | .frameOriginate => Sys2Proof.Machine.execFrameOriginate s
  | .arbitrationLost => Sys2Proof.Machine.execArbitrationLost s
  | .bitError => Sys2Proof.Machine.execBitError s
  | .longHighFault => Sys2Proof.Machine.execLongHighFault s
  | .longLowFault => Sys2Proof.Machine.execLongLowFault s
  | .frameVoided => Sys2Proof.Machine.execFrameVoided s
  | .hailAccepted tableFirst => Sys2Proof.Machine.execHailAccepted tableFirst s
  | .claimAccepted tableFirst => Sys2Proof.Machine.execClaimAccepted tableFirst s
  | .recastAccepted tableFirst => Sys2Proof.Machine.execRecastAccepted tableFirst s
  | .leaveAccepted tableFirst => Sys2Proof.Machine.execLeaveAccepted tableFirst s
  | .talkStuck => Sys2Proof.Machine.execTalkStuck s
  | .foundGroup => Sys2Proof.Machine.execFoundGroup s
  | .alignTimeout => Sys2Proof.Machine.execAlignTimeout s
  | .hailInterval => Sys2Proof.Machine.execHailInterval s
  | .leaveTimeout => Sys2Proof.Machine.execLeaveTimeout s
  | .backoffExpiry => Sys2Proof.Machine.execBackoffExpiry s
  | .heartbeat => Sys2Proof.Machine.execHeartbeat s
  | .quietHoldOn => Sys2Proof.Machine.execQuietHoldOn s
  | .leaseExpiry => Sys2Proof.Machine.execLeaseExpiry s
  | .peerLost id => Sys2Proof.Machine.execPeerLost id s
  | .peerPurge id => Sys2Proof.Machine.execPeerPurge id s
  | .viewSwitch => Sys2Proof.Machine.execViewSwitch s
  | .observedSwitch => Sys2Proof.Machine.execObservedSwitch s
  | .windowEdge => Sys2Proof.Machine.execWindowEdge s
  | .faultAsserted => Sys2Proof.Machine.execFaultAsserted s
  | .faultReleased => Sys2Proof.Machine.execFaultReleased s
  | .selFall => Sys2Proof.Machine.execSelFall s
  | .selRise => Sys2Proof.Machine.execSelRise s
  | .configure record => Sys2Proof.Machine.execConfigure record s
  | .join => Sys2Proof.Machine.execJoin s
  | .leave => Sys2Proof.Machine.execLeave s
  | .restart => Sys2Proof.Machine.execRestart s
  | .setDemand leg value => Sys2Proof.Machine.execSetDemand leg value s
  | .setEnables masks => Sys2Proof.Machine.execSetEnables masks s
  | .getStatus => Sys2Proof.Machine.execGetStatus s
  | .getView which index => Sys2Proof.Machine.execGetView which index s
  | .getPeer index => Sys2Proof.Machine.execGetPeer index s
  | .getPlan index => Sys2Proof.Machine.execGetPlan index s
  | .getChange index => Sys2Proof.Machine.execGetChange index s
  | .peekEvent => Sys2Proof.Machine.execPeekEvent s
  | .popEvent => Sys2Proof.Machine.execPopEvent s
  | .unknownCode code => Sys2Proof.Machine.execUnknownCode code s
  | .tick pins order => Sys2Proof.Machine.execTick pins order s
  | .byteComplete byte => Sys2Proof.Machine.execByteComplete byte s

end Sys2Proof.Machine
end

