-- ==== Sys2Proof/WellFormed.lean ====
section
/-!
DEFINITION. Which commands are well formed: operands that the row's rule admits.
-/

namespace Sys2Proof

/-- A station id that a frame or an entry can carry (R159). -/
def validId (id : Nat) : Bool := decide (1 ≤ id) && decide (id ≤ 62)

/-- An order whose readout, if it has one, is taken after one of the boundary's six acts, 0 to 5 (R169). -/
def BoundaryOrder.wellFormed (order : BoundaryOrder) : Bool :=
  match order.readout with
  | some r => decide (r.after ≤ 5)
  | none => true

/-- A command whose operands its row admits: a CONFIGURE record of 13 bytes (R188), an unknown code that names
none of the thirteen commands (R173), a station id of 1 to 62, a boundary's readout in one of its six places, an order
that names no act of the tick twice. -/
def Instr.wellFormed : Instr → Bool
  | .configure record => record.length == 13
  | .unknownCode code => (Machine.operandCount code).isNone
  | .peerLost id => validId id
  | .peerPurge id => validId id
  | .tick _ order => decide order.stages.Nodup && order.boundary.wellFormed
  | .wrap order => order.wellFormed
  | .syncFall _ order => order.wellFormed
  | .fullReset => true
  | .resetRelease => true
  | .markerEnd => true
  | .syncStuck => true
  | .talkMark => true
  | .frameOriginate => true
  | .arbitrationLost => true
  | .bitError => true
  | .longHighFault => true
  | .longLowFault => true
  | .frameVoided => true
  | .hailAccepted _ => true
  | .claimAccepted _ => true
  | .recastAccepted _ => true
  | .leaveAccepted _ => true
  | .talkStuck => true
  | .foundGroup => true
  | .alignTimeout => true
  | .hailInterval => true
  | .leaveTimeout => true
  | .backoffExpiry => true
  | .heartbeat => true
  | .quietHoldOn => true
  | .leaseExpiry => true
  | .viewSwitch => true
  | .observedSwitch => true
  | .windowEdge => true
  | .faultAsserted => true
  | .faultReleased => true
  | .selFall => true
  | .selRise => true
  | .join => true
  | .leave => true
  | .restart => true
  | .setDemand _ _ => true
  | .setEnables _ => true
  | .getStatus => true
  | .getView _ _ => true
  | .getPeer _ => true
  | .getPlan _ => true
  | .getChange _ => true
  | .peekEvent => true
  | .popEvent => true
  | .byteComplete _ => true

end Sys2Proof
end

