-- ==== Sys2Proof/Safety.lean ====
section
/-!
DEFINITION. What holds of the part in every state that it reaches: the invariants that the statements for the provers
speak of.
-/

namespace Sys2Proof.Machine

/-- The outputs, the quiet hold and IRQ stand where the gate and the queue put them (R134, R141, R157). -/
structure Settled (s : State) : Prop where
  quiet : s.los.quiet = quietHold s
  out0 : s.los.out0 = outLevel s 0
  out1 : s.los.out1 = outLevel s 1
  irq : s.evq.irqLow = irqLevel s

/-- The law of the event queue: at most 16 records, none newer than an OVERRUN record, and the 16th place reached by an
OVERRUN record alone (R151). -/
structure EventLaw (q : List Event) : Prop where
  held : q.length ≤ 16
  newest : ∀ older e newer, q = older ++ e :: newer → e.kind = .overrun → newer = []
  others : hasOverrun q = false → q.length ≤ 15

/-- What the records of the blocks hold in each station state. -/
structure Coherent (s : State) : Prop where
  /-- A current view is held in MEMBER and LEAVING alone (R86). -/
  current : s.mbc.current.isSome = s.mbc.station.inGroup
  /-- A pending view is held in MEMBER and LEAVING alone (R86). -/
  pendingView : s.mbc.pending.isSome = true → s.mbc.station.inGroup = true
  /-- The observed record is kept in ALIGNING and HAILING alone (R105). -/
  observed : s.mbc.observed ≠ Observed.empty → s.mbc.station.following = true
  /-- The change list is held in MEMBER alone (R87, R179). -/
  changes : s.mbc.changes ≠ [] → s.mbc.station = .member
  /-- The change list holds one entry for a station at most (R87). -/
  changeIds : (s.mbc.changes.map (·.id)).Nodup
  /-- The backoff timer runs in MEMBER alone (R57, R91). -/
  backoff : s.mbc.backoff.isSome = true → s.mbc.station = .member
  /-- A plan is held in MEMBER and LEAVING (R117, R127, R128). -/
  plan : s.plu.plan.isSome = s.mbc.station.inGroup
  /-- The table-complete flag is set in MEMBER and LEAVING alone (R117, R121). -/
  complete : s.plu.complete = true → s.mbc.station.inGroup = true
  /-- The part pulls SYNC low in MEMBER and LEAVING alone (R15). -/
  marker : s.sli.markerActive = true → s.mbc.station.inGroup = true
  /-- The request set holds only kinds the state permits (R31). -/
  requests : ∀ k, s.tli.requests.hasKind k = true → permitted s.mbc.station k = true
  /-- The adopted flag stays set from admission or adoption on (R16, R19, R52). -/
  adopted : s.mbc.station = .hailing ∨ s.mbc.station.inGroup = true → s.cyt.adopted = true
  /-- The timer and the lines rest in UNCONFIGURED and DETACHED (R19, R42, R46, R47). -/
  held : s.mbc.station.running = false →
    s.cyt.position = 0 ∧ s.cyt.cycle = 0 ∧ s.cyt.adopted = false ∧ s.cyt.lockCount = 0 ∧
    s.tli.rx = Rx.idle ∧ s.tli.flight = none ∧ s.tli.failures = 0
  /-- A boundary's happenings may be taken at position 0 of a running timer alone (log 5). -/
  begun : s.cyt.begun = true → s.cyt.position = 0 ∧ s.mbc.station.running = true
  /-- The record is locked in every state but UNCONFIGURED (R163). -/
  locked : s.locked = (s.mbc.station != .unconfigured)
  /-- The prescaler runs in every state but UNCONFIGURED (R2, R46). -/
  prescaler : s.cyt.prescRunning = (s.mbc.station != .unconfigured)

/-- The Peer Table: at most 20 entries in ascending id, none of the station itself, MEMBER and LOST entries in MEMBER
and LEAVING alone (R69, R70, R82). -/
structure TableLaw (s : State) : Prop where
  ascending : (s.peers.map (·.id)).Pairwise (· < ·)
  size : s.peers.length ≤ 20
  notOwn : ∀ p ∈ s.peers, p.id ≠ s.cfg.id
  kinds : ∀ p ∈ s.peers, p.kind ≠ .heard → s.mbc.station.inGroup = true

/-! ### Words that the statements use -/

/-- What no happening inside the part reaches: the record and its lock, the host port, the enables, the pins, the queue of
commands, the prescaler's run. -/
structure Untouched (s t : State) : Prop where
  cfg : t.cfg = s.cfg
  locked : t.locked = s.locked
  port : t.hpt = s.hpt
  enables : t.evq.enables = s.evq.enables
  reset : t.resetAsserted = s.resetAsserted
  sel : t.selLow = s.selLow
  queue : t.pending = s.pending
  prescaler : t.cyt.prescRunning = s.cyt.prescRunning

/-- The state an outcome goes on in; a fault or a refusal would leave the state as it stood. -/
def nextOr (s : State) (o : Host.Outcome State Fault Refusal) : State :=
  match o with
  | .next t => t
  | .fault _ => s
  | .refused _ => s

/-- The port waits for a command code with RESET released (R168). -/
def AwaitsCode (s : State) : Prop := s.resetAsserted = false ∧ s.hpt.phase = .code

/-- The port waits for the last operand byte of a command with RESET released (R168). -/
def AwaitsLast (s : State) (code : Byte) (held : List Byte) : Prop :=
  s.resetAsserted = false ∧ s.hpt.phase = .operands ∧ s.hpt.code = some code ∧ s.hpt.operands = held

/-- A response stands ready at the port: a status byte and the results (R168, R172). -/
def answered (s : State) (status : Byte) (results : List Byte) : State :=
  { s with hpt := { phase := .response, code := none, operands := [], response := status :: results } }

/-- The part with one more record arrived at its event queue (R150 to R152). -/
def appended (s : State) (e : Event) : State := { s with evq := { s.evq with records := arrive s.evq.records e } }

/-- A request of this kind stands set, and an own frame of the kind in flight has its renewal flag set (R31, R37). -/
def requested (s : State) (k : FrameKind) : State :=
  { s with
    tli := { s.tli with
      requests :=
        { recast := s.tli.requests.recast || k == .recast
          leave := s.tli.requests.leave || k == .leave
          hail := s.tli.requests.hail || k == .hail
          claim := s.tli.requests.claim || k == .claim }
      flight := s.tli.flight.map (fun f => if f.kind = k then { f with renewal := true } else f) } }

/-- A frame of this kind, sender and payload stands complete in the assembler with its veto cell read 1 (R29). -/
structure Complete (s : State) (k : FrameKind) (sender : Nat) (payload : List Byte) : Prop where
  runs : s.resetAsserted = false ∧ s.mbc.station.running = true
  phase : s.tli.rx.phase = .receiving
  cells : 14 ≤ s.tli.rx.bits.length ∧ s.tli.rx.bits.length = vetoCell (readLength s.tli.rx.bits) + 1
  kind : readKind s.tli.rx.bits = k
  sender : readSender s.tli.rx.bits = sender
  payload : readPayload s.tli.rx.bits = payload
  veto : s.tli.rx.lastBit = some true
  ended : s.cfg.fp.tb < s.tli.rx.tick

/-- The row that takes an accepted frame of this kind. -/
def acceptRow (tableFirst : Bool) : FrameKind → Instr
  | .recast => .recastAccepted tableFirst
  | .leave => .leaveAccepted tableFirst
  | .hail => .hailAccepted tableFirst
  | .claim => .claimAccepted tableFirst

/-- A block that has RESET released and whose timer runs. -/
def Runs (s : State) : Prop := s.resetAsserted = false ∧ s.mbc.station.running = true

/-- The bytes that spell a host command on SDI (R187). -/
def hostBytes : Instr → Option (List Byte)
  | .configure record => some (0x01#8 :: record)
  | .join => some [0x02#8]
  | .leave => some [0x03#8]
  | .restart => some [0x04#8]
  | .setDemand leg value => some (0x05#8 :: leg :: wordBytes value)
  | .setEnables masks => some [0x06#8, masks]
  | .getStatus => some [0x10#8]
  | .getView which index => some [0x11#8, which, index]
  | .getPeer index => some [0x12#8, index]
  | .getPlan index => some [0x13#8, index]
  | .getChange index => some [0x14#8, index]
  | .peekEvent => some [0x20#8]
  | .popEvent => some [0x21#8]
  | .unknownCode code => some [code]
  | _ => none

/-- The tests of a CONFIGURE record by their numbers, as R159, R161 and R188 give them. -/
def configTest (record : List Byte) : Nat → Bool
  | 1 => decide (1 ≤ (byteAt record 0).toNat ∧ (byteAt record 0).toNat ≤ 62)
  | 2 => decide ((byteAt record 1).toNat = 1 ∨ (byteAt record 1).toNat = 2)
  | 3 => decide (2048 ≤ (wordAt record 2).toNat ∧ (wordAt record 2).toNat ≤ 65535)
  | 4 => decide ((byteAt record 4).toNat ≤ 7)
  | 5 => decide (1 ≤ (byteAt record 5).toNat ∧ (byteAt record 5).toNat ≤ 16)
  | 6 => decide ((byteAt record 6).toNat = 0 ∨ (byteAt record 6).toNat = 1)
  | 7 => decide ((byteAt record 7).toNat = 0 ∨ (byteAt record 7).toNat = 1)
  | 8 => decide (4 ≤ (byteAt record 8).toNat ∧ (byteAt record 8).toNat ≤ 127)
  | 9 => decide ((byteAt record 9).toNat = 0 ∨ (byteAt record 9).toNat = 1)
  | 10 => decide ((byteAt record 10).toNat = 0 ∨ (byteAt record 10).toNat = 1)
  | 13 => decide (512 * (byteAt record 8).toNat ≤ (wordAt record 2).toNat)
  | 14 => !decide ((byteAt record 6).toNat = 1 ∧ (byteAt record 7).toNat = 1)
  | _ => true

/-- A window covers a position of the cycle, with its own part or with the tail it leaves (R125, R135). -/
def covers (p : Nat) (w : Window) (x : Nat) : Bool := inWindow p w x || inTail p w x

/-! ### Words for boundaries -/

/-- The part right after the Cycle Timer has taken a snap (R11 to R14): the new cycle, the snap amount, the lock count
and, in MEMBER and LEAVING above the tolerance, the slip with its record. -/
def snapped (s : State) : State :=
  let amount := s.cfg.fp.p - s.cyt.position
  let t := { s with
    cyt := { s.cyt with
      position := 0, cycle := s.cyt.cycle + 1, lastSnap := amount, begun := true
      lockCount := if amount ≤ s.cfg.fp.p / 64 then min (s.cyt.lockCount + 1) 4 else 0 }
    sli := { s.sli with prevHigh := false } }
  if s.mbc.station.inGroup = true ∧ s.cfg.fp.p / 64 < amount then
    appended { t with cyt := { t.cyt with slips := t.cyt.slips + 1 } }
      { kind := .slip, cycle := some t.cyt.cycle, station := none, detail := some { code := 0, value := amount } }
  else t

/-- The command begins a new cycle, as a wrap or as a snap that takes no ALIGNING station to HAILING, with no readout
within the boundary; `u` is the part right after the Cycle Timer's own step (R5, R6, R11). -/
def BeginsCycle (order : BoundaryOrder) (s : State) (c : Instr) (u : State) : Prop :=
  order.readout = none ∧ Runs s ∧
  ((c = .wrap order ∧ s.cfg.fp.p ≤ s.cyt.position + 1 ∧
      u = { s with cyt := { s.cyt with position := 0, cycle := s.cyt.cycle + 1, begun := true } }) ∨
   ((∃ lockFirst, c = .syncFall lockFirst order) ∧ s.mbc.station ≠ .listening ∧ s.sli.prevHigh = true ∧
      0 < s.cyt.position ∧ s.cfg.fp.p / 2 ≤ s.cyt.position ∧
      (s.mbc.station = .aligning → s.cyt.adopted = false ∨ (snapped s).cyt.lockCount < 4) ∧ u = snapped s))

/-- An ALIGNING part that has just entered HAILING: the HAIL count is 1, the interval count 0, and a HAIL is the one
request (R52, R54). -/
def hailed (s : State) : State :=
  requested
    { s with
      mbc := { s.mbc with station := .hailing, hailCount := 1, hailInterval := 0 }
      tli := { s.tli with requests := Requests.empty } }
    .hail

/-- A MEMBER's part with its backoff timer counted at a boundary: one that reaches 0 becomes absent and requests a RECAST
(R91). -/
def backedOff (s : State) : State :=
  match s.mbc.backoff with
  | none => s
  | some n =>
    if 2 ≤ n then { s with mbc := { s.mbc with backoff := some (n - 1) } }
    else requested { s with mbc := { s.mbc with backoff := none } } .recast

/-- Where the lease runs out at a boundary, the part goes from `a` to `b` as the row LEASE_EXPIRY says (R119); elsewhere
they are one. That the row asks for `counting` is the model's own (log 5). -/
def LeaseRunsOut (due : Prop) (a b : State) : Prop :=
  (due → exec .leaseExpiry { a with plu := { a.plu with counting := true } } = .next b) ∧ (¬ due → b = a)

/-- What a boundary counts in every station state (R26, R74, R79, R114, R138): a frame being received notes it, every
silence grows by one, the waiting demands are examined with the adopted flag set (`WaitingDemandFates` says how), a
WAITING latch clears. -/
def boundaryCounted (u : State) : State :=
  { u with
    tli := { u.tli with
      rx := if u.tli.rx.phase = .receiving then { u.tli.rx with boundary := true } else u.tli.rx }
    peers := u.peers.map (fun p =>
      { p with silence := min (p.silence + 1) 255
               leg0 := if u.cyt.adopted then p.leg0.advance u.cyt.cycle else p.leg0
               leg1 := if u.cyt.adopted then p.leg1.advance u.cyt.cycle else p.leg1 })
    plu := { u.plu with
      leg0 := if u.cyt.adopted then u.plu.leg0.advance u.cyt.cycle else u.plu.leg0
      leg1 := if u.cyt.adopted then u.plu.leg1.advance u.cyt.cycle else u.plu.leg1
      counting := false }
    los := { u.los with latch := if u.los.latch = .waiting then .clear else u.los.latch } }

/-- No view switches at a boundary into cycle `c`, and no observed pending view is discarded there (R99, R108). -/
structure NoSwitchDue (m : Membership) (c : U16) : Prop where
  pending : ∀ p, m.pending = some p → ¬ (c = p.switchCycle ∨ newer c p.switchCycle = true)
  observed : ∀ p, m.observed.pending = some p → ¬ (c = p.switchCycle ∨ newer c p.switchCycle = true) ∧
    ahead p.switchCycle c ≤ 8

/-- The boundary that took the part from `s` to `t` has planned the cycle on view `v` (R15, R121, R127, R129, R137): the
table-complete flag, the plan, the previous windows, the suppression flags and the marker. -/
structure Planned (s : State) (v : View) (t : State) : Prop where
  complete : t.plu.complete = true ↔ ∀ l ∈ viewLegs v.members, l.1 = t.cfg.id ∨
    ∃ p, findPeer t.peers l.1 = some p ∧ (if l.2 = 0 then p.leg0 else p.leg1).valid = true
  plan : t.plu.plan = some (planOf t v)
  prev0 : t.plu.prev0 = currentWindow s 0
  prev1 : t.plu.prev1 = if s.cfg.legs = 2 then currentWindow s 1 else none
  supp0 : t.los.supp0 = true ↔ ∃ w, currentWindow t 0 = some w ∧ 0 < w.grant ∧ w.grant < t.cfg.minWindow
  supp1 : t.los.supp1 = true ↔ ∃ w, currentWindow t 1 = some w ∧ 0 < w.grant ∧ w.grant < t.cfg.minWindow

/-- The part `q` with its marker driven and with the plan that `t` holds (R15, R127). -/
def withPlanOf (q t : State) : State :=
  { q with
    sli := { q.sli with markerActive := true, markerLeft := 8 }
    plu := { q.plu with complete := t.plu.complete, plan := t.plu.plan, prev0 := t.plu.prev0, prev1 := t.plu.prev1 }
    los := { q.los with supp0 := t.los.supp0, supp1 := t.los.supp1 } }

/-! ### Words for demands and the change list -/

/-- `n` is the value that the station has last put toward the group for an own leg (R111): the CLAIM in flight's, else
the published pending value, else the published demand. -/
def LastPut (s : State) (leg n : Nat) : Prop :=
  (∃ f, s.tli.flight = some f ∧ f.kind = .claim ∧
    n = if leg = 0 then (decodeClaim f.payload).demand0 else (decodeClaim f.payload).demand1.getD 0) ∨
  ((∀ f, s.tli.flight = some f → f.kind ≠ .claim) ∧
    ∃ o : OwnLeg, o = (if leg = 0 then s.plu.leg0 else s.plu.leg1) ∧
      ((∃ d, o.pending = some d ∧ n = d.demand) ∨ (o.pending = none ∧ n = o.published)))

/-- Some configured leg's requested demand differs from the value last put toward the group (R111). -/
def ClaimDue (s : State) : Prop :=
  ∃ leg n, leg < s.cfg.legs ∧ LastPut s leg n ∧ n ≠ (if leg = 0 then s.plu.leg0 else s.plu.leg1).requested

/-- The walk of R92 from the member list `base`: the entries taken so far in arrival order, the list built, the entries
that stay, the stations dropped for want of room, and whether a refresh is carried. One constructor per cell of the
rule's table, an insertion with and without room. -/
inductive Walked (base : List Member) :
    List ChangeEntry → List Member → List ChangeEntry → List Nat → Bool → Prop
  | start : Walked base [] base [] [] false
  | inserted {es ms kept dropped refresh e legs} : Walked base es ms kept dropped refresh →
      (e.change = .add legs ∨ e.change = .refresh legs) → lists ms e.id = false →
      ms.length + 1 ≤ 16 → legTotal ms + legs ≤ 16 →
      Walked base (es ++ [e])
        (ms.filter (fun m => decide (m.id < e.id)) ++
          { id := e.id, legs := legs, new := false } :: ms.filter (fun m => decide (e.id < m.id)))
        (kept ++ [e]) dropped refresh
  | noRoom {es ms kept dropped refresh e legs} : Walked base es ms kept dropped refresh →
      (e.change = .add legs ∨ e.change = .refresh legs) → lists ms e.id = false →
      16 < ms.length + 1 ∨ 16 < legTotal ms + legs →
      Walked base (es ++ [e]) ms kept (dropped ++ [e.id]) refresh
  | addListed {es ms kept dropped refresh e legs} : Walked base es ms kept dropped refresh →
      e.change = .add legs → lists ms e.id = true → Walked base (es ++ [e]) ms kept dropped refresh
  | removed {es ms kept dropped refresh e cause} : Walked base es ms kept dropped refresh →
      e.change = .remove cause → lists ms e.id = true →
      Walked base (es ++ [e]) (ms.filter (fun m => !(m.id == e.id))) (kept ++ [e]) dropped refresh
  | removeUnlisted {es ms kept dropped refresh e cause} : Walked base es ms kept dropped refresh →
      e.change = .remove cause → lists ms e.id = false → Walked base (es ++ [e]) ms kept dropped refresh
  | refreshed {es ms kept dropped refresh e legs changed} : Walked base es ms kept dropped refresh →
      e.change = .refresh legs → lists ms e.id = true →
      changed = ms.map (fun m => if m.id = e.id then { m with legs := legs } else m) →
      Walked base (es ++ [e]) (if legTotal changed ≤ 16 then changed else ms) (kept ++ [e]) dropped true

/-- Room for a candidate on the projected view: with the candidate applied, at most 16 stations and 16 legs (R88). -/
def RoomFor (ms : List Member) (id legs : Nat) (refresh : Bool) : Prop :=
  (lists ms id = false → ms.length + 1 ≤ 16 ∧ legTotal ms + legs ≤ 16) ∧
  (lists ms id = true → ms.length ≤ 16 ∧
    legTotal (if refresh then ms.map (fun m => if m.id = id then { m with legs := legs } else m) else ms) ≤ 16)

/-- The change list after the entry `e` has been placed in it, and the station refused with FULL, if any (R87, R88). -/
inductive Placed (held : List ChangeEntry) (e : ChangeEntry) : List ChangeEntry → Option Nat → Prop
  | replaced : (∃ x ∈ held, x.id = e.id) → Placed held e (held.filter (fun x => !(x.id == e.id)) ++ [e]) none
  | appended : (∀ x ∈ held, x.id ≠ e.id) → held.length < 16 → Placed held e (held ++ [e]) none
  | displaced {older old newer cause} : held = older ++ old :: newer → (∀ x ∈ held, x.id ≠ e.id) → 16 ≤ held.length →
      e.change = .remove cause → (∀ x ∈ older, ∃ c, x.change = .remove c) → (∀ c, old.change ≠ .remove c) →
      Placed held e (older ++ newer ++ [e]) (some old.id)
  | refused : (∀ x ∈ held, x.id ≠ e.id) → 16 ≤ held.length → (∀ c, e.change ≠ .remove c) →
      Placed held e held (some e.id)

/-- The station's rank (R90): how many stations of the current view come before it, those LOST and those with a REMOVE in
the change list left out. -/
def RankIs (s : State) (n : Nat) : Prop :=
  ∃ v, s.mbc.current = some v ∧
    n = (v.members.filter (fun m => decide (m.id < s.cfg.id) &&
      !((findPeer s.peers m.id).any (fun p => p.kind == .lost)) &&
      !(s.mbc.changes.any (fun e => e.id == m.id && (match e.change with
        | .remove _ => true
        | .add _ => false
        | .refresh _ => false))))).length

/-- The backoff timer of `t` stands as R91 sets it, at its present rank, where `requests` are those before: a RECAST
request at once at rank 0, twice the rank otherwise. -/
def BackoffSet (requests : Requests) (t : State) : Prop :=
  ∃ n, RankIs t n ∧
    (n = 0 → t.mbc.backoff = none ∧ t.tli.requests = { requests with recast := true }) ∧
    (0 < n → t.mbc.backoff = some (2 * n) ∧ t.tli.requests = requests)

/-- From `s` to `t` the change `e` has been placed, on an event queue of `records` (R87, R91): the list is the one placed,
a station refused has its HAIL_REFUSED(FULL), and a list that was empty sets the backoff timer. -/
structure PlacedIn (records : List Event) (s t : State) (e : ChangeEntry) : Prop where
  list : ∃ refused, Placed s.mbc.changes e t.mbc.changes refused ∧
    (refused = none → t.evq.records = records) ∧
    (∀ id, refused = some id → t.evq.records = arrive records
      { kind := .hailRefused, cycle := some s.cyt.cycle, station := some id,
        detail := some { code := 1, value := 0 } })
  rest : t.mbc = { s.mbc with changes := t.mbc.changes, backoff := t.mbc.backoff }
  later : s.mbc.changes ≠ [] → t.mbc.backoff = s.mbc.backoff ∧ t.tli.requests = s.tli.requests
  first : s.mbc.changes = [] → BackoffSet s.tli.requests t

/-- An adopted member list covers an entry (R96). -/
def CoveredBy (ms : List Member) (e : ChangeEntry) : Prop :=
  ((∃ legs, e.change = .add legs ∨ e.change = .refresh legs) ∧ lists ms e.id = true) ∨
  ((∃ cause, e.change = .remove cause) ∧ lists ms e.id = false)

/-! ### Words for TALK -/

/-- The cell in progress is the veto cell: of the frame sent, or of the frame as read (R33, R36). -/
def AtVeto (s : State) : Prop :=
  (∃ f, s.tli.flight = some f ∧ s.tli.rx.cell = vetoCell f.payload.length) ∨
  (s.tli.flight = none ∧ 14 ≤ s.tli.rx.bits.length ∧ s.tli.rx.cell = vetoCell (readLength s.tli.rx.bits))

/-- The assembler at a start mark (R26). -/
def startedRx : Rx :=
  { phase := .receiving, bits := [], cell := 0, tick := 1, lastBit := none, boundary := false, fault := none,
    vetoing := false }

/-- A start mark takes from `s` the snapshot of a frame of this kind and leaves the part `u` (R32, R112): the RECAST
that the build gives; else, with no RECAST request or with its content empty, the LEAVE, the HAIL or the CLAIM. -/
def Snapshot (s u : State) (k : FrameKind) (payload : List Byte) : Prop :=
  (s.tli.requests.recast = true ∧ k = .recast ∧
    ∃ r, buildRecast s = (u, some r) ∧ payload = encodeRecast r) ∨
  (((s.tli.requests.recast = false ∧ u = s) ∨ (s.tli.requests.recast = true ∧ buildRecast s = (u, none))) ∧
    ((u.tli.requests.leave = true ∧ k = .leave ∧
        ∃ v, u.mbc.current = some v ∧ payload = [v.epoch.extractLsb' 8 8, v.epoch.extractLsb' 0 8]) ∨
     (u.tli.requests.leave = false ∧ u.tli.requests.hail = true ∧ k = .hail ∧
        payload = encodeHail { legs := u.cfg.legs, fp := u.cfg.fp }) ∨
     (u.tli.requests.leave = false ∧ u.tli.requests.hail = false ∧ u.tli.requests.claim = true ∧ k = .claim ∧
        ∃ v, u.mbc.current = some v ∧ payload = encodeClaim
          { epoch := v.epoch, cycle := u.cyt.cycle, identity := identityOf v.members,
            demand0 := u.plu.leg0.requested,
            demand1 := if u.cfg.legs = 2 then some u.plu.leg1.requested else none })))

/-- A failure of the station's own frame (R36, R38, R66): the frame is gone and the failure count is one more, and the
sixteenth in a row posts MUTED and detaches the station. -/
def afterFailure (s : State) : State :=
  if s.tli.failures < 15 then { s with tli := { s.tli with flight := none, failures := s.tli.failures + 1 } }
  else enterDetached
    (appended s { kind := .muted, cycle := some s.cyt.cycle, station := none, detail := some { code := 0, value := 16 } })
    .muted

/-- The tests of a RECAST from a current member by the detail codes of their rejection, in the order of R95: MALFORMED 0,
MISMATCH 1, SUPERSEDED 2, STALE 3 (R190); `bytes` is the payload's length. -/
def recastTest (s : State) (r : RecastContent) (bytes : Nat) : Nat → Prop
  | 0 => r.count + 11 = bytes ∧ (r.members.map (·.id)).Pairwise (· < ·) ∧ (∀ m ∈ r.members, m.id ≠ 0 ∧ m.id ≠ 63) ∧
      legTotal r.members ≤ 16
  | 1 => r.fp = s.cfg.fp
  | 2 => (∀ v, s.mbc.current = some v → newer r.epoch v.epoch = true) ∧
      (∀ w, s.mbc.pending = some w → newer r.epoch w.view.epoch = true)
  | _ => 2 ≤ ahead r.switchCycle s.cyt.cycle ∧ ahead r.switchCycle s.cyt.cycle ≤ 8

/-- The epoch that a follower's record names, the newer of its best identity's and its observed pending view's, or that of
whichever it holds (R105). That it is the best identity's where the two are 32768 apart, so that neither is newer, is the
model's choice (log 20). -/
def ObservedEpochIs (o : Observed) (e : U16) : Prop :=
  (∃ b, o.best = some b ∧ e = b.epoch ∧ ∀ p, o.pending = some p → newer p.view.epoch b.epoch = false) ∨
  (∃ p, o.pending = some p ∧ e = p.view.epoch ∧ ∀ b, o.best = some b → newer p.view.epoch b.epoch = true)

/-- The lowest 16 of the ids held and one more, in ascending order (R105). -/
structure LowestSixteen (held : List Nat) (id : Nat) (result : List Nat) : Prop where
  ascending : result.Pairwise (· < ·)
  size : result.length ≤ 16
  only : ∀ x ∈ result, x = id ∨ x ∈ held
  lowest : ∀ x, (x = id ∨ x ∈ held) → x ∈ result ∨ (result.length = 16 ∧ ∀ y ∈ result, y < x)

/-! ### Words for frames at the Peer Table -/

/-- An entry once the station has left MEMBER or LEAVING, or has entered DETACHED (R67, R82). -/
def demoted (p : Peer) : Peer :=
  { p with kind := .heard, foreign := false, leg0 := { p.leg0 with valid := false }, leg1 := { p.leg1 with valid := false } }

/-- The leg count that a RECAST of these member bytes leaves a sender that held `held` (R71, R186). That the first byte
with the sender's id counts, of any number carried, is the model's choice (log 23). -/
def recastLegs (ms : List Member) (id : Nat) (held : Option Nat) : Option Nat :=
  match ms.find? (fun m => m.id == id) with
  | some m => some m.legs
  | none => held

/-- A sender's entry after its frame: no longer silent, with what the frame's kind carries (R71, R78, R186). -/
def heardBy (fp : Fingerprint) (k : FrameKind) (payload : List Byte) (q : Peer) : Peer :=
  match k with
  | .hail => { q with
      silence := 0, legs := some (decodeHail payload).legs
      verdict := if (decodeHail payload).fp = fp then .isMatch else .mismatch }
  | .claim =>
    let c := decodeClaim payload
    { q with
      silence := 0, legs := some (if c.demand1.isSome then 2 else 1), lastEpoch := some c.epoch
      leg0 := { q.leg0 with pending := some { demand := c.demand0, applyCycle := c.cycle + 2 } }
      leg1 := if c.demand1.isSome then
          { q.leg1 with pending := some { demand := c.demand1.getD 0, applyCycle := c.cycle + 2 } } else q.leg1 }
  | .recast => { q with silence := 0, legs := recastLegs (decodeRecast payload).members q.id q.legs }
  | .leave => { q with silence := 0 }

/-- A station's entry is held against eviction (R73): the station is listed in the pending view, has an entry in the
change list of a MEMBER, or is listed in the observed pending view of a follower. -/
def HeldIn (m : State) (id : Nat) : Prop :=
  (m.mbc.station.inGroup = true ∧ ∃ w, m.mbc.pending = some w ∧ lists w.view.members id = true) ∨
  (m.mbc.station = .member ∧ ∃ e ∈ m.mbc.changes, e.id = id) ∨
  (m.mbc.station.following = true ∧ ∃ w, m.mbc.observed.pending = some w ∧ lists w.view.members id = true)

/-- A LOST sender that returns to MEMBER: no pending view is held, or the pending view lists it (R76). -/
def Returns (m : State) (sender : Nat) (p : Peer) : Prop :=
  findPeer m.peers sender = some p ∧ p.kind = .lost ∧
    ∀ w, m.mbc.pending = some w → lists w.view.members sender = true

/-- The entries with a new one, updated by the frame that makes it, in the place its id takes (R69 to R72, R78). -/
def seated (fp : Fingerprint) (k : FrameKind) (sender : Nat) (payload : List Byte) (ps : List Peer) : List Peer :=
  ps.filter (fun q => decide (q.id < sender)) ++
    heardBy fp k payload
      { id := sender, kind := .heard, legs := none, verdict := .unknown, silence := 0, lastEpoch := none
        foreign := false, leg0 := { current := 0, valid := false, pending := none }
        leg1 := { current := 0, valid := false, pending := none } } ::
    ps.filter (fun q => decide (sender < q.id))

/-- A record about a station with a code as its detail (R147, R190). -/
def about (cycle : U16) (kind : EventKind) (id code : Nat) : Event :=
  { kind := kind, cycle := some cycle, station := some id, detail := some { code := code, value := 0 } }

/-- The entries that a frame of another station leaves in the Peer Table of `m`, and the record it posts with this cycle
number, by the sender's entry and the room in the table (R71 to R73, R76, R78). -/
inductive Heard (m : State) (cycle : U16) (k : FrameKind) (sender : Nat) (payload : List Byte) :
    List Peer → List Event → Prop
  | known {p} : findPeer m.peers sender = some p → ¬ Returns m sender p →
      Heard m cycle k sender payload (updatePeer m.peers sender (heardBy m.cfg.fp k payload)) []
  | returned {p} : Returns m sender p →
      Heard m cycle k sender payload
        (updatePeer m.peers sender (fun q => { heardBy m.cfg.fp k payload q with kind := .member }))
        [about cycle .peerReturned sender p.silence]
  | entered : findPeer m.peers sender = none → m.peers.length < 20 →
      Heard m cycle k sender payload (seated m.cfg.fp k sender payload m.peers)
        [about cycle .peerHeard sender (kindCode k)]
  | evicting {old} : findPeer m.peers sender = none → 20 ≤ m.peers.length →
      old ∈ m.peers → old.kind = .heard → ¬ HeldIn m old.id →
      (∀ q ∈ m.peers, q ≠ old → q.kind = .heard → ¬ HeldIn m q.id →
        q.silence < old.silence ∨ (q.silence = old.silence ∧ q.id < old.id)) →
      Heard m cycle k sender payload
        (seated m.cfg.fp k sender payload (m.peers.filter (fun q => !(q.id == old.id))))
        [about cycle .peerHeard sender (kindCode k)]
  | full : findPeer m.peers sender = none → 20 ≤ m.peers.length →
      (∀ q ∈ m.peers, q.kind = .heard → HeldIn m q.id) →
      Heard m cycle k sender payload m.peers [about cycle .tableFull sender (kindCode k)]

/-- From `m` to `t` the Peer Table alone has taken the frame (R71 to R73, R76, R91): the entries, the record, and, where
the sender returns in MEMBER, the change list without a REMOVE with cause LOST for it. -/
structure TableTakes (m : State) (cycle : U16) (k : FrameKind) (sender : Nat) (payload : List Byte) (t : State) :
    Prop where
  heard : ∃ posted, Heard m cycle k sender payload t.peers posted ∧
    t.evq.records = posted.foldl arrive m.evq.records
  withdrawn : (∃ p, Returns m sender p) → m.mbc.station = .member →
    t.mbc.changes = m.mbc.changes.filter (fun e => !(e.id == sender && e.change == .remove .lost))
  stands : ¬ ((∃ p, Returns m sender p) ∧ m.mbc.station = .member) → t.mbc.changes = m.mbc.changes
  backoff : t.mbc.backoff = if t.mbc.changes = [] ∧ m.mbc.changes ≠ [] then none else m.mbc.backoff
  rest : t = { m with
    peers := t.peers
    mbc := { m.mbc with changes := t.mbc.changes, backoff := t.mbc.backoff }
    evq := { m.evq with records := t.evq.records } }

/-! ### Words for frames at the Membership Controller -/

/-- A CLAIM of a sender in either view finds the station in step (R101): the count test, and, of a sender that the
current view lists, the view test, which fails only on an epoch newer than every view held. -/
def InStep (s : State) (sender : Nat) (c : ClaimContent) : Prop :=
  (c.cycle = s.cyt.cycle ∨ c.cycle + 1 = s.cyt.cycle) ∧
  ∀ v, s.mbc.current = some v → lists v.members sender = true → newer c.epoch v.epoch = false ∨
    ∃ w, s.mbc.pending = some w ∧ newer c.epoch w.view.epoch = false

/-- The current view lists the station, or a pending view does. -/
def InViews (s : State) (id : Nat) : Prop :=
  (∃ v, s.mbc.current = some v ∧ lists v.members id = true) ∨
  (∃ w, s.mbc.pending = some w ∧ lists w.view.members id = true)

/-- The Membership Controller has moved nothing but its own records, the requests and the event queue. -/
def ControllerAlone (s t : State) : Prop :=
  t = { s with
    mbc := t.mbc
    tli := { s.tli with requests := t.tli.requests }
    evq := { s.evq with records := t.evq.records } }

/-- From `s` to `t` the backoff timer is handled after a RECAST taken in MEMBER, and stands as it is in LEAVING (R97). -/
structure BackoffAgain (s t : State) : Prop where
  empty : s.mbc.station = .member → t.mbc.changes = [] → t.mbc.backoff = none ∧ t.tli.requests = s.tli.requests
  held : s.mbc.station = .member → t.mbc.changes ≠ [] → BackoffSet s.tli.requests t
  leaving : s.mbc.station = .leaving → t.mbc.backoff = s.mbc.backoff ∧ t.tli.requests = s.tli.requests

/-- A CLAIM comes from a view lower than the best view heard, so that a follower ignores it (R106 case 5). -/
def FromLowerView (o : Observed) (sender : Nat) (c : ClaimContent) : Prop :=
  ∃ b, o.best = some b ∧ c.identity ≠ b.identity ∧ ¬ (sender ∈ o.senders ∧ newer c.epoch b.epoch = true) ∧
    ranksAbove c.identity b.identity = false

/-- A RECAST passes every test by which a follower takes it as its observed pending view (R105, R107); of two epochs held
that are 32768 apart, the best identity's counts (log 20). -/
structure FollowerTakes (s : State) (sender : Nat) (r : RecastContent) (bytes : Nat) : Prop where
  sender : sender ∈ s.mbc.observed.senders
  wellFormed : recastTest s r bytes 0
  fingerprint : r.fp = s.cfg.fp
  epoch : ∀ e, ObservedEpochIs s.mbc.observed e → newer r.epoch e = true
  adopted : s.cyt.adopted = true
  inReach : recastTest s r bytes 3

/-- What the Membership Controller makes of a frame of another station, where it is neither out of step nor foreign,
from `s` to the last argument (R16, R49, R52, R59, R88, R89, R94 to R97, R101, R106, R107). What the observed record becomes
at a CLAIM that a follower takes, and which cycle number, is spelled by `FollowerAdoptsClaim` and `FollowerJudgesFrames`. -/
inductive Judged (s : State) (k : FrameKind) (sender : Nat) (payload : List Byte) : State → Prop
  | listens : s.mbc.station = .listening → Judged s k sender payload { s with mbc := { s.mbc with listenCount := 0 } }
  | ignores : s.mbc.station.following = true →
      (k = .hail ∨ k = .leave ∨ (k = .claim ∧ FromLowerView s.mbc.observed sender (decodeClaim payload)) ∨
        (k = .recast ∧ ¬ FollowerTakes s sender (decodeRecast payload) payload.length)) →
      Judged s k sender payload s
  | observes {r} : s.mbc.station.following = true → k = .recast → r = decodeRecast payload →
      FollowerTakes s sender r payload.length →
      Judged s k sender payload { s with mbc := { s.mbc with observed := { s.mbc.observed with
        pending := some { view := { epoch := r.epoch, members := r.members, fp := r.fp }
                          switchCycle := r.switchCycle } } } }
  | follows {c o n t} : s.mbc.station.following = true → k = .claim → c = decodeClaim payload →
      ¬ FromLowerView s.mbc.observed sender c → (n = c.cycle ∨ n = c.cycle + 1) →
      t = { s with
        cyt := { s.cyt with cycle := n, adopted := true, begun := false }
        mbc := { s.mbc with observed := o } } →
      Judged s k sender payload (if s.mbc.station = .aligning ∧ s.cyt.lockCount = 4 then hailed t else t)
  | inStep : k = .claim → s.mbc.station = .leaving ∨ (s.mbc.station = .member ∧ InStep s sender (decodeClaim payload)) →
      Judged s k sender payload s
  | leaving : s.mbc.station = .leaving → k = .hail ∨ k = .leave → Judged s k sender payload s
  | unlisted {v} : s.mbc.station.inGroup = true → k = .leave ∨ k = .recast → s.mbc.current = some v →
      lists v.members sender = false → Judged s k sender payload s
  | leaves {v t} : s.mbc.station = .member → k = .leave → s.mbc.current = some v → lists v.members sender = true →
      PlacedIn s.evq.records s t { id := sender, change := .remove .leave, trigger := s.cyt.cycle } →
      ControllerAlone s t → Judged s k sender payload t
  | mismatch : s.mbc.station = .member → k = .hail → (decodeHail payload).fp ≠ s.cfg.fp →
      Judged s k sender payload (appended s (about s.cyt.cycle .hailRefused sender 0))
  | proposed {h v base ms kept dropped refresh t} : s.mbc.station = .member → k = .hail → h = decodeHail payload →
      h.fp = s.cfg.fp → s.mbc.current = some v → baseView s = some base →
      Walked base.members (s.mbc.changes.filter (fun e => !(e.id == sender))) ms kept dropped refresh →
      RoomFor ms sender h.legs (lists v.members sender) →
      PlacedIn s.evq.records s t
        { id := sender, change := if lists v.members sender then .refresh h.legs else .add h.legs
          trigger := s.cyt.cycle } →
      ControllerAlone s t → Judged s k sender payload t
  | noRoom {h v base ms kept dropped refresh} : s.mbc.station = .member → k = .hail → h = decodeHail payload →
      h.fp = s.cfg.fp → s.mbc.current = some v → baseView s = some base →
      Walked base.members (s.mbc.changes.filter (fun e => !(e.id == sender))) ms kept dropped refresh →
      ¬ RoomFor ms sender h.legs (lists v.members sender) →
      Judged s k sender payload (appended s (about s.cyt.cycle .hailRefused sender 1))
  | adopted {r v t} : s.mbc.station.inGroup = true → k = .recast → r = decodeRecast payload → s.mbc.current = some v →
      lists v.members sender = true → (∀ n, n ≤ 3 → recastTest s r payload.length n) →
      t.mbc = { s.mbc with
        pending := some { view := { epoch := r.epoch, members := r.members, fp := r.fp }, switchCycle := r.switchCycle }
        changes := t.mbc.changes, backoff := t.mbc.backoff } →
      t.evq.records = s.evq.records →
      (s.mbc.station = .leaving → t.mbc.changes = s.mbc.changes) →
      (s.mbc.station = .member → t.mbc.changes.Sublist s.mbc.changes ∧
        ∀ e, e ∈ t.mbc.changes ↔ e ∈ s.mbc.changes ∧ ¬ CoveredBy r.members e) →
      BackoffAgain s t → ControllerAlone s t → Judged s k sender payload t
  | rejected {r v n t} : s.mbc.station.inGroup = true → k = .recast → r = decodeRecast payload → s.mbc.current = some v →
      lists v.members sender = true → n ≤ 3 → ¬ recastTest s r payload.length n →
      (∀ i, i < n → recastTest s r payload.length i) →
      t.mbc = { s.mbc with backoff := t.mbc.backoff } →
      t.evq.records = arrive s.evq.records
        { kind := .recastRejected, cycle := some s.cyt.cycle, station := some sender
          detail := some { code := n, value := r.epoch.toNat } } →
      BackoffAgain s t → ControllerAlone s t → Judged s k sender payload t

/-! ### Words for ticks -/

/-- The CLK edge at `s` is a tick of a part that runs, with FAULT deasserted and in its place (R2, R3, R138). -/
structure OnTick (s : State) (pins : Pins) : Prop where
  runs : Runs s
  prescaler : s.cyt.prescRunning = true ∧ 2 ^ s.cfg.fp.prescale ≤ s.cyt.presc + 1
  fault : pins.fault = true ∧ s.los.latch ≠ .asserted

/-- The line records after one more sample of SYNC (R7, R17). -/
def syncSampled (high : Bool) (s : State) : State :=
  { s with sli := { s.sli with
      prevHigh := high, stuckCount := if high then 0 else min (s.sli.stuckCount + 1) s.cfg.fp.p
      stuck := if high then false else s.sli.stuck } }

/-- The line records after one more high sample of TALK (R24, R41). -/
def talkHigh (s : State) : State :=
  { s with tli := { s.tli with
      idle := min (s.tli.idle + 1) (2 * s.cfg.fp.tb), prevHigh := true, stuckCount := 0, stuck := false } }

/-- The prescaler has overflowed (R2). -/
def edge (s : State) : State := { s with cyt := { s.cyt with presc := 0 } }

/-- The position has counted one tick (R3). -/
def moved (s : State) : State :=
  { s with cyt := { s.cyt with position := s.cyt.position + 1, begun := false } }

/-- TALK is at rest: no frame, no request, no stuck episode (R24, R31). -/
structure TalkRests (s : State) : Prop where
  waiting : s.tli.rx.phase = .waiting
  flight : s.tli.flight = none
  requests : s.tli.requests = Requests.empty

end Sys2Proof.Machine
end

