-- ==== Sys2Proof/Certificates/Slice0/Obligations.lean ====
section
/-!
DEFINITION. The statements for the provers. OBLIGATIONS.json lists them in the same order.
-/

open Sys2Proof Sys2Proof.Machine

/-! ### The step and the invariants -/

/-- A step takes the command at the front of the queue and runs its meaning on the part with the queue's rest. On an
empty queue the block idles (the model's choice, log 7). -/
def Obligations.StepTakesFrontCommand : Prop :=
  (∀ (c : Instr) (rest : List Instr) (s : State), step (s.withPending (c :: rest)) = exec c (s.withPending rest)) ∧
  (∀ s : State, s.pending = [] → step s = .next s)

/-- Every command is answered with a next state, in every state, and no command touches the queue of those that
wait. That a row whose happening is not due is answered with the state as it stood is the model's choice (log 5);
that no command, FULL_RESET included, touches the waiting commands is that of logs 1 and 2. -/
def Obligations.EveryCommandAnswers : Prop :=
  ∀ (c : Instr) (s : State), ∃ t, exec c s = .next t ∧ t.pending = s.pending

/-- The state after reset meets the four invariants that the next four statements say every step keeps. The values
of State.reset that the spec does not give are the model's choice (log 2). -/
def Obligations.ResetMeetsInvariants : Prop :=
  Settled State.reset ∧ EventLaw State.reset.evq.records ∧ Coherent State.reset ∧ TableLaw State.reset

/-- After every step the leg outputs, the quiet hold and IRQ stand where the gate, the claimed flag with the CLAIM
age, and the queue with the enables put them (R134, R141, R157). -/
def Obligations.StepKeepsSettled : Prop :=
  ∀ s t : State, Settled s → step s = .next t → Settled t

/-- Every step keeps the law of the event queue (R151): at most 16 records, none newer than an OVERRUN record, the
16th place reached by an OVERRUN record alone. -/
def Obligations.StepKeepsEventLaw : Prop :=
  ∀ s t : State, EventLaw s.evq.records → step s = .next t → EventLaw t.evq.records

/-- Every step keeps what the records of the blocks hold in each station state (`Coherent`: R15, R31, R43, R86, R87,
R91, R105, R117, R127, R163). `begun` is the model's own field (log 5). -/
def Obligations.StepKeepsCoherent : Prop :=
  ∀ s t : State, Coherent s → step s = .next t → Coherent t

/-- Every step keeps the Peer Table's law (`TableLaw`: R69, R70, R82). -/
def Obligations.StepKeepsTable : Prop :=
  ∀ s t : State, TableLaw s → step s = .next t → TableLaw t

/-- The configuration record, once locked, changes at a full reset alone (R163). A station leaves UNCONFIGURED by a
CONFIGURE alone, as a row or as its last byte, and returns there by a full reset alone (R46). -/
def Obligations.RecordAndDoors : Prop :=
  (∀ (c : Instr) (s t : State), s.locked = true → exec c s = .next t → c ≠ .fullReset →
     t.cfg = s.cfg ∧ t.locked = true) ∧
  (∀ (c : Instr) (s t : State), exec c s = .next t →
     (s.mbc.station = .unconfigured → t.mbc.station ≠ .unconfigured →
       (∃ record, c = .configure record) ∨ (∃ b, c = .byteComplete b ∧ s.hpt.code = some 0x01#8)) ∧
     (s.mbc.station ≠ .unconfigured → t.mbc.station = .unconfigured → c = .fullReset))

/-- What the legs show after any step (R133, R134, R144): a leg of an unlocked part is high-impedance, a leg of a
configured part stands at its active level exactly where all six conditions hold (MEMBER, the latch CLEAR, the quiet
hold out of force, in PACK a complete table, no suppression, the position inside the window or the uncut tail) and
at its inactive level otherwise, so that both legs are inactive in every configured state but MEMBER. -/
def Obligations.LegsMeetTheGate : Prop :=
  ∀ s t : State, Settled s → step s = .next t →
    (t.locked = false → t.los.out0 = .highZ ∧ t.los.out1 = .highZ) ∧
    (t.locked = true → t.mbc.station ≠ .member → t.los.out0 = .inactive ∧ t.los.out1 = .inactive) ∧
    (t.locked = true → t.los.out0 ≠ .highZ ∧ t.los.out1 ≠ .highZ) ∧
    (t.los.out0 = .active ↔
      t.locked = true ∧ 0 < t.cfg.legs ∧ t.mbc.station = .member ∧ t.los.latch = .clear ∧
      (t.plu.claimed = true ∧ t.plu.age < 16) ∧ (t.cfg.fp.placement = .pack → t.plu.complete = true) ∧
      t.los.supp0 = false ∧
      ((∃ w, currentWindow t 0 = some w ∧ w.start ≤ t.cyt.position ∧ t.cyt.position < w.start + w.grant ∧
          t.cyt.position < t.cfg.fp.p) ∨
       (∃ w, t.plu.prev0 = some w ∧ currentWindow t 0 = some w ∧
          t.cyt.position + t.cfg.fp.p < w.start + w.grant))) ∧
    (t.los.out1 = .active ↔
      t.locked = true ∧ 1 < t.cfg.legs ∧ t.mbc.station = .member ∧ t.los.latch = .clear ∧
      (t.plu.claimed = true ∧ t.plu.age < 16) ∧ (t.cfg.fp.placement = .pack → t.plu.complete = true) ∧
      t.los.supp1 = false ∧
      ((∃ w, currentWindow t 1 = some w ∧ w.start ≤ t.cyt.position ∧ t.cyt.position < w.start + w.grant ∧
          t.cyt.position < t.cfg.fp.p) ∨
       (∃ w, t.plu.prev1 = some w ∧ currentWindow t 1 = some w ∧
          t.cyt.position + t.cfg.fp.p < w.start + w.grant)))

/-! ### Values and formats -/

/-- Serial comparison of 16-bit values (R1): newer, k ahead, the sum that wraps, and values 32768 apart. -/
def Obligations.SerialComparison : Prop :=
  ∀ a b n : U16,
    (newer a b = true ↔
      1 ≤ (a.toNat + 65536 - b.toNat) % 65536 ∧ (a.toNat + 65536 - b.toNat) % 65536 ≤ 32767) ∧
    ahead a b = (a.toNat + 65536 - b.toNat) % 65536 ∧
    (a + n).toNat = (a.toNat + n.toNat) % 65536 ∧
    ((a.toNat + 65536 - b.toNat) % 65536 = 32768 → newer a b = false ∧ newer b a = false)

/-- The ranking of views: larger size, then lower anchor, then lower digest; no view ranks above itself, ranking is
transitive, and of two views of different identity one ranks above the other (R103). -/
def Obligations.RankingIsAnOrder : Prop :=
  ∀ a b c : Identity,
    (b.size < a.size → ranksAbove a b = true) ∧
    (a.size = b.size → a.anchor < b.anchor → ranksAbove a b = true) ∧
    (a.size = b.size → a.anchor = b.anchor → a.digest.toNat < b.digest.toNat → ranksAbove a b = true) ∧
    ranksAbove a a = false ∧
    (ranksAbove a b = true → ranksAbove b c = true → ranksAbove a c = true) ∧
    (a ≠ b → ranksAbove a b = true ∨ ranksAbove b a = true)

/-- Every payload reads back: decoding what is encoded gives the same HAIL, CLAIM or RECAST, at every value that its
fields have room for, and the payload has the length of its kind (R184, R186). -/
def Obligations.PayloadsReadBack : Prop :=
  (∀ h : HailContent, (h.legs = 1 ∨ h.legs = 2) → h.fp.p < 65536 → h.fp.prescale < 256 → h.fp.k < 256 →
    h.fp.tb < 256 → decodeHail (encodeHail h) = h ∧ (encodeHail h).length = 7) ∧
  (∀ c : ClaimContent, c.identity.size < 256 → c.identity.anchor < 256 → c.demand0 < 65536 →
    (∀ d, c.demand1 = some d → d < 65536) →
    decodeClaim (encodeClaim c) = c ∧ (encodeClaim c).length = (if c.demand1.isSome then 12 else 10)) ∧
  (∀ r : RecastContent, r.fp.p < 65536 → r.fp.prescale < 256 → r.fp.k < 256 → r.fp.tb < 256 → r.count < 256 →
    (∀ m ∈ r.members, m.id < 64 ∧ (m.legs = 1 ∨ m.legs = 2)) →
    decodeRecast (encodeRecast r) = r ∧ (encodeRecast r).length = 11 + r.members.length)

/-- A frame reads back: from the cells its sender drives, a receiver reads the same kind, sender, length and payload,
the check it computes equals the check it reads, and the last cell is the veto cell (R25, R183, R185). No receiver
finds a start, length or check fault in a frame of legal length as its sender drives it, at any of its cells (R27).
The check register starts at FFFFh and takes the bits in order: bit 15 exclusive-or the bit is the feedback, the
register shifts one place toward bit 15, and the feedback brings in 1021h (R185). -/
def Obligations.FrameReadsBack : Prop :=
  (∀ (kind : FrameKind) (sender : Nat) (payload : List Byte), sender < 64 → payload.length < 32 →
     (frameCells kind sender payload).length = vetoCell payload.length + 1 ∧
     readKind (frameCells kind sender payload) = kind ∧
     readSender (frameCells kind sender payload) = sender ∧
     readLength (frameCells kind sender payload) = payload.length ∧
     readPayload (frameCells kind sender payload) = payload ∧
     readCheck (frameCells kind sender payload) = computedCheck (frameCells kind sender payload)) ∧
  (∀ (kind : FrameKind) (sender : Nat) (payload : List Byte) (n : Nat), sender < 64 → payload.length < 32 →
     legalLength kind payload.length = true → n ≤ (frameCells kind sender payload).length →
     faultOfBits ((frameCells kind sender payload).take n) = none) ∧
  (checkOf [] = 0xFFFF#16 ∧
    ∀ (bits : List Bool) (b : Bool),
      checkOf (bits ++ [b]) =
        (if ((checkOf bits).getLsbD 15 != b) = true then (checkOf bits <<< 1) ^^^ 0x1021#16 else checkOf bits <<< 1))

/-! ### The plan -/

/-- PACK (R124): within the budget every leg gets its demand. Above it the grants use the budget up exactly and are
water-filled: one share, every leg whose demand is at most the share gets its demand, every other leg gets the share,
and the first of them one tick more. PACK keeps no more than K legs on at any position (R125): windows laid end to
end, each at most P long and together at most K times P, cover every position at most K times, each window's tail
counted with it. -/
def Obligations.PackTaken : Prop :=
  (∀ (budget : Nat) (ds : List Nat),
      (packGrants budget ds).length = ds.length ∧
      (∀ (i d g : Nat), ds[i]? = some d → (packGrants budget ds)[i]? = some g → g ≤ d) ∧
      (ds.sum ≤ budget → packGrants budget ds = ds) ∧
      (budget < ds.sum →
        (packGrants budget ds).sum = budget ∧
        ∃ share : Nat,
          (∀ (i d g : Nat), ds[i]? = some d → (packGrants budget ds)[i]? = some g →
            (d ≤ share → g = d) ∧ (share < d → g = share ∨ g = share + 1)) ∧
          (∀ (i j d e g h : Nat), i < j → ds[i]? = some d → ds[j]? = some e → (packGrants budget ds)[i]? = some g →
            (packGrants budget ds)[j]? = some h → share < d → share < e → h = share + 1 → g = share + 1))) ∧
  (∀ (p k : Nat) (ds : List Nat) (x : Nat), 0 < p → (∀ d ∈ ds, d ≤ p) → x < p →
      ((packWindows p 0 (packGrants (k * p) ds)).filter (fun w => covers p w x)).length ≤ k)

/-- The SPREAD slots (R122): leg i of N has the offset floor(i P / N), the offset of leg N is P, the slots lie end
to end from position 0, their widths differ by at most one tick and sum to P, and the ceiling is min(P, floor(K P /
N)). -/
def Obligations.SpreadSlotsTileTheCycle : Prop :=
  ∀ p n k : Nat, 1 ≤ n → n ≤ 16 →
    (∀ i, slotOffset p n i = i * p / n) ∧ slotOffset p n 0 = 0 ∧ slotOffset p n n = p ∧
    (∀ i, slotOffset p n i ≤ slotOffset p n (i + 1)) ∧
    (∀ i j, slotOffset p n (i + 1) - slotOffset p n i ≤ slotOffset p n (j + 1) - slotOffset p n j + 1) ∧
    ((List.range n).map (fun i => slotOffset p n (i + 1) - slotOffset p n i)).sum = p ∧
    ceiling p n k = min p (k * p / n)

/-- SPREAD windows (R123): each leg's grant is its demand cut at the ceiling, LEAD starts at the slot offset, CENTER
at the offset plus half the slot less half the grant, mod P, and a grant of 0 covers no position; with K = 1 no two
LEAD windows share a position. -/
def Obligations.SpreadWindows : Prop :=
  ∀ (p k : Nat) (a : Sys2Proof.Alignment) (ds : List Nat), 0 < p →
    (spreadWindows p ds.length k a 0 ds).length = ds.length ∧
    (∀ (i d : Nat) (w : Window), ds[i]? = some d → (spreadWindows p ds.length k a 0 ds)[i]? = some w →
      w.grant = min d (min p (k * p / ds.length)) ∧
      (a = .lead → w.start = i * p / ds.length) ∧
      (a = .center → (w.start : Int) =
        (((i * p / ds.length : Nat) : Int) + ((((i + 1) * p / ds.length - i * p / ds.length) / 2 : Nat) : Int)
          - ((w.grant / 2 : Nat) : Int)) % (p : Int)) ∧
      (w.grant = 0 → ∀ x, covers p w x = false)) ∧
    (k = 1 → a = .lead → ∀ (i j : Nat) (v w : Window), i < j →
      (spreadWindows p ds.length k a 0 ds)[i]? = some v → (spreadWindows p ds.length k a 0 ds)[j]? = some w →
      v.start + v.grant ≤ w.start ∧ w.start + w.grant ≤ p)

/-! ### The event queue -/

/-- An arrival (R151, R152) keeps the queue's law (at most 16 records, none newer than an OVERRUN record): it is
appended at 14 or fewer records, replaced by an OVERRUN record at 15, and discarded and counted in the OVERRUN
record's dropped count, which stops at 255, while one is held. POP EVENT's record (R153): the oldest record of the
highest-ranked class present, ranked ALARM, MEMBERSHIP, PEER, NOTICE; its removal keeps the arrival order of the
others; an empty queue has none. PEEK EVENT and POP EVENT (R153, R154, R180): both answer the same record, or EMPTY;
PEEK changes the port alone, POP removes the record and nothing else. -/
def Obligations.EventQueueOrder : Prop :=
  (∀ (q : List Event) (e : Event), EventLaw q →
    (e.kind ≠ .overrun → EventLaw (arrive q e)) ∧
    (hasOverrun q = false → q.length ≤ 14 → arrive q e = q ++ [e]) ∧
    (hasOverrun q = false → q.length = 15 →
      arrive q e = q ++ [{ kind := .overrun, cycle := e.cycle, station := none,
                           detail := some { code := 0, value := 0 } }]) ∧
    (∀ older o d, q = older ++ [o] → o.kind = .overrun → o.detail = some d →
      arrive q e = older ++ [{ o with detail := some { d with value := min (d.value + 1) 255 } }])) ∧
  (nextEvent [] = none ∧
  ∀ q : List Event, q ≠ [] →
    ∃ older e newer, q = older ++ e :: newer ∧ nextEvent q = some e ∧
      (∀ x ∈ older, classRank (eventClass e.kind) < classRank (eventClass x.kind)) ∧
      (∀ x ∈ newer, classRank (eventClass e.kind) ≤ classRank (eventClass x.kind)) ∧
      removeFirstOfRank q (eventRank e) = older ++ newer) ∧
  (∀ s : State, AwaitsCode s →
      (s.evq.records = [] →
        exec .peekEvent s = .next (settle (answered s 5 [])) ∧ exec .popEvent s = .next (settle (answered s 5 []))) ∧
      (s.evq.records ≠ [] →
        ∃ e, nextEvent s.evq.records = some e ∧ e ∈ s.evq.records ∧ (eventRecord e).length = 9 ∧
          exec .peekEvent s = .next (settle (answered s 0 (eventRecord e))) ∧
          exec .popEvent s = .next (settle (answered
            { s with evq.records := removeFirstOfRank s.evq.records (eventRank e) } 0 (eventRecord e)))))

/-! ### Host commands -/

/-- CONFIGURE's checks (R160, R161, R188): the failing test that the response names is the first of tests 1 to 14 that
fails, and no test is named exactly when all pass. CONFIGURE (R162, R163, R172): accepted, it stores and locks the
record, starts the prescaler from 0, leaves every block at its value of an accepted CONFIGURE, drives the legs
inactive and keeps the event queue and the enables; while locked it answers LOCKED; an illegal record answers RANGE
with the failing test; a refusal changes the port alone. Each field takes its byte or bytes of the record (R159,
R188). Where the spec gives no value after CONFIGURE (both previous line samples low), the model's choice stands (log
2). -/
def Obligations.ConfigureTaken : Prop :=
  (∀ (record : List Byte) (c : ConfigRecord), c = decodeConfig record →
     c.id = (byteAt record 0).toNat ∧ c.legs = (byteAt record 1).toNat ∧ c.fp.p = (wordAt record 2).toNat ∧
     c.fp.prescale = (byteAt record 4).toNat ∧ c.fp.k = (byteAt record 5).toNat ∧
     (c.fp.placement = .pack ↔ byteAt record 6 = 1) ∧ (c.fp.alignment = .center ↔ byteAt record 7 = 1) ∧
     c.fp.tb = (byteAt record 8).toNat ∧ (c.polarity0 = .activeLow ↔ byteAt record 9 = 1) ∧
     (c.polarity1 = .activeLow ↔ byteAt record 10 = 1) ∧ c.minWindow = (byteAt record 11).toNat ∧
     c.lease = (byteAt record 12).toNat) ∧
  (∀ record : List Byte,
     (firstFailing record = none ↔ ∀ m, configTest record m = true) ∧
     (∀ n, firstFailing record = some n ↔
       configTest record n = false ∧ ∀ m, m < n → configTest record m = true)) ∧
  (∀ (s : State) (record : List Byte), AwaitsLast s 0x01#8 record.dropLast → record.length = 13 →
     (s.locked = true → exec (.configure record) s = .next (settle (answered s 3 []))) ∧
     (∀ n, s.locked = false → firstFailing record = some n →
       exec (.configure record) s = .next (settle (answered s 2 [BitVec.ofNat 8 n]))) ∧
     (s.locked = false → firstFailing record = none →
       exec (.configure record) s = .next (settle (answered
         { State.reset with
           cyt := { State.reset.cyt with prescRunning := true }
           mbc := { State.reset.mbc with station := .detached, reason := .none }
           evq := s.evq
           cfg := decodeConfig record
           locked := true
           resetAsserted := s.resetAsserted
           selLow := s.selLow
           pending := s.pending } 0 []))))

/-- JOIN (R47, R48, R19, R42, R131): in DETACHED the station enters LISTENING with the timer and the lines at their JOIN
values, the Peer Table emptied, the views cleared, the published demands 0, the requested demands, the lease, the detach
reason and the event queue kept; in every other state it answers WRONG_STATE and changes the port alone. That both
previous line samples are low at JOIN is the model's choice (log 2). LEAVE (R58, R65): refused with WRONG_STATE in
UNCONFIGURED, DETACHED and LEAVING; in LISTENING, ALIGNING and HAILING, and in MEMBER where the station is alone, it
posts LEFT(HOST_LEAVE) and enters DETACHED; a MEMBER with others enters LEAVING with the leave count 0, a LEAVE request
as the only request, no change list and no backoff, its views and plan kept. `begun` is the model's own field (log 5).
-/
def Obligations.JoinAndLeaveTaken : Prop :=
  (∀ s : State, AwaitsCode s →
    (s.mbc.station ≠ .detached → exec .join s = .next (settle (answered s 1 []))) ∧
    (s.mbc.station = .detached →
      exec .join s = .next (settle (answered
        { s with
          cyt := { s.cyt with position := 0, cycle := 0, adopted := false, lockCount := 0, lastSnap := 0, slips := 0,
                              begun := false }
          sli := { markerActive := false, markerLeft := 0, stuckCount := 0, stuck := false, prevHigh := false }
          tli := { idle := 0, rx := Rx.idle, requests := Requests.empty, flight := none, failures := 0,
                   stuckCount := 0, stuck := false, prevHigh := false }
          mbc := { s.mbc with station := .listening, listenCount := 0, current := none, pending := none,
                              observed := Observed.empty, changes := [], backoff := none }
          peers := []
          plu := { s.plu with leg0 := { s.plu.leg0 with published := 0, pending := none }
                              leg1 := { s.plu.leg1 with published := 0, pending := none }
                              age := 0, claimed := false, complete := false, plan := none, prev0 := none, prev1 := none }
          los := { s.los with supp0 := false, supp1 := false } } 0 [])))) ∧
  (∀ s : State, AwaitsCode s →
    ((s.mbc.station = .unconfigured ∨ s.mbc.station = .detached ∨ s.mbc.station = .leaving) →
      exec .leave s = .next (settle (answered s 1 []))) ∧
    ((s.mbc.station = .listening ∨ s.mbc.station = .aligning ∨ s.mbc.station = .hailing) →
      exec .leave s = .next (settle (answered (enterDetached
        (appended s { kind := .left, cycle := some s.cyt.cycle, station := none, detail := some { code := 1, value := 0 } })
        .hostLeave) 0 []))) ∧
    (∀ v, s.mbc.station = .member → s.mbc.current = some v →
      ((∀ m ∈ v.members, m.id = s.cfg.id) → (∀ p m, s.mbc.pending = some p → m ∈ p.view.members → m.id = s.cfg.id) →
        exec .leave s = .next (settle (answered (enterDetached
          (appended s
            { kind := .left, cycle := some s.cyt.cycle, station := none, detail := some { code := 1, value := 0 } })
          .hostLeave) 0 []))) ∧
      (((∃ m ∈ v.members, m.id ≠ s.cfg.id) ∨ (∃ p m, s.mbc.pending = some p ∧ m ∈ p.view.members ∧ m.id ≠ s.cfg.id)) →
        exec .leave s = .next (settle (answered
          { s with
            tli := { s.tli with
              requests := { recast := false, leave := true, hail := false, claim := false }
              flight := s.tli.flight.map (fun f => if f.kind = .leave then { f with renewal := true } else f) }
            mbc := { s.mbc with station := .leaving, leaveCount := 0, changes := [], backoff := none } } 0 [])))))

/-- Entry to DETACHED (R67): the timer held at 0 with the adopted flag and the lock clear and the last snap amount and
slip count kept, both lines released with their records at rest, the views, the change list, the state timers and the
plan cleared, every peer entry HEARD with its demands invalid and their values kept, and everything else as it stood.
RESTART (R68, R174): WRONG_STATE in UNCONFIGURED; in every other state the entry to DETACHED with reason RESTARTED, the
Peer Table emptied, the demands, the lease, the last snap amount and the slip count 0, and RESTARTED appended with the
cycle number that stood before, absent in DETACHED; the latch, the record and the enables stay. That both previous line
samples are low in DETACHED is the model's choice (log 2). `begun` is the model's own field (log 5). -/
def Obligations.RestartAndDetachedEntry : Prop :=
  (∀ (s : State) (reason : DetachReason),
     enterDetached s reason =
       { s with
         cyt := { s.cyt with position := 0, cycle := 0, adopted := false, lockCount := 0, begun := false }
         sli := { markerActive := false, markerLeft := 0, stuckCount := 0, stuck := false, prevHigh := false }
         tli := { idle := 0, rx := Rx.idle, requests := Requests.empty, flight := none, failures := 0,
                  stuckCount := 0, stuck := false, prevHigh := false }
         mbc := { station := .detached, reason := reason, listenCount := 0, alignCount := 0, hailInterval := 0,
                  hailCount := 0, leaveCount := 0, current := none, pending := none, observed := Observed.empty,
                  changes := [], backoff := none }
         peers := s.peers.map demoted
         plu := { s.plu with complete := false, plan := none, prev0 := none, prev1 := none }
         los := { s.los with supp0 := false, supp1 := false } }) ∧
  (∀ s : State, AwaitsCode s →
     (s.mbc.station = .unconfigured → exec .restart s = .next (settle (answered s 1 []))) ∧
     (s.mbc.station ≠ .unconfigured →
       exec .restart s = .next (settle (answered (appended
         { enterDetached s .restarted with
           cyt := { s.cyt with position := 0, cycle := 0, adopted := false, lockCount := 0, lastSnap := 0, slips := 0,
                               begun := false }
           peers := []
           plu := { leg0 := { requested := 0, published := 0, pending := none }
                    leg1 := { requested := 0, published := 0, pending := none }
                    lease := 0, age := 0, claimed := false, counting := s.plu.counting, complete := false, plan := none
                    prev0 := none, prev1 := none } }
         { kind := .restarted, cycle := if s.mbc.station = .detached then none else some s.cyt.cycle, station := none,
           detail := none }) 0 []))))

/-- SET DEMAND (R110, R111, R118): WRONG_STATE in UNCONFIGURED; RANGE for a leg not configured or a value above P;
otherwise the leg's requested demand becomes the value, a configured lease restarts at 8 times its length, a CLAIM
request is posted in MEMBER where a requested demand differs from the value last put toward the group, that is the
CLAIM in flight's, else the published pending value, else the published demand (`LastPut`), and nothing else changes.
SET ENABLES (R156): for each class in the mask the enable takes the value's setting, the others stay; the response
carries the set after the write; IRQ follows it and nothing else changes; taken in every state. -/
def Obligations.SettingsTaken : Prop :=
  (∀ (s : State) (leg : Byte) (value : U16),
    AwaitsLast s 0x05#8 [leg, value.extractLsb' 8 8] →
    (s.mbc.station = .unconfigured → exec (.setDemand leg value) s = .next (settle (answered s 1 []))) ∧
    (s.mbc.station ≠ .unconfigured → (s.cfg.legs ≤ leg.toNat ∨ s.cfg.fp.p < value.toNat) →
      exec (.setDemand leg value) s = .next (settle (answered s 2 []))) ∧
    (s.mbc.station ≠ .unconfigured → leg.toNat < s.cfg.legs → s.cfg.legs ≤ 2 → value.toNat ≤ s.cfg.fp.p →
      ∃ u,
        u = { s with plu := { s.plu with
                leg0 := if leg = 0 then { s.plu.leg0 with requested := value.toNat } else s.plu.leg0
                leg1 := if leg = 0 then s.plu.leg1 else { s.plu.leg1 with requested := value.toNat }
                lease := if s.cfg.lease = 0 then s.plu.lease else s.cfg.lease * 8 } } ∧
        (s.mbc.station = .member → ClaimDue u →
          exec (.setDemand leg value) s = .next (settle (answered (requested u .claim) 0 []))) ∧
        (s.mbc.station ≠ .member ∨ ¬ ClaimDue u →
          exec (.setDemand leg value) s = .next (settle (answered u 0 []))))) ∧
  (∀ (s : State) (masks : Byte), AwaitsLast s 0x06#8 [] →
    ∃ e : Enables,
      e.alarm = (if masks.getLsbD 4 then masks.getLsbD 0 else s.evq.enables.alarm) ∧
      e.membership = (if masks.getLsbD 5 then masks.getLsbD 1 else s.evq.enables.membership) ∧
      e.peer = (if masks.getLsbD 6 then masks.getLsbD 2 else s.evq.enables.peer) ∧
      e.notice = (if masks.getLsbD 7 then masks.getLsbD 3 else s.evq.enables.notice) ∧
      exec (.setEnables masks) s = .next (settle (answered { s with evq.enables := e } 0
        [BitVec.ofNat 8 (e.alarm.toNat + 2 * e.membership.toNat + 4 * e.peer.toNat + 8 * e.notice.toNat)])))

/-- The readouts (R175 to R179): each is taken in every state and changes the port alone; GET STATUS answers 33 bytes,
GET VIEW reads the current view at 0, the pending one with its switch cycle at 1 and the observed pending one with its
own at 2, RANGE for a holder above 2, EMPTY past the end and 21 bytes, GET PEER, GET PLAN and GET CHANGE the entry at
the index or EMPTY. -/
def Obligations.ReadoutsTaken : Prop :=
  ∀ s : State,
    (AwaitsCode s → exec .getStatus s = .next (settle (answered s 0 (statusRecord s))) ∧
      (statusRecord s).length = 33) ∧
    (∀ which index : Byte, AwaitsLast s 0x11#8 [which] →
      (2 < which.toNat → exec (.getView which index) s = .next (settle (answered s 2 []))) ∧
      ((∀ v, heldView s 0 = some (v, none) ↔ s.mbc.current = some v) ∧ (∀ v c, heldView s 0 ≠ some (v, some c)) ∧
        (∀ v c, heldView s 1 = some (v, some c) ↔ s.mbc.pending = some { view := v, switchCycle := c }) ∧
        (∀ v, heldView s 1 ≠ some (v, none)) ∧
        (∀ v c, heldView s 2 = some (v, some c) ↔ s.mbc.observed.pending = some { view := v, switchCycle := c }) ∧
        (∀ v, heldView s 2 ≠ some (v, none))) ∧
      (which.toNat ≤ 2 →
        (∀ v c m, heldView s which = some (v, c) → v.members[index.toNat]? = some m →
          exec (.getView which index) s = .next (settle (answered s 0 (viewRecord which v c index.toNat m))) ∧
          (viewRecord which v c index.toNat m).length = 21) ∧
        ((∀ v c, heldView s which = some (v, c) → v.members.length ≤ index.toNat) →
          exec (.getView which index) s = .next (settle (answered s 5 []))))) ∧
    (∀ index : Byte, AwaitsLast s 0x12#8 [] →
      (∀ p, s.peers[index.toNat]? = some p →
        exec (.getPeer index) s = .next (settle (answered s 0 (peerRecord s.peers.length p))) ∧
        (peerRecord s.peers.length p).length = 24) ∧
      (s.peers.length ≤ index.toNat → exec (.getPeer index) s = .next (settle (answered s 5 [])))) ∧
    (∀ index : Byte, AwaitsLast s 0x13#8 [] →
      (∀ p e, s.plu.plan = some p → p.entries[index.toNat]? = some e →
        exec (.getPlan index) s = .next (settle (answered s 0 (planRecord p e))) ∧ (planRecord p e).length = 17) ∧
      ((∀ p, s.plu.plan = some p → p.entries.length ≤ index.toNat) →
        exec (.getPlan index) s = .next (settle (answered s 5 [])))) ∧
    (∀ index : Byte, AwaitsLast s 0x14#8 [] →
      (∀ e, s.mbc.changes[index.toNat]? = some e →
        exec (.getChange index) s = .next (settle (answered s 0 (changeRecord s.mbc.changes.length e))) ∧
        (changeRecord s.mbc.changes.length e).length = 8) ∧
      (s.mbc.changes.length ≤ index.toNat → exec (.getChange index) s = .next (settle (answered s 5 []))))

/-- Every byte of every readout's record at its offset (R189, R190): the status, view member, peer, plan, change and
event records, with an optional field sent as 0 where it is absent and the codes as the tables give them. -/
def Obligations.ResponseBytes : Prop :=
  (∀ (s : State) (r : List Byte), r = statusRecord s →
    byteAt r 0 = (match s.mbc.station with
      | .unconfigured => 0 | .detached => 1 | .listening => 2 | .aligning => 3 | .hailing => 4 | .member => 5
      | .leaving => 6) ∧
    byteAt r 1 = (match s.mbc.reason with
      | .none => 0 | .hostLeave => 1 | .leaveTimeout => 2 | .notAdmitted => 3 | .muted => 4 | .duplicateId => 5
      | .restarted => 6) ∧
    (byteAt r 2).getLsbD 0 = s.cyt.adopted ∧ (byteAt r 2).getLsbD 1 = decide (s.cyt.lockCount = 4) ∧
    (byteAt r 2).getLsbD 2 = s.sli.stuck ∧ (byteAt r 2).getLsbD 3 = s.tli.stuck ∧
    (byteAt r 2).getLsbD 4 = s.plu.complete ∧
    (byteAt r 2).getLsbD 5 = decide (s.plu.claimed = false ∨ 16 ≤ s.plu.age) ∧
    (byteAt r 2).getLsbD 6 = s.mbc.current.isSome ∧ (byteAt r 2).getLsbD 7 = s.mbc.pending.isSome ∧
    byteAt r 3 = (match s.los.latch with
      | .clear => 0 | .asserted => 1 | .waiting => 2) ∧
    wordAt r 4 = s.cyt.cycle ∧
    (s.mbc.current = none → wordAt r 6 = 0 ∧ byteAt r 8 = 0 ∧ byteAt r 9 = 0) ∧
    (∀ v, s.mbc.current = some v → wordAt r 6 = v.epoch ∧ byteAt r 8 = BitVec.ofNat 8 v.members.length ∧
      byteAt r 9 = BitVec.ofNat 8 (legTotal v.members)) ∧
    (s.mbc.pending = none → wordAt r 10 = 0 ∧ wordAt r 12 = 0) ∧
    (∀ w, s.mbc.pending = some w → wordAt r 10 = w.view.epoch ∧ wordAt r 12 = w.switchCycle) ∧
    (s.cfg.legs = 1 ∨ s.cfg.legs = 2 →
      wordAt r 14 = BitVec.ofNat 16 s.plu.leg0.requested ∧ wordAt r 16 = BitVec.ofNat 16 s.plu.leg0.published ∧
      wordAt r 18 = BitVec.ofNat 16 s.plu.leg0.published) ∧
    (s.cfg.legs = 2 →
      wordAt r 20 = BitVec.ofNat 16 s.plu.leg1.requested ∧ wordAt r 22 = BitVec.ofNat 16 s.plu.leg1.published ∧
      wordAt r 24 = BitVec.ofNat 16 s.plu.leg1.published) ∧
    (s.cfg.legs = 1 → wordAt r 20 = 0 ∧ wordAt r 22 = 0 ∧ wordAt r 24 = 0) ∧
    wordAt r 26 = BitVec.ofNat 16 s.plu.lease ∧ byteAt r 28 = BitVec.ofNat 8 s.tli.failures ∧
    byteAt r 29 = s.cyt.slips ∧ wordAt r 30 = BitVec.ofNat 16 s.cyt.lastSnap ∧
    byteAt r 32 = BitVec.ofNat 8 s.evq.records.length) ∧
  (∀ (which : Byte) (v : View) (c : Option U16) (i : Nat) (m : Member) (r : List Byte),
    r = viewRecord which v c i m →
    byteAt r 0 = which ∧ byteAt r 1 = (if c.isSome then 1 else 0) ∧ wordAt r 2 = v.epoch ∧ wordAt r 4 = c.getD 0 ∧
    byteAt r 6 = BitVec.ofNat 8 v.members.length ∧ byteAt r 7 = BitVec.ofNat 8 (legTotal v.members) ∧
    byteAt r 8 = BitVec.ofNat 8 (identityOf v.members).anchor ∧ wordAt r 9 = (identityOf v.members).digest ∧
    wordAt r 11 = BitVec.ofNat 16 v.fp.p ∧ byteAt r 13 = BitVec.ofNat 8 v.fp.prescale ∧
    byteAt r 14 = BitVec.ofNat 8 v.fp.k ∧
    byteAt r 15 = (if v.fp.placement = .pack then 1 else 0) + (if v.fp.alignment = .center then 2 else 0) ∧
    byteAt r 16 = BitVec.ofNat 8 v.fp.tb ∧ byteAt r 17 = BitVec.ofNat 8 m.id ∧ byteAt r 18 = BitVec.ofNat 8 m.legs ∧
    byteAt r 19 = (if m.new then 1 else 0) ∧ byteAt r 20 = BitVec.ofNat 8 (legTotal (v.members.take i))) ∧
  (∀ (n : Nat) (p : Peer) (r : List Byte), r = peerRecord n p →
    byteAt r 0 = BitVec.ofNat 8 n ∧ byteAt r 1 = BitVec.ofNat 8 p.id ∧
    byteAt r 2 = (match p.kind with
      | .heard => 0 | .member => 1 | .lost => 2) ∧
    (byteAt r 3).getLsbD 0 = p.legs.isSome ∧ (byteAt r 3).getLsbD 1 = p.lastEpoch.isSome ∧
    (byteAt r 3).getLsbD 2 = p.leg0.pending.isSome ∧ (byteAt r 3).getLsbD 3 = p.leg1.pending.isSome ∧
    byteAt r 3 < 16 ∧ byteAt r 4 = BitVec.ofNat 8 (p.legs.getD 0) ∧
    byteAt r 5 = (match p.verdict with
      | .unknown => 0 | .isMatch => 1 | .mismatch => 2) ∧
    byteAt r 6 = BitVec.ofNat 8 p.silence ∧ wordAt r 7 = p.lastEpoch.getD 0 ∧
    (byteAt r 9).getLsbD 0 = p.foreign ∧ (byteAt r 9).getLsbD 1 = p.leg0.valid ∧ (byteAt r 9).getLsbD 2 = p.leg1.valid ∧
    byteAt r 9 < 8 ∧
    wordAt r 10 = BitVec.ofNat 16 p.leg0.current ∧
    wordAt r 12 = BitVec.ofNat 16 ((p.leg0.pending.map (fun d => d.demand)).getD 0) ∧
    wordAt r 14 = (p.leg0.pending.map (fun d => d.applyCycle)).getD 0 ∧
    wordAt r 16 = BitVec.ofNat 16 p.leg1.current ∧
    wordAt r 18 = BitVec.ofNat 16 ((p.leg1.pending.map (fun d => d.demand)).getD 0) ∧
    wordAt r 20 = (p.leg1.pending.map (fun d => d.applyCycle)).getD 0 ∧
    wordAt r 22 = BitVec.ofNat 16 (8 * p.legs.getD 0)) ∧
  (∀ (p : Plan) (e : PlanEntry) (r : List Byte), r = planRecord p e →
    wordAt r 0 = p.cycle ∧ wordAt r 2 = p.epoch ∧ byteAt r 4 = (if p.placement = .pack then 1 else 0) ∧
    byteAt r 5 = (if p.alignment = .center then 1 else 0) ∧ byteAt r 6 = BitVec.ofNat 8 p.n ∧
    byteAt r 7 = BitVec.ofNat 8 e.index ∧ byteAt r 8 = BitVec.ofNat 8 e.id ∧ byteAt r 9 = BitVec.ofNat 8 e.leg ∧
    (byteAt r 10).getLsbD 0 = e.own ∧ (byteAt r 10).getLsbD 1 = e.known ∧ byteAt r 10 < 4 ∧
    wordAt r 11 = BitVec.ofNat 16 e.demand ∧ wordAt r 13 = BitVec.ofNat 16 e.window.grant ∧
    wordAt r 15 = BitVec.ofNat 16 e.window.start) ∧
  (∀ (n : Nat) (e : ChangeEntry) (r : List Byte), r = changeRecord n e →
    byteAt r 0 = BitVec.ofNat 8 n ∧ byteAt r 1 = BitVec.ofNat 8 e.id ∧ wordAt r 6 = e.trigger ∧
    (∀ legs, e.change = .add legs → r.extract 2 6 = [0, 1, BitVec.ofNat 8 legs, 0]) ∧
    (e.change = .remove .leave → r.extract 2 6 = [1, 2, 0, 0]) ∧
    (e.change = .remove .lost → r.extract 2 6 = [1, 2, 0, 1]) ∧
    (∀ legs, e.change = .refresh legs → r.extract 2 6 = [2, 1, BitVec.ofNat 8 legs, 0])) ∧
  (∀ (e : Event) (r : List Byte), r = eventRecord e →
    byteAt r 0 = (match e.kind with
      | .syncFault => 0x01 | .talkFault => 0x02 | .muted => 0x03 | .duplicateId => 0x04 | .faultOn => 0x05
      | .leaseExpired => 0x06 | .overrun => 0x07 | .founded => 0x11 | .joined => 0x12 | .left => 0x13
      | .excluded => 0x14 | .viewChanged => 0x15 | .notAdmitted => 0x16 | .foreignView => 0x17 | .outOfStep => 0x18
      | .peerHeard => 0x21 | .peerLost => 0x22 | .peerReturned => 0x23 | .hailRefused => 0x24 | .tableFull => 0x25
      | .slip => 0x31 | .faultOff => 0x32 | .recastRejected => 0x33 | .alignTimeout => 0x34 | .restarted => 0x35) ∧
    byteAt r 1 = byteAt r 0 >>> 4 ∧
    (byteAt r 2).getLsbD 0 = e.cycle.isSome ∧ (byteAt r 2).getLsbD 1 = e.station.isSome ∧
    (byteAt r 2).getLsbD 2 = e.detail.isSome ∧ byteAt r 2 < 8 ∧ wordAt r 3 = e.cycle.getD 0 ∧
    byteAt r 5 = BitVec.ofNat 8 (e.station.getD 0) ∧
    byteAt r 6 = BitVec.ofNat 8 ((e.detail.map (fun d => d.code)).getD 0) ∧
    wordAt r 7 = BitVec.ofNat 16 ((e.detail.map (fun d => d.value)).getD 0))

/-- An unknown code (R173): taken as soon as its byte is complete, as the row or as the byte, with status UNKNOWN
and no effect; the next byte shifts the status out and leaves the port SPENT; further bytes change nothing; SEL up
and down opens the next transaction at its code. -/
def Obligations.UnknownCodeTaken : Prop :=
  ∀ (s : State) (code x y : Byte), AwaitsCode s → s.selLow = true →
    code ∉ [0x01#8, 0x02#8, 0x03#8, 0x04#8, 0x05#8, 0x06#8, 0x10#8, 0x11#8, 0x12#8, 0x13#8, 0x14#8, 0x20#8, 0x21#8] →
    exec (.unknownCode code) s = .next (settle (answered s 4 [])) ∧
    exec (.byteComplete code) s = .next (settle (answered s 4 [])) ∧
    sdo (settle (answered s 4 [])) = some 4 ∧
    ∃ u, exec (.byteComplete x) (settle (answered s 4 [])) = .next u ∧
      u = settle { s with hpt := { phase := .spent, code := none, operands := [], response := [] } } ∧
      exec (.byteComplete y) u = .next u ∧
      ∃ v w, exec .selRise u = .next v ∧ exec .selFall v = .next w ∧ v.hpt.phase = .idle ∧ AwaitsCode w ∧
        w = { u with hpt := { phase := .code, code := none, operands := [], response := [] } }

/-- Bytes on SDI take the command they spell (R167, R168, R187): after the code and all operand bytes but the last,
each a BYTE_COMPLETE, the part differs at the port alone, and the last byte does what the command's row does. That a
host command's row stands for the byte that completes it is the model's choice (log 6). -/
def Obligations.BytesTakeTheCommand : Prop :=
  ∀ (c : Instr) (bytes : List Byte) (last : Byte) (s : State),
    hostBytes c = some (bytes ++ [last]) → c.wellFormed = true → Settled s → AwaitsCode s → s.selLow = true →
    ∃ u, bytes.foldl (fun t b => nextOr t (exec (.byteComplete b) t)) s = u ∧
      { u with hpt := s.hpt } = s ∧
      exec (.byteComplete last) u = exec c u ∧
      ∃ t, exec c u = .next t ∧ t.hpt.phase = .response

/-- Bytes of a response shift out one by one, after the last the port is SPENT, and IDLE, SPENT and BLOCKED ignore
bytes (R168, R171). SEL (R168, R170): falling in IDLE it opens a transaction; rising in any phase it leaves the port
IDLE with the code, the operands and the unsent response discarded, and nothing taken. A full reset leaves every
block at its reset value, from any state, and the release of RESET leaves the port IDLE with SEL high and BLOCKED
with SEL low (R43, R163, R171). What State.reset holds where the spec gives no value is the model's choice (log 2).
-/
def Obligations.PortAndResetTaken : Prop :=
  ((∀ (s : State) (b : Byte), s.resetAsserted = false → s.selLow = true →
     (∀ r rest, s.hpt.phase = .response → s.hpt.response = r :: rest →
       sdo s = some r ∧
       exec (.byteComplete b) s = .next (settle { s with hpt :=
        { phase := if rest = [] then .spent else .response, code := s.hpt.code, operands := s.hpt.operands,
          response := rest } })) ∧
     ((s.hpt.phase = .idle ∨ s.hpt.phase = .spent ∨ s.hpt.phase = .blocked) →
       exec (.byteComplete b) s = .next (settle s))) ∧
  (∀ s : State, s.resetAsserted = false →
     (s.selLow = false → s.hpt.phase = .idle →
       exec .selFall s = .next { s with selLow := true, hpt := { s.hpt with phase := .code } }) ∧
     (s.selLow = true →
       exec .selRise s = .next { s with
         selLow := false, hpt := { phase := .idle, code := none, operands := [], response := [] } }))) ∧
  (∀ s : State,
    exec .fullReset s = .next { State.reset with resetAsserted := true, selLow := s.selLow, pending := s.pending } ∧
    (s.resetAsserted = true →
      exec .resetRelease s = .next { s with
        resetAsserted := false
        hpt := { s.hpt with phase := if s.selLow then .blocked else .idle } }))

/-! ### The cycle -/

/-- WRAP (R3 to R6, R15, R127, R138): the position returns to 0 and the cycle number advances by one, unless the
boundary detaches the station; a WAITING latch clears; a station that is MEMBER or LEAVING after it drives its marker
for 8 ticks and holds the plan of the new cycle on its current view; the last snap amount and the slip count stay. A
wrap in LISTENING that ends no listen window and purges no peer (R26, R49, R74) counts the listen window and every
silence by one, and that is all. A GET STATUS that its byte completes between the Cycle Timer's step and the other
blocks' acts (R169) answers the new cycle number with everything else as it stood. That the readout is an operand of the
row, taken at one of six places, is the model's choice (log 28). `begun` is the model's own field (log 5). -/
def Obligations.WrapTaken : Prop :=
  (∀ (s : State) (order : BoundaryOrder), order.readout = some { after := 0, byte := 0x10#8 } → Runs s →
    s.cfg.fp.p ≤ s.cyt.position + 1 → AwaitsCode s → s.selLow = true →
    ∃ t, exec (.wrap order) s = .next t ∧ t.hpt.phase = .response ∧
      t.hpt.response =
        0 :: statusRecord { s with cyt := { s.cyt with position := 0, cycle := s.cyt.cycle + 1 } }) ∧
  ∀ (s : State) (order : BoundaryOrder), order.readout = none → Runs s → Coherent s → s.cfg.fp.p ≤ s.cyt.position + 1 →
    ∃ t, exec (.wrap order) s = .next t ∧
      (t.mbc.station.running = true → t.cyt.position = 0 ∧ t.cyt.cycle = s.cyt.cycle + 1) ∧
      (t.mbc.station.running = false → t.mbc.station = .detached ∧ t.cyt.position = 0 ∧ t.cyt.cycle = 0) ∧
      t.los.latch = (if s.los.latch = .waiting then .clear else s.los.latch) ∧
      (t.mbc.station.inGroup = true →
        t.sli.markerActive = true ∧ t.sli.markerLeft = 8 ∧
        ∃ v p, t.mbc.current = some v ∧ t.plu.plan = some p ∧ p.cycle = s.cyt.cycle + 1 ∧ p.epoch = v.epoch) ∧
      Untouched s t ∧ t.cyt.lastSnap = s.cyt.lastSnap ∧ t.cyt.slips = s.cyt.slips ∧
      (s.mbc.station = .listening → s.mbc.listenCount + 1 < 64 + s.cfg.id → s.cyt.adopted = false →
        (∀ p ∈ s.peers, p.silence < 63) →
        t = settle { s with
          cyt := { s.cyt with position := 0, cycle := s.cyt.cycle + 1, begun := true }
          tli := { s.tli with
            rx := if s.tli.rx.phase = .receiving then { s.tli.rx with boundary := true } else s.tli.rx }
          mbc := { s.mbc with listenCount := s.mbc.listenCount + 1 }
          peers := s.peers.map (fun p => { p with silence := p.silence + 1 })
          plu := { s.plu with counting := false }
          los := { s.los with latch := if s.los.latch = .waiting then .clear else s.los.latch } })

/-- The first fall in LISTENING (R10, R51): the position restarts, the cycle number stays, the capture is the last snap
amount, the lock is cleared and the station enters ALIGNING with the align count 0; nothing else but the sample and the
boundary flag changes. Falls in MEMBER and LEAVING that are no boundary (R8, R12, R13): at position 0 the fall stores a
snap amount of 0 and counts toward lock up to 4; before half the cycle it is ignored. A late restart in ALIGNING and
HAILING (R11, R12, R26, R52): the position restarts, the cycle number stays, the capture is the snap amount and moves the
lock count, and a frame being received notes the boundary; an ALIGNING station whose lock count reaches 4 with the
adopted flag set enters HAILING with a HAIL request, a HAIL in flight noting its renewal (R37). That the first fall's capture is the last snap amount where it is P - 1 too is the
model's choice (log 21). `begun` is the model's own field (log 5). -/
def Obligations.FallsTaken : Prop :=
  (∀ (s : State) (a : Bool) (b : BoundaryOrder), s.resetAsserted = false → Coherent s → s.mbc.station = .listening →
     s.sli.prevHigh = true →
     exec (.syncFall a b) s = .next (settle { s with
       cyt := { s.cyt with position := 0, lastSnap := s.cyt.position, adopted := false, lockCount := 0, begun := false }
       sli := { s.sli with prevHigh := false, markerActive := false, markerLeft := 0 }
       tli := { s.tli with
         requests := Requests.empty
         rx := if s.tli.rx.phase = .receiving then { s.tli.rx with boundary := true } else s.tli.rx }
       mbc := { s.mbc with station := .aligning, alignCount := 0, observed := Observed.empty } })) ∧
  (∀ (s : State) (a : Bool) (b : BoundaryOrder), s.resetAsserted = false → s.mbc.station.inGroup = true → s.sli.prevHigh = true →
     (s.cyt.position = 0 →
       exec (.syncFall a b) s = .next (settle { s with
         cyt := { s.cyt with lastSnap := 0, lockCount := min (s.cyt.lockCount + 1) 4 }
         sli := { s.sli with prevHigh := false } })) ∧
     (0 < s.cyt.position → s.cyt.position < s.cfg.fp.p / 2 →
       exec (.syncFall a b) s = .next (settle { s with sli := { s.sli with prevHigh := false } }))) ∧
  (∀ (s : State) (a : Bool) (b : BoundaryOrder), s.resetAsserted = false → s.mbc.station.following = true → s.sli.prevHigh = true →
     s.cyt.position < s.cfg.fp.p / 2 →
     ∃ t line, exec (.syncFall a b) s = .next t ∧
       line = { s.tli with
         rx := if s.tli.rx.phase = .receiving then { s.tli.rx with boundary := true } else s.tli.rx } ∧
       t.cyt = { s.cyt with
         position := 0, lastSnap := s.cyt.position, begun := false
         lockCount := if s.cyt.position ≤ s.cfg.fp.p / 64 then min (s.cyt.lockCount + 1) 4 else 0 } ∧
       (s.mbc.station = .aligning ∧ t.cyt.lockCount = 4 ∧ s.cyt.adopted = true →
         t.mbc = { s.mbc with station := .hailing, hailCount := 1, hailInterval := 0 } ∧
         t.tli = { line with
           requests := { recast := false, leave := false, hail := true, claim := false }
           flight := s.tli.flight.map (fun f => if f.kind = .hail then { f with renewal := true } else f) }) ∧
       (¬ (s.mbc.station = .aligning ∧ t.cyt.lockCount = 4 ∧ s.cyt.adopted = true) →
         t.mbc = s.mbc ∧ t.tli = line) ∧
       t.sli = { s.sli with prevHigh := false } ∧ t.peers = s.peers ∧ t.plu = s.plu ∧
       t.evq.records = s.evq.records ∧ Untouched s t ∧ t.los.latch = s.los.latch)

/-- A snap (R11, R13, R14, R52): a fall captured at half the cycle or later begins a new cycle: the position is 0, the
cycle number one more and the last snap amount P less the capture, unless the boundary detaches the station, which
keeps the snap amount; in MEMBER and LEAVING an amount above P/64 adds one to the slip count, which wraps at 256,
and posts SLIP with the new cycle number and the snap amount. That SLIP comes before the other records of its
boundary is the model's choice (log 22). An ALIGNING station whose adopted flag is set and whose lock count this snap
brings to 4 enters HAILING with a HAIL request (`hailed`), and else counts the snap as BoundaryCounts and
BoundaryEndsTimers say of ALIGNING. Taken first, the lock finds no timeout, and the snap itself is then counted in HAILING
(log 16), where an observed pending view due now may admit the station; taken last, it finds the align count one more, or
LISTENING where that count reached 64. Which comes first is an operand (log 3). The model's choices: the boundary has
examined the waiting demands, with the adopted flag still set, before that timeout clears it (logs 14, 15), and the
boundary of an admission counts neither lease nor CLAIM age (log 12). `begun` is the model's own field (log 5). -/
def Obligations.SnapTaken : Prop :=
  (∀ (s : State) (lockFirst : Bool) (order : BoundaryOrder), order.readout = none → Runs s →
    s.mbc.station ≠ .listening → s.sli.prevHigh = true → 0 < s.cyt.position → s.cfg.fp.p / 2 ≤ s.cyt.position →
    ∃ t, exec (.syncFall lockFirst order) s = .next t ∧
      t.cyt.position = 0 ∧
      (t.mbc.station.running = true → t.cyt.cycle = s.cyt.cycle + 1) ∧
      t.cyt.lastSnap = s.cfg.fp.p - s.cyt.position ∧
      t.cyt.slips = (if s.mbc.station.inGroup = true ∧ s.cfg.fp.p / 64 < s.cfg.fp.p - s.cyt.position
        then s.cyt.slips + 1 else s.cyt.slips) ∧
      (s.mbc.station.inGroup = true → s.cfg.fp.p / 64 < s.cfg.fp.p - s.cyt.position →
        ∃ later : List Event, t.evq.records = later.foldl arrive (arrive s.evq.records
          { kind := .slip, cycle := some (s.cyt.cycle + 1), station := none,
            detail := some { code := 0, value := s.cfg.fp.p - s.cyt.position } })) ∧
      (s.mbc.station = .member → t.mbc.station = .member →
        t.cyt.lockCount = (if s.cfg.fp.p - s.cyt.position ≤ s.cfg.fp.p / 64 then min (s.cyt.lockCount + 1) 4 else 0)) ∧
      Untouched s t) ∧
  ∀ (s q : State) (lockFirst : Bool) (order : BoundaryOrder), order.readout = none → Runs s →
    s.mbc.station = .aligning → s.cyt.adopted = true → s.sli.prevHigh = true → 0 < s.cyt.position →
    s.cfg.fp.p / 2 ≤ s.cyt.position → (∀ p ∈ s.peers, p.silence < 31) → q = boundaryCounted (snapped s) →
    q.cyt.lockCount = 4 →
    (lockFirst = true →
      (NoSwitchDue s.mbc q.cyt.cycle →
        exec (.syncFall lockFirst order) s = .next (settle
          { hailed q with mbc := { (hailed q).mbc with hailInterval := 1 } })) ∧
      (∀ p, s.mbc.observed.pending = some p → lists p.view.members s.cfg.id = true →
        (q.cyt.cycle = p.switchCycle ∨ newer q.cyt.cycle p.switchCycle = true) →
        exec (.syncFall lockFirst order) s = exec .observedSwitch (hailed q)) ∧
      (∀ p, s.mbc.observed.pending = some p →
        ((q.cyt.cycle = p.switchCycle ∨ newer q.cyt.cycle p.switchCycle = true) ∧
            lists p.view.members s.cfg.id = false) ∨
          (¬ (q.cyt.cycle = p.switchCycle ∨ newer q.cyt.cycle p.switchCycle = true) ∧
            8 < ahead p.switchCycle q.cyt.cycle) →
        exec (.syncFall lockFirst order) s =
          exec .observedSwitch { hailed q with mbc := { (hailed q).mbc with hailInterval := 1 } })) ∧
    (lockFirst = false →
      (s.mbc.alignCount < 63 → NoSwitchDue s.mbc q.cyt.cycle →
        exec (.syncFall lockFirst order) s = .next (settle
          (hailed { q with mbc := { q.mbc with alignCount := q.mbc.alignCount + 1 } }))) ∧
      (∀ p, s.mbc.alignCount < 63 → s.mbc.observed.pending = some p →
        (q.cyt.cycle = p.switchCycle ∨ newer q.cyt.cycle p.switchCycle = true ∨ 8 < ahead p.switchCycle q.cyt.cycle) →
        ∃ r, exec .observedSwitch { q with mbc := { q.mbc with alignCount := q.mbc.alignCount + 1 } } = .next r ∧
          exec (.syncFall lockFirst order) s = .next (settle (hailed r))) ∧
      (s.mbc.alignCount = 63 →
        exec (.syncFall lockFirst order) s = exec .alignTimeout { q with mbc := { q.mbc with alignCount := 64 } }))

/-- What a wrap, and a snap that takes no ALIGNING station to HAILING, counts outside LISTENING (R43, R53, R54, R60,
R74, R79, R91, R114, R115, R118, R121, R127, R129, R137), where no timer runs out and no view switches, be one held whose
switch is not yet due: every silence by one, the waiting demands examined with the adopted flag set, the align count, the
HAIL interval, the leave count, the backoff timer and the lease, and the CLAIM age of a MEMBER, where it requests no
heartbeat (at age 8 too with the claimed flag clear, or with a CLAIM requested or in flight); in MEMBER and LEAVING the
table-complete flag, the plan of the new cycle on the current view, the previous windows, the suppression flags and the
marker; nothing else (a wrap in LISTENING is WrapTaken's, and the discard of an observed pending view more than 8 ahead
is BoundaryEndsTimers', and a snap that takes the station to HAILING is SnapTaken's). `begun` and `counting` are the
model's own fields (log 5). -/
def Obligations.BoundaryCounts : Prop :=
  ∀ (order : BoundaryOrder) (s : State) (c : Instr) (u q : State), BeginsCycle order s c u → q = boundaryCounted u →
    (∀ p ∈ s.peers, p.silence < 31) → NoSwitchDue s.mbc u.cyt.cycle →
    (s.mbc.station = .aligning → s.mbc.alignCount < 63 →
      exec c s = .next (settle { q with mbc := { q.mbc with alignCount := q.mbc.alignCount + 1 } })) ∧
    (s.mbc.station = .hailing → s.mbc.hailInterval < 15 →
      exec c s = .next (settle { q with mbc := { q.mbc with hailInterval := q.mbc.hailInterval + 1 } })) ∧
    (∀ v, s.mbc.station = .leaving → s.mbc.current = some v → s.mbc.leaveCount < 31 →
      ∃ t, exec c s = .next t ∧ Planned s v t ∧
        t = settle (withPlanOf { q with mbc := { q.mbc with leaveCount := q.mbc.leaveCount + 1 } } t)) ∧
    (∀ v, s.mbc.station = .member → s.mbc.current = some v →
      (∀ n, s.mbc.backoff = some n → 2 ≤ n) → s.plu.lease ≠ 1 →
      (s.plu.age ≠ 7 ∨ s.plu.claimed = false ∨ s.tli.requests.claim = true ∨
        ∃ f, s.tli.flight = some f ∧ f.kind = .claim) →
      ∃ t, exec c s = .next t ∧ Planned s v t ∧
        t = settle (withPlanOf
          { q with
            mbc := { q.mbc with backoff := q.mbc.backoff.map (fun n => n - 1) }
            plu := { q.plu with lease := q.plu.lease - 1, age := min (q.plu.age + 1) 255 } } t))

/-- A boundary that brings a timer of the Membership Controller to its end, reaches a switch cycle, or finds an observed
pending view more than 8 ahead, does there what the row of that happening does (R50, R53 to R56, R59, R60, R99, R108), at
a wrap and at a snap: on the counted part, ALIGN_TIMEOUT at the 64th boundary, HAIL_INTERVAL at the 16th, LEAVE_TIMEOUT at
the 32nd, FOUND_GROUP at the wrap that ends the listen window, VIEW_SWITCH at a pending view's switch, OBSERVED_SWITCH at
an observed one's switch and where it is discarded. At the 32nd boundary of a LEAVING station that is its view's switch
too, the switch decides where it excludes the station (HOST_LEAVE), and LEAVE_TIMEOUT follows it where it does not. At a
MEMBER's switch the backoff timer is counted first (`backedOff`), and the lease that runs out before the switch or, where
the station stays MEMBER, after it, as the operand says (R119, log 3); beside that the boundary counts the lease and the
CLAIM age and may request a heartbeat's CLAIM, and, at a snap that excludes the station, the lock. The model's choices or
readings: the waiting demands come before the timers, the switches and founding (logs 14, 15), SLIP first (log 22), a
lease that runs out last after PEER_LOST (log 35), founding reads the sample held (log 33), and the lease and the CLAIM
age do not count the boundary of founding or admission (log 12). `begun` and `counting` are the model's own fields (log
5). -/
def Obligations.BoundaryEndsTimers : Prop :=
  ∀ (order : BoundaryOrder) (s : State) (c : Instr) (u q : State), BeginsCycle order s c u → q = boundaryCounted u →
    (∀ p ∈ s.peers, p.silence < 31) →
    (s.mbc.station = .aligning → s.mbc.alignCount = 63 →
      exec c s = exec .alignTimeout { q with mbc := { q.mbc with alignCount := 64 } }) ∧
    (s.mbc.station = .hailing → NoSwitchDue s.mbc u.cyt.cycle → s.mbc.hailInterval = 15 →
      exec c s = exec .hailInterval { q with mbc := { q.mbc with hailInterval := 16 } }) ∧
    (s.mbc.station = .leaving → NoSwitchDue s.mbc u.cyt.cycle → s.mbc.leaveCount = 31 →
      exec c s = exec .leaveTimeout { q with mbc := { q.mbc with leaveCount := 32 } }) ∧
    ((c = .wrap order → s.mbc.station = .listening → s.mbc.listenCount + 1 = 64 + s.cfg.id → s.sli.stuck = false →
        s.sli.prevHigh = true →
        exec c s = exec .foundGroup { q with mbc := { q.mbc with listenCount := 64 + s.cfg.id } }) ∧
      (∀ p, s.mbc.station = .leaving → s.mbc.pending = some p → s.mbc.leaveCount < 31 →
        (u.cyt.cycle = p.switchCycle ∨ newer u.cyt.cycle p.switchCycle = true) →
        exec c s = exec .viewSwitch { q with mbc := { q.mbc with leaveCount := q.mbc.leaveCount + 1 } }) ∧
      (∀ p, s.mbc.station = .leaving → s.mbc.pending = some p → s.mbc.leaveCount = 31 →
        (u.cyt.cycle = p.switchCycle ∨ newer u.cyt.cycle p.switchCycle = true) →
        ∃ r, exec .viewSwitch { q with mbc := { q.mbc with leaveCount := 32 } } = .next r ∧
          (lists p.view.members s.cfg.id = false → r.mbc.reason = .hostLeave ∧ exec c s = .next r) ∧
          (lists p.view.members s.cfg.id = true → exec c s = exec .leaveTimeout r)) ∧
      (∀ p, s.mbc.station = .member → s.mbc.pending = some p →
        (u.cyt.cycle = p.switchCycle ∨ newer u.cyt.cycle p.switchCycle = true) →
        ∃ e r x t, LeaseRunsOut (order.leaseFirst = true ∧ s.plu.lease = 1) q e ∧
          exec .viewSwitch (backedOff e) = .next r ∧
          LeaseRunsOut (order.leaseFirst = false ∧ s.plu.lease = 1 ∧ lists p.view.members s.cfg.id = true) r x ∧
          exec c s = .next t ∧
          (lists p.view.members s.cfg.id = true → t.cyt.lockCount = r.cyt.lockCount) ∧
          t = settle { x with
            cyt := { x.cyt with lockCount := t.cyt.lockCount }
            tli := { x.tli with requests := { x.tli.requests with claim := t.tli.requests.claim } }
            plu := { x.plu with
              lease := if order.leaseFirst = true ∨ lists p.view.members s.cfg.id = true then s.plu.lease - 1
                else s.plu.lease
              age := if order.leaseFirst = true ∨ lists p.view.members s.cfg.id = true then min (s.plu.age + 1) 255
                else s.plu.age
              counting := false } } ∧
          (x.tli.requests.claim = true → t.tli.requests.claim = true) ∧
          (t.tli.requests.claim = true → x.tli.requests.claim = true ∨ t.plu.age = 8)) ∧
      (∀ p, s.mbc.station = .hailing → s.mbc.observed.pending = some p → lists p.view.members s.cfg.id = true →
        (u.cyt.cycle = p.switchCycle ∨ newer u.cyt.cycle p.switchCycle = true) →
        exec c s = exec .observedSwitch q) ∧
      (∀ p, s.mbc.station = .hailing → s.mbc.observed.pending = some p →
        ((u.cyt.cycle = p.switchCycle ∨ newer u.cyt.cycle p.switchCycle = true) ∧
            lists p.view.members s.cfg.id = false) ∨
          (¬ (u.cyt.cycle = p.switchCycle ∨ newer u.cyt.cycle p.switchCycle = true) ∧
            8 < ahead p.switchCycle u.cyt.cycle) →
        (s.mbc.hailInterval < 15 →
          exec c s = exec .observedSwitch { q with mbc := { q.mbc with hailInterval := q.mbc.hailInterval + 1 } }) ∧
        (s.mbc.hailInterval = 15 →
          ∃ r, exec .observedSwitch q = .next r ∧
            exec c s = exec .hailInterval { r with mbc := { r.mbc with hailInterval := 16 } })) ∧
      (∀ p, s.mbc.station = .aligning → s.mbc.observed.pending = some p →
        (u.cyt.cycle = p.switchCycle ∨ newer u.cyt.cycle p.switchCycle = true ∨ 8 < ahead p.switchCycle u.cyt.cycle) →
        s.mbc.alignCount < 63 →
        exec c s = exec .observedSwitch { q with mbc := { q.mbc with alignCount := q.mbc.alignCount + 1 } }))

/-- What a boundary that switches no view finds in MEMBER (R75, R89, R91, R115, R118, R119): the backoff timer that it brings
to 0 becomes absent and requests a RECAST; the CLAIM age that it brings to 8 requests a CLAIM; the lease that it brings to 0 clears
the requested demands, posts LEASE_EXPIRED with the new cycle number and requests a CLAIM where one is due; the peer
whose silence it brings to 32 becomes LOST, with PEER_LOST and a REMOVE of the new cycle. After every boundary that
leaves the station running no HEARD entry has a silence of 64 or more, and in MEMBER and LEAVING no MEMBER entry one of 32
or more (R75, R77). After one that detaches it the entries stand as the boundary has counted them, demoted, LOST ones of
64 and more among them (R47, R67, R84); that their waiting demands have been examined with the adopted flag still set, before
the detach (logs 14, 15), and that those which stood HEARD at 64 are purged before it (log 15), are the model's choices, and
a LEAVING station that a view switched at the same boundary still lists is left out there. At a snap that is a slip, that
SLIP comes before LEASE_EXPIRED and PEER_LOST is the model's choice (log 22). The CLAIM where the published demands are 0 and a value in flight or pending is not is the model's choice (log
37). `begun` and `counting` are the model's own fields (log 5). -/
def Obligations.BoundaryFindings : Prop :=
  (∀ (order : BoundaryOrder) (s : State) (c : Instr) (u q : State), BeginsCycle order s c u → q = boundaryCounted u →
    s.mbc.station = .member → NoSwitchDue s.mbc u.cyt.cycle →
    ∃ t, exec c s = .next t ∧ t.mbc.station = .member ∧ Untouched s t ∧
      ((∀ p ∈ s.peers, p.silence < 31) → s.mbc.backoff = some 1 →
        t.mbc.backoff = none ∧ t.tli.requests.recast = true) ∧
      (s.plu.age = 7 → s.plu.claimed = true → (∀ f, s.tli.flight = some f → f.kind ≠ .claim) →
        t.plu.age = 8 ∧ t.tli.requests.claim = true) ∧
      (s.plu.lease = 1 → (∀ p ∈ s.peers, p.silence < 31) →
        t.plu.lease = 0 ∧ t.plu.leg0.requested = 0 ∧ t.plu.leg1.requested = 0 ∧
        t.evq.records = arrive u.evq.records
          { kind := .leaseExpired, cycle := some u.cyt.cycle, station := none,
            detail := some { code := 0, value := s.cfg.lease } } ∧
        ((∃ leg n, leg < s.cfg.legs ∧ LastPut q leg n ∧ n ≠ 0) → t.tli.requests.claim = true)) ∧
      (∀ p ∈ s.peers, TableLaw s → p.kind = .member → p.silence = 31 → (∀ x ∈ s.peers, x ≠ p → x.silence < 31) →
        s.mbc.changes = [] → s.plu.lease ≠ 1 →
        (∃ x, findPeer t.peers p.id = some x ∧ x.kind = .lost ∧ x.silence = 32) ∧
        t.mbc.changes = [{ id := p.id, change := .remove .lost, trigger := u.cyt.cycle }] ∧
        t.evq.records = arrive u.evq.records
          { kind := .peerLost, cycle := some u.cyt.cycle, station := some p.id,
            detail := some { code := 32, value := 0 } })) ∧
  (∀ (order : BoundaryOrder) (s : State) (c : Instr), Runs s →
    ((c = .wrap order ∧ s.cfg.fp.p ≤ s.cyt.position + 1) ∨
     ((∃ lockFirst, c = .syncFall lockFirst order) ∧ s.mbc.station ≠ .listening ∧ s.sli.prevHigh = true ∧
        0 < s.cyt.position ∧ s.cfg.fp.p / 2 ≤ s.cyt.position)) →
    ∃ t, exec c s = .next t ∧
      (t.mbc.station.running = true → ∀ p ∈ t.peers, p.kind = .heard → p.silence < 64) ∧
      (t.mbc.station.inGroup = true → ∀ p ∈ t.peers, p.kind = .member → p.silence < 32) ∧
      (t.mbc.station.running = false →
        (∀ w, s.mbc.pending = some w → lists w.view.members s.cfg.id = true →
          ¬ (s.cyt.cycle + 1 = w.switchCycle ∨ newer (s.cyt.cycle + 1) w.switchCycle = true)) →
        t.peers = ((boundaryCounted { s with cyt := { s.cyt with cycle := s.cyt.cycle + 1 } }).peers.filter
          (fun p => !(p.kind == .heard && decide (64 ≤ p.silence)))).map demoted))

/-- MARKER_END (R15): the active driver whose remaining count is 0 becomes idle and releases SYNC; nothing else
changes. SYNC_STUCK (R17, R18): the flag is set and SYNC_FAULT posted; LISTENING stays; ALIGNING and HAILING enter
LISTENING with the views cleared; LEAVING posts LEFT(LEAVE_TIMEOUT) and enters DETACHED; MEMBER enters LISTENING
with its plan and views cleared, its peers demoted and its published demands kept. -/
def Obligations.SyncLineTaken : Prop :=
  (∀ s : State, s.resetAsserted = false → s.sli.markerActive = true → s.sli.markerLeft = 0 →
     exec .markerEnd s = .next (settle { s with sli := { s.sli with markerActive := false, markerLeft := 0 } })) ∧
  (∀ s u : State, Runs s → s.cfg.fp.p ≤ s.sli.stuckCount → s.sli.stuck = false →
     u = appended { s with sli := { s.sli with stuck := true } }
       { kind := .syncFault, cycle := some s.cyt.cycle, station := none, detail := none } →
     (s.mbc.station = .listening → exec .syncStuck s = .next (settle u)) ∧
     (s.mbc.station = .leaving →
       exec .syncStuck s = .next (settle (enterDetached
         (appended u
           { kind := .left, cycle := some s.cyt.cycle, station := none, detail := some { code := 2, value := 0 } })
         .leaveTimeout))) ∧
     (s.mbc.station = .aligning ∨ s.mbc.station = .hailing ∨ s.mbc.station = .member →
       ∃ t, exec .syncStuck s = .next t ∧ t.mbc.station = .listening ∧ t.mbc.listenCount = 0 ∧
         t.mbc.current = none ∧ t.mbc.pending = none ∧ t.mbc.observed = Observed.empty ∧ t.mbc.changes = [] ∧
         t.mbc.backoff = none ∧ t.mbc.reason = s.mbc.reason ∧
         t.tli = { s.tli with requests := Requests.empty } ∧
         t.cyt = { s.cyt with adopted := false, lockCount := 0 } ∧
         t.sli = { u.sli with markerActive := false, markerLeft := 0 } ∧
         t.evq.records = u.evq.records ∧ Untouched s t ∧ t.los.latch = s.los.latch ∧
         t.plu.leg0 = s.plu.leg0 ∧ t.plu.leg1 = s.plu.leg1 ∧ t.plu.lease = s.plu.lease ∧
         (s.mbc.station = .member → t.plu.plan = none ∧ t.plu.complete = false ∧
           t.peers = s.peers.map demoted) ∧
         (s.mbc.station ≠ .member → t.peers = s.peers ∧ t.plu = s.plu)))

/-- A CLK edge that is no tick moves the prescaler alone, and a quiet tick (the lines high, FAULT deasserted, no marker,
no frame, no request) counts the position and the idle count and ends stuck episodes, in every order of the tick's acts
(R2, R3, R17, R24, R41). That the order of a tick's acts is an operand of the command is the model's choice (log 3).
`begun` is the model's own field (log 5). -/
def Obligations.TickTaken : Prop :=
  ∀ (s : State) (pins : Pins) (order : TickOrder), s.resetAsserted = false → s.cyt.prescRunning = true →
    (s.cyt.presc + 1 < 2 ^ s.cfg.fp.prescale →
      exec (.tick pins order) s = .next (settle { s with cyt := { s.cyt with presc := s.cyt.presc + 1 } })) ∧
    (2 ^ s.cfg.fp.prescale ≤ s.cyt.presc + 1 → pins.sync = true → pins.talk = true → pins.fault = true →
      s.mbc.station.running = true → s.sli.markerActive = false → s.cyt.position + 1 < s.cfg.fp.p →
      s.tli.rx.phase = .waiting → s.tli.flight = none → s.tli.requests = Requests.empty →
      s.los.latch ≠ .asserted → 0 < s.cfg.fp.tb →
      exec (.tick pins order) s = .next (settle { s with
        cyt := { s.cyt with presc := 0, position := s.cyt.position + 1, begun := false }
        sli := { s.sli with stuckCount := 0, stuck := false, prevHigh := true }
        tli := { s.tli with
          idle := min (s.tli.idle + 1) (2 * s.cfg.fp.tb), stuckCount := 0, stuck := false, prevHigh := true } }))

/-- A tick does what the rows of its happenings do (R3, R7, R15, R17, R22 to R24, R29). With the position counted last,
a tick at the end of the cycle does WRAP on the sampled part, and then the marker of that boundary, if it drives one, is
the own fall of the same tick; a tick on which SYNC falls does SYNC_FALL at the position not yet counted, and counts it
unless the fall moved it. A tick drives a marker with more than one tick left, and ends one with one left. In every
order a tick reads the cell in progress at its sample tick, and does TALK_MARK where an idle line falls; with TALK
sampled last it does the accepted-frame row on the tick that ends the veto cell. The orders are operands (log 3), and
when the veto cell has ended is the model's reading (log 9). `begun` is the model's own field (log 5). -/
def Obligations.TickDoesTheRows : Prop :=
  ∀ (s : State) (pins : Pins) (order : TickOrder), OnTick s pins → order.boundary.readout = none → 0 < s.cfg.fp.tb →
    (s.sli.markerActive = false → s.sli.prevHigh = true → pins.talk = true → TalkRests s →
      order.stages = [.talk, .fault, .sync, .cycle] →
      (pins.sync = true → s.cfg.fp.p ≤ s.cyt.position + 1 → 2 ≤ s.cfg.fp.p →
        ∃ u, exec (.wrap order.boundary) (syncSampled true (talkHigh (edge s))) = .next u ∧
          (u.mbc.station.running = false → exec (.tick pins order) s = .next u) ∧
          (u.mbc.station.running = true → u.sli.markerActive = false →
            exec (.tick pins order) s = .next (settle (syncSampled true u))) ∧
          (u.mbc.station.running = true → u.sli.markerActive = true →
            exec (.tick pins order) s = exec (.syncFall order.lockFirst order.boundary)
              { u with sli := { u.sli with stuckCount := 1 } })) ∧
      (∀ v, pins.sync = false → s.sli.stuckCount + 1 < s.cfg.fp.p →
        v = { talkHigh (edge s) with sli := { s.sli with stuckCount := s.sli.stuckCount + 1 } } →
        (s.mbc.station.inGroup = false ∨ (0 < s.cyt.position ∧ s.cfg.fp.p / 2 ≤ s.cyt.position) →
          exec (.tick pins order) s = exec (.syncFall order.lockFirst order.boundary) v) ∧
        (s.mbc.station.inGroup = true → s.cyt.position = 0 ∨ s.cyt.position < s.cfg.fp.p / 2 →
          ∃ u, exec (.syncFall order.lockFirst order.boundary) v = .next u ∧
            exec (.tick pins order) s = .next (settle (moved u))))) ∧
    (s.sli.markerActive = true → s.cyt.position + 1 < s.cfg.fp.p → pins.talk = true → TalkRests s →
      (2 ≤ s.sli.markerLeft → s.sli.prevHigh = false → s.sli.stuckCount + 1 < s.cfg.fp.p →
        exec (.tick pins order) s = .next (settle (moved (talkHigh (edge
          { s with sli := { s.sli with
              markerLeft := s.sli.markerLeft - 1, stuckCount := s.sli.stuckCount + 1 } }))))) ∧
      (s.sli.markerLeft = 1 → pins.sync = true →
        exec (.tick pins order) s = .next (settle (moved (syncSampled true (talkHigh (edge
          { s with sli := { s.sli with markerActive := false, markerLeft := 0 } }))))))) ∧
    (s.sli.markerActive = false → s.cyt.position + 1 < s.cfg.fp.p → pins.sync = true → s.tli.flight = none →
      (s.tli.rx.phase = .receiving → s.tli.rx.vetoing = false → s.tli.rx.tick + 1 = s.cfg.fp.tb / 2 →
        1 ≤ s.tli.rx.bits.length → s.tli.rx.bits.length < 13 →
        (pins.talk = true → s.tli.idle + 1 < s.cfg.fp.tb →
          exec (.tick pins order) s = .next (settle (moved (syncSampled true (talkHigh (edge
            { s with tli := { s.tli with rx := { s.tli.rx with
                bits := s.tli.rx.bits ++ [true], tick := s.tli.rx.tick + 1, lastBit := some true } } })))))) ∧
        (pins.talk = false → s.tli.prevHigh = false → s.tli.stuckCount + 1 < s.cfg.fp.tb →
          exec (.tick pins order) s = .next (settle (moved (syncSampled true (edge
            { s with tli := { s.tli with
                idle := 0, stuckCount := s.tli.stuckCount + 1
                rx := { s.tli.rx with
                  bits := s.tli.rx.bits ++ [false], tick := s.tli.rx.tick + 1, lastBit := some false } } })))))) ∧
      (TalkRests s → pins.talk = false → s.tli.prevHigh = true → s.cfg.fp.tb ≤ s.tli.idle → s.tli.stuck = false →
        4 ≤ s.cfg.fp.tb → s.tli.stuckCount + 1 < s.cfg.fp.tb →
        exec (.tick pins order) s = exec .talkMark (moved (syncSampled true (edge
          { s with tli := { s.tli with stuckCount := s.tli.stuckCount + 1 } })))) ∧
      (∀ v k sender payload, pins.talk = true → order.stages = [.cycle, .sync, .fault, .talk] →
        s.tli.rx.vetoing = false → s.tli.rx.tick = s.cfg.fp.tb → s.tli.idle + 1 < s.cfg.fp.tb →
        v = moved (syncSampled true (talkHigh (edge
          { s with tli := { s.tli with rx := { s.tli.rx with tick := s.tli.rx.tick + 1 } } }))) →
        Complete v k sender payload →
        exec (.tick pins order) s = exec (acceptRow order.tableFirst k) v))

/-- More of what a tick does, in every order of its acts unless one is named (R17, R23, R28, R33, R41, R138). A sender
pulls TALK low for floor(TB/4) ticks of a cell it drives as 1 and 3 floor(TB/4) of one it drives as 0, where its pull
reaches the line, and the line is high otherwise; it makes the mark of its next cell when the cell has lasted TB ticks,
which does TALK_MARK. A FAULTED station that holds the veto pulls for 3 floor(TB/4) ticks of the cell. On an otherwise
quiet tick an asserted FAULT sample does FAULT_ASSERTED and a deasserted one in ASSERTED does FAULT_RELEASED. The low
sample that brings the SYNC count to P does SYNC_STUCK, SYNC sampled last, and the one that brings the TALK count to 16
TB does TALK_STUCK. The orders are operands (log 3), and that a pull may not reach the line is one too (log 25). That a mark
which did not come about on the tick on which it was due is still due is the model's choice (log 32), and so is that a
FAULTED assembler keeps the value last read and reads nothing more into its fields (log 26). `begun` is the model's own field
(log 5). -/
def Obligations.TickDrivesTheLines : Prop :=
  ∀ (s : State) (pins : Pins) (order : TickOrder), order.boundary.readout = none → Runs s →
    s.cyt.prescRunning = true → 2 ^ s.cfg.fp.prescale ≤ s.cyt.presc + 1 → s.sli.markerActive = false →
    s.cyt.position + 1 < s.cfg.fp.p → 4 ≤ s.cfg.fp.tb →
    (OnTick s pins → pins.sync = true →
      (∀ (f : Flight) (b low : Bool), s.tli.flight = some f → s.tli.rx.phase = .receiving → s.tli.rx.vetoing = false →
        (frameCells f.kind s.cfg.id f.payload)[s.tli.rx.cell]? = some b →
        (s.tli.rx.lastBit = none ∨ s.tli.rx.lastBit = some b) → s.tli.rx.tick < s.cfg.fp.tb →
        s.tli.rx.tick + 1 ≠ s.cfg.fp.tb / 2 →
        low = (!pins.talk || (pins.transmits &&
          decide (s.tli.rx.tick + 1 ≤ if b then s.cfg.fp.tb / 4 else 3 * (s.cfg.fp.tb / 4)))) →
        (low = true → s.tli.prevHigh = false → s.tli.stuckCount + 1 < s.cfg.fp.tb →
          exec (.tick pins order) s = .next (settle (moved (syncSampled true (edge
            { s with tli := { s.tli with
                idle := 0, stuckCount := s.tli.stuckCount + 1
                rx := { s.tli.rx with tick := s.tli.rx.tick + 1 } } }))))) ∧
        (low = false → s.tli.idle + 1 < s.cfg.fp.tb →
          exec (.tick pins order) s = .next (settle (moved (syncSampled true (talkHigh (edge
            { s with tli := { s.tli with rx := { s.tli.rx with tick := s.tli.rx.tick + 1 } } }))))))) ∧
      (∀ f, s.tli.flight = some f → s.tli.rx.phase = .receiving → s.cfg.fp.tb ≤ s.tli.rx.tick →
        s.tli.rx.cell < vetoCell f.payload.length → pins.transmits = true → s.tli.prevHigh = true →
        s.tli.stuckCount + 1 < s.cfg.fp.tb →
        exec (.tick pins order) s = exec .talkMark (moved (syncSampled true (edge
          { s with tli := { s.tli with stuckCount := s.tli.stuckCount + 1 } })))) ∧
      (∀ (low : Bool) (bit : Option Bool), s.tli.flight = none → s.tli.rx.phase = .faulted → s.tli.rx.vetoing = true →
        pins.talk = true → low = (pins.transmits && decide (s.tli.rx.tick + 1 ≤ 3 * (s.cfg.fp.tb / 4))) →
        bit = (if s.tli.rx.tick + 1 = s.cfg.fp.tb / 2 then some (!low) else s.tli.rx.lastBit) →
        (low = true → s.tli.prevHigh = false → s.tli.stuckCount + 1 < 16 * s.cfg.fp.tb →
          exec (.tick pins order) s = .next (settle (moved (syncSampled true (edge
            { s with tli := { s.tli with
                idle := 0, stuckCount := s.tli.stuckCount + 1
                rx := { s.tli.rx with tick := s.tli.rx.tick + 1, lastBit := bit } } }))))) ∧
        (low = false → s.tli.idle + 1 < s.cfg.fp.tb →
          exec (.tick pins order) s = .next (settle (moved (syncSampled true (talkHigh (edge
            { s with tli := { s.tli with
                rx := { s.tli.rx with tick := s.tli.rx.tick + 1, lastBit := bit } } })))))))) ∧
    (∀ u, TalkRests s → pins.sync = true → pins.talk = true → s.locked = true →
      u = moved (syncSampled true (talkHigh (edge s))) →
      (pins.fault = false → s.los.latch ≠ .asserted → exec (.tick pins order) s = exec .faultAsserted u) ∧
      (pins.fault = false → s.los.latch = .asserted → exec (.tick pins order) s = .next (settle u)) ∧
      (pins.fault = true → s.los.latch = .asserted → exec (.tick pins order) s = exec .faultReleased u)) ∧
    (OnTick s pins → TalkRests s →
      (pins.sync = false → pins.talk = true → s.sli.prevHigh = false → s.sli.stuck = false →
        s.sli.stuckCount + 1 = s.cfg.fp.p → order.stages = [.cycle, .talk, .fault, .sync] →
        exec (.tick pins order) s = exec .syncStuck (moved (talkHigh (edge
          { s with sli := { s.sli with stuckCount := s.cfg.fp.p } })))) ∧
      (pins.sync = true → pins.talk = false → s.tli.prevHigh = false → s.tli.stuck = false →
        s.tli.stuckCount + 1 = 16 * s.cfg.fp.tb →
        exec (.tick pins order) s = exec .talkStuck (moved (syncSampled true (edge
          { s with tli := { s.tli with idle := 0, stuckCount := 16 * s.cfg.fp.tb } })))))

/-- The timers that end a state (R53, R60): ALIGN_TIMEOUT posts ALIGN_TIMEOUT and enters LISTENING with the peers
kept; LEAVE_TIMEOUT posts LEFT(LEAVE_TIMEOUT) and enters DETACHED. HAIL_INTERVAL (R54, R55): below 4 HAILs one more is
counted and requested and the interval restarts; at 4 NOT_ADMITTED is posted with the HAIL count and the station
enters DETACHED. The requests that time posts in MEMBER (R91, R115): the backoff timer at 0 becomes absent and posts a
RECAST request; the CLAIM age at 8 with the claimed flag set, no CLAIM request and no CLAIM in flight posts a CLAIM
request. LEASE_EXPIRY (R118, R119): the count goes from 1 to 0, both requested demands become 0, LEASE_EXPIRED is
posted with the configured lease, and a CLAIM request is posted where a configured leg's last put value is not 0. That
the row LEASE_EXPIRY is the count's step at a boundary that found the station MEMBER and whose counts are still to be
made, as the model's own fields `begun` and `counting` say, is its choice (log 5), and so is the CLAIM where the published
demands are 0 and a value in flight or pending is not (log 37). -/
def Obligations.TimersTaken : Prop :=
  ((∀ s : State, s.resetAsserted = false → Coherent s →
     (s.mbc.station = .aligning → s.mbc.alignCount = 64 →
       exec .alignTimeout s = .next (settle (appended
         { s with
           cyt := { s.cyt with adopted := false, lockCount := 0 }
           sli := { s.sli with markerActive := false, markerLeft := 0 }
           tli := { s.tli with requests := Requests.empty }
           mbc := { s.mbc with station := .listening, listenCount := 0, observed := Observed.empty } }
         { kind := .alignTimeout, cycle := some s.cyt.cycle, station := none, detail := none }))) ∧
     (s.mbc.station = .leaving → s.mbc.leaveCount = 32 →
       exec .leaveTimeout s = .next (settle (enterDetached
         (appended s { kind := .left, cycle := some s.cyt.cycle, station := none, detail := some { code := 2, value := 0 } })
         .leaveTimeout)))) ∧
  (∀ s : State, s.resetAsserted = false → s.mbc.station = .hailing → s.mbc.hailInterval = 16 →
     (s.mbc.hailCount < 4 →
       exec .hailInterval s = .next (settle (requested
         { s with mbc := { s.mbc with hailCount := s.mbc.hailCount + 1, hailInterval := 0 } } .hail))) ∧
     (s.mbc.hailCount = 4 →
       exec .hailInterval s = .next (settle (enterDetached
         (appended s { kind := .notAdmitted, cycle := some s.cyt.cycle, station := none,
                       detail := some { code := 4, value := 0 } })
         .notAdmitted))))) ∧
  ((∀ s : State, s.resetAsserted = false → s.mbc.station = .member →
     (s.mbc.backoff = some 0 →
       exec .backoffExpiry s = .next (settle (requested { s with mbc := { s.mbc with backoff := none } } .recast))) ∧
     (s.plu.age = 8 → s.plu.claimed = true → s.tli.requests.claim = false →
       (∀ f, s.tli.flight = some f → f.kind ≠ .claim) →
       exec .heartbeat s = .next (settle { s with
         tli := { s.tli with requests := { s.tli.requests with claim := true } } }))) ∧
  (∀ s u : State, s.resetAsserted = false → s.mbc.station = .member → s.cyt.begun = true → s.plu.counting = true →
     s.plu.lease = 1 → u = appended
       { s with
         plu := { s.plu with lease := 0
                             leg0 := { s.plu.leg0 with requested := 0 }
                             leg1 := { s.plu.leg1 with requested := 0 } } }
       { kind := .leaseExpired, cycle := some s.cyt.cycle, station := none,
         detail := some { code := 0, value := s.cfg.lease } } →
     ((∃ leg n, leg < s.cfg.legs ∧ LastPut s leg n ∧ n ≠ 0) →
       exec .leaseExpiry s = .next (settle (requested u .claim))) ∧
     ((∀ leg n, leg < s.cfg.legs → LastPut s leg n → n = 0) → exec .leaseExpiry s = .next (settle u))))

/-! ### Membership -/

/-- FOUND_GROUP (R50, R57): the station becomes MEMBER of a view of epoch 1 that lists it alone without the new flag,
posts FOUNDED and JOINED, sets the adopted flag, requests a CLAIM, stands in quiet hold, plans the cycle on that view
and drives its marker. That the row is taken where a wrap has just begun the cycle and the listen window has been
counted is the model's choice (log 5), and so is that it reads the SYNC sample last held (log 33). -/
def Obligations.FoundGroupTaken : Prop :=
  ∀ s : State, s.resetAsserted = false → Coherent s → s.mbc.station = .listening → s.cyt.begun = true →
    s.mbc.listenCount = 64 + s.cfg.id → s.sli.stuck = false → s.sli.prevHigh = true →
    ∃ t, exec .foundGroup s = .next t ∧
      t.mbc = { s.mbc with
        station := .member
        current := some { epoch := 1, members := [{ id := s.cfg.id, legs := s.cfg.legs, new := false }], fp := s.cfg.fp }
        pending := none, changes := [], backoff := none } ∧
      t.evq.records = arrive (arrive s.evq.records
          { kind := .founded, cycle := some s.cyt.cycle, station := none, detail := some { code := 0, value := 1 } })
        { kind := .joined, cycle := some s.cyt.cycle, station := none, detail := some { code := 0, value := 1 } } ∧
      t.cyt = { s.cyt with adopted := true } ∧
      t.tli.requests = { recast := false, leave := false, hail := false, claim := true } ∧
      t.sli = { s.sli with markerActive := true, markerLeft := 8 } ∧
      t.plu.claimed = false ∧ t.plu.age = 0 ∧ t.plu.complete = true ∧ t.los.quiet = true ∧
      (∃ p, t.plu.plan = some p ∧ p.cycle = s.cyt.cycle ∧ p.epoch = 1) ∧
      t.plu.leg0 = s.plu.leg0 ∧ t.plu.leg1 = s.plu.leg1 ∧ t.plu.lease = s.plu.lease ∧
      t.peers = s.peers ∧ Untouched s t ∧ t.los.latch = s.los.latch

/-- VIEW_SWITCH (R59, R62, R80, R99, R116): the pending view becomes current. A MEMBER it lists posts VIEW_CHANGED (its one
record where no peer is overdue) and drives its marker, and one listed with the new flag has its published demands 0 with
nothing pending and requests a CLAIM; one it does not list posts EXCLUDED and enters ALIGNING with its published demands
0; a LEAVING station it lists requests a LEAVE again, one it does not list posts LEFT(HOST_LEAVE) and enters DETACHED.
Where the station goes on in the group, the switch cycle is planned on the new view, the table-complete flag set or cleared
with it (`Planned`), and where no peer is overdue the entries are those of SwitchSeatsTheMembers and the change list, the
backoff timer and what else the controller holds stand. That the row is taken where a wrap or snap has just begun the cycle is the
model's choice (log 5). -/
def Obligations.ViewSwitchTaken : Prop :=
  ∀ (s : State) (p : PendingView), s.resetAsserted = false → s.cyt.begun = true → s.mbc.pending = some p →
    (s.cyt.cycle = p.switchCycle ∨ newer s.cyt.cycle p.switchCycle = true) →
    (s.mbc.station = .member ∨ s.mbc.station = .leaving) →
    ∃ t, exec .viewSwitch s = .next t ∧
      (s.mbc.station = .member → lists p.view.members s.cfg.id = true →
        t.mbc.station = .member ∧ t.mbc.current = some p.view ∧ t.mbc.pending = none ∧
        t.sli.markerActive = true ∧ t.sli.markerLeft = 8 ∧ t.cyt = s.cyt ∧
        ((∀ q ∈ s.peers, q.silence < 32) → t.evq.records = arrive s.evq.records
          { kind := .viewChanged, cycle := some s.cyt.cycle, station := none,
            detail := some { code := p.view.members.length, value := p.view.epoch.toNat } }) ∧
        Planned s p.view t ∧
        ((∀ q ∈ s.peers, q.silence < 32) → t.peers = (tableSwitch s p.view).peers ∧
          t.mbc = { s.mbc with current := some p.view, pending := none }) ∧
        (listsNew p.view.members s.cfg.id = true →
          t.plu.leg0 = { s.plu.leg0 with published := 0, pending := none } ∧
          t.plu.leg1 = { s.plu.leg1 with published := 0, pending := none } ∧ t.tli.requests.claim = true) ∧
        (listsNew p.view.members s.cfg.id = false → t.plu.leg0 = s.plu.leg0 ∧ t.plu.leg1 = s.plu.leg1)) ∧
      (s.mbc.station = .member → lists p.view.members s.cfg.id = false →
        t.mbc.station = .aligning ∧ t.mbc.alignCount = 0 ∧ t.mbc.current = none ∧ t.mbc.pending = none ∧
        t.mbc.changes = [] ∧ t.mbc.reason = s.mbc.reason ∧
        t.cyt = { s.cyt with adopted := false, lockCount := 0 } ∧ t.sli.markerActive = false ∧
        t.plu.plan = none ∧ t.plu.leg0 = { s.plu.leg0 with published := 0, pending := none } ∧
        t.plu.leg1 = { s.plu.leg1 with published := 0, pending := none } ∧
        t.tli.requests = Requests.empty ∧
        t.evq.records = arrive s.evq.records
          { kind := .excluded, cycle := some s.cyt.cycle, station := none,
            detail := some { code := 0, value := p.view.epoch.toNat } }) ∧
      (s.mbc.station = .leaving → lists p.view.members s.cfg.id = true →
        t.mbc.station = .leaving ∧ t.mbc.current = some p.view ∧ t.mbc.pending = none ∧
        t.mbc.leaveCount = s.mbc.leaveCount ∧ t.tli.requests.leave = true ∧ t.cyt = s.cyt ∧
        t.sli.markerActive = true ∧ t.plu.leg0 = s.plu.leg0 ∧ t.plu.leg1 = s.plu.leg1 ∧ Planned s p.view t ∧
        ((∀ q ∈ s.peers, q.silence < 32) → t.peers = (tableSwitch s p.view).peers ∧
          t.mbc = { s.mbc with current := some p.view, pending := none } ∧ t.evq.records = s.evq.records)) ∧
      (s.mbc.station = .leaving → lists p.view.members s.cfg.id = false →
        t = settle (enterDetached
          (appended s { kind := .left, cycle := some s.cyt.cycle, station := none, detail := some { code := 1, value := 0 } })
        .hostLeave)) ∧
      Untouched s t ∧ t.los.latch = s.los.latch

/-- OBSERVED_SWITCH (R56, R57, R80, R108, R116): a HAILING station listed in the observed pending view becomes MEMBER of it,
posts JOINED, requests a CLAIM and drives its marker, its published demands 0 if it is listed new and kept if not; it plans
the switch cycle on that view, the table-complete flag set or cleared with it (`Planned`), with no previous windows where
it held no plan, and where no peer is overdue its entries are those of SwitchSeatsTheMembers and its change list is empty;
otherwise the view becomes the best identity with its other members as best senders; a view more than 8 ahead is
discarded. That the row is taken where a wrap or snap has just begun the cycle, and not after a late restart, is the
model's choice (log 5). -/
def Obligations.ObservedSwitchTaken : Prop :=
  ∀ (s : State) (p : PendingView), s.resetAsserted = false → s.cyt.begun = true → s.mbc.observed.pending = some p →
    (s.mbc.station = .aligning ∨ s.mbc.station = .hailing) →
    ((s.cyt.cycle = p.switchCycle ∨ newer s.cyt.cycle p.switchCycle = true) →
      (s.mbc.station = .hailing → lists p.view.members s.cfg.id = true →
        ∃ t, exec .observedSwitch s = .next t ∧
          t.mbc.station = .member ∧ t.mbc.current = some p.view ∧ t.mbc.pending = none ∧
          t.mbc.observed = Observed.empty ∧
          t.tli.requests.claim = true ∧ t.plu.claimed = false ∧ t.plu.age = 0 ∧ t.los.quiet = true ∧
          t.sli.markerActive = true ∧ t.sli.markerLeft = 8 ∧ t.cyt = s.cyt ∧ Planned s p.view t ∧
          (s.plu.plan = none → t.plu.prev0 = none ∧ t.plu.prev1 = none) ∧
          ((∀ q ∈ s.peers, q.silence < 32) → t.peers = (tableSwitch s p.view).peers ∧
            t.mbc.changes = [] ∧ t.mbc.backoff = none) ∧
          ((∀ q ∈ s.peers, q.silence < 32) → t.evq.records = arrive s.evq.records
            { kind := .joined, cycle := some s.cyt.cycle, station := none,
              detail := some { code := 0, value := p.view.epoch.toNat } }) ∧
          (listsNew p.view.members s.cfg.id = true → t.plu.leg0.published = 0 ∧ t.plu.leg0.pending = none ∧
            t.plu.leg1.published = 0 ∧ t.plu.leg1.pending = none) ∧
          (listsNew p.view.members s.cfg.id = false → t.plu.leg0 = s.plu.leg0 ∧ t.plu.leg1 = s.plu.leg1) ∧
          Untouched s t ∧ t.los.latch = s.los.latch) ∧
      (¬ (s.mbc.station = .hailing ∧ lists p.view.members s.cfg.id = true) →
        exec .observedSwitch s = .next (settle { s with mbc := { s.mbc with observed :=
          { best := some { identity := identityOf p.view.members, epoch := p.view.epoch }
            senders := ((p.view.members.map (·.id)).filter (fun id => !(id == s.cfg.id))).take 16
            pending := none } } }))) ∧
    (¬ (s.cyt.cycle = p.switchCycle ∨ newer s.cyt.cycle p.switchCycle = true) → 8 < ahead p.switchCycle s.cyt.cycle →
      exec .observedSwitch s = .next (settle { s with mbc := { s.mbc with observed :=
        { s.mbc.observed with pending := none } } }))

/-! ### TALK -/

/-- TALK_MARK (R22, R24, R26 to R28, R33), at a receiver and at a sender. With the line idle for TB ticks a mark
begins a frame, which a station without a request receives; after a shorter idle run it is ignored. In a frame a mark
after the sample tick begins the next cell, of the start, key, length, payload and check alike, and in the veto cell
ends it early; one at or before the sample tick is the early mark, a fault. A FAULTED assembler counts cells by marks
and holds the veto from the first length cell on. That an early mark counts as the start of a cell (begins the veto
cell again, where the cell is that one), that a FAULTED receiver counts its cells by marks, and that any mark ends the
veto cell of a FAULTED sender, are the model's reading and choice (log 19), that a mark in the veto cell ends it is that of
log 9, and that a RECEIVING assembler takes a mark by its cell, be the line idle for TB ticks, that of log 25. -/
def Obligations.TalkMarkTaken : Prop :=
  ∀ (s : State) (marked : Rx → State), Runs s → s.tli.prevHigh = true →
    marked = (fun rx => settle { s with tli := { s.tli with idle := 0, prevHigh := false, rx := rx } }) →
    (s.tli.rx.phase = .waiting → s.cfg.fp.tb ≤ s.tli.idle → s.tli.stuck = false → s.tli.requests = Requests.empty →
      exec .talkMark s = .next (marked startedRx)) ∧
    (s.tli.rx.phase = .waiting → s.tli.idle < s.cfg.fp.tb ∨ s.tli.stuck = true →
      exec .talkMark s = .next (marked s.tli.rx)) ∧
    (s.tli.rx.phase = .receiving → s.cfg.fp.tb / 2 < s.tli.rx.tick + 1 →
      (¬ AtVeto s → exec .talkMark s = .next (marked
        { s.tli.rx with cell := s.tli.rx.cell + 1, tick := 1, lastBit := none, vetoing := false })) ∧
      (AtVeto s → exec .talkMark s = .next (marked { s.tli.rx with tick := s.cfg.fp.tb + 1 }))) ∧
    (s.tli.rx.phase = .receiving → s.tli.rx.tick + 1 ≤ s.cfg.fp.tb / 2 →
      (¬ AtVeto s → exec .talkMark s = .next (marked
        { s.tli.rx with phase := .faulted, fault := some .earlyMark, cell := s.tli.rx.cell + 1, tick := 1,
                        lastBit := none, vetoing := false })) ∧
      (AtVeto s → exec .talkMark s = .next (marked
        { s.tli.rx with phase := .faulted, fault := some .earlyMark, tick := 1, lastBit := none,
                        vetoing := false }))) ∧
    (s.tli.rx.phase = .faulted →
      ((s.tli.flight = none ∨ ¬ AtVeto s) → exec .talkMark s = .next (marked
        { s.tli.rx with cell := s.tli.rx.cell + 1, tick := 1, lastBit := none,
                        vetoing := decide (9 ≤ s.tli.rx.cell + 1) })) ∧
      (s.tli.flight ≠ none → AtVeto s → exec .talkMark s = .next (marked
        { s.tli.rx with tick := s.cfg.fp.tb + 1 })))

/-- FRAME_ORIGINATE and the join at another station's mark (R24, R32, R112). With the line idle for TB ticks a mark
of another station, and with it idle for 2 TB the station's own, is a start mark, and the frame in flight becomes
the snapshot of the first request in the order RECAST, LEAVE, HAIL, CLAIM, with the renewal flag clear; the request
stays. A RECAST carries what the build gives (the next statement says what); one with empty content is withdrawn and
the next kind taken, and with no request left the own mark is not made and another's mark is received. That a
station's own start mark follows an idle count standing at 2 TB is the model's reading (log 8). -/
def Obligations.FrameOriginateTaken : Prop :=
  ∀ s : State, Runs s → s.cfg.fp.tb ≤ s.tli.idle → s.tli.rx.phase = .waiting → s.tli.flight = none →
    s.tli.stuck = false →
    (∀ (u : State) (k : FrameKind) (payload : List Byte), Snapshot s u k payload →
      ∃ t, t = settle { u with tli := { u.tli with
          idle := 0, prevHigh := false
          flight := some { kind := k, payload := payload, renewal := false }
          rx := startedRx } } ∧
        (s.tli.prevHigh = true → exec .talkMark s = .next t) ∧
        (2 * s.cfg.fp.tb ≤ s.tli.idle → exec .frameOriginate s = .next t)) ∧
    (∀ u : State, s.tli.requests.recast = true → buildRecast s = (u, none) → u.tli.requests.leave = false →
      u.tli.requests.hail = false → u.tli.requests.claim = false →
      u.tli.requests.recast = false ∧
      (s.tli.prevHigh = true →
        exec .talkMark s = .next (settle { u with tli := { u.tli with
          idle := 0, prevHigh := false, flight := none, rx := startedRx } })) ∧
      (2 * s.cfg.fp.tb ≤ s.tli.idle → exec .frameOriginate s = .next (settle u)))

/-- What a RECAST carries (R92, R93), built on the pending view where one is held and on the current view otherwise:
an epoch one above the base view's, a switch cycle 4 ahead, the station's fingerprint, the member count, and the new
flag exactly on the members that the current view does not list. The member list is the walk of the change list in
arrival order (`Walked`, one case per cell of R92's table): an ADD, or a REFRESH of an unlisted station, is inserted
with its leg count and stays wherever the list built so far has room for it within 16 stations and 16 legs, and is
dropped with HAIL_REFUSED(FULL) where it has none; a REMOVE deletes its station; a REFRESH of a listed one sets the
leg count where the total stays within 16; an ADD of a listed and a REMOVE of an unlisted station leave the change
list. So no REMOVE is listed, every base member without an entry stays with its leg count, and every member comes from
the base or from an entry. A build whose list has the base's stations and leg counts and carries no refresh gives no
RECAST and withdraws the RECAST request; an emptied change list leaves no backoff timer. That a walk which deletes every
member gives a RECAST too is the model's choice (log 38). -/
def Obligations.RecastBuilt : Prop :=
  ∀ (s : State) (base : View), baseView s = some base → (base.members.map (·.id)).Pairwise (· < ·) →
    (s.mbc.changes.map (·.id)).Nodup →
    (∀ (t : State) (r : RecastContent), buildRecast s = (t, some r) →
      r.epoch = base.epoch + 1 ∧ r.switchCycle = s.cyt.cycle + 4 ∧ r.fp = s.cfg.fp ∧ r.count = r.members.length ∧
      (∀ m ∈ r.members, m.new = !listedIn s.mbc.current m.id) ∧
      (r.members.map (·.id)).Pairwise (· < ·) ∧
      (base.members.length ≤ 16 → legTotal base.members ≤ 16 → r.members.length ≤ 16 ∧ legTotal r.members ≤ 16) ∧
      (∀ e ∈ s.mbc.changes, ∀ legs, e.change = .add legs →
        (lists base.members e.id = true → e ∉ t.mbc.changes ∧ lists r.members e.id = true) ∧
        (lists base.members e.id = false →
          (e ∈ t.mbc.changes → ∃ m ∈ r.members, m.id = e.id ∧ m.legs = legs) ∧
          (e ∉ t.mbc.changes → lists r.members e.id = false))) ∧
      (∀ e ∈ s.mbc.changes, ∀ legs, e.change = .refresh legs →
        (lists base.members e.id = true → e ∈ t.mbc.changes ∧ lists r.members e.id = true) ∧
        (lists base.members e.id = false → (e ∈ t.mbc.changes ↔ lists r.members e.id = true))) ∧
      (∀ e ∈ s.mbc.changes, ∀ cause, e.change = .remove cause →
        lists r.members e.id = false ∧ (e ∈ t.mbc.changes ↔ lists base.members e.id = true)) ∧
      (∀ m ∈ base.members, (∀ e ∈ s.mbc.changes, e.id ≠ m.id) → ∃ x ∈ r.members, x.id = m.id ∧ x.legs = m.legs) ∧
      (∀ x ∈ r.members, lists base.members x.id = true ∨ ∃ e ∈ s.mbc.changes, e.id = x.id) ∧
      (∀ e ∈ t.mbc.changes, e ∈ s.mbc.changes) ∧
      t.cfg = s.cfg ∧ t.mbc.current = s.mbc.current ∧ t.mbc.pending = s.mbc.pending ∧ t.tli = s.tli) ∧
    (∀ t : State, buildRecast s = (t, none) →
      t.tli = { s.tli with requests := { s.tli.requests with recast := false } } ∧
      t.mbc.current = s.mbc.current ∧ t.mbc.pending = s.mbc.pending ∧ (∀ e ∈ t.mbc.changes, e ∈ s.mbc.changes)) ∧
    ((∀ e ∈ s.mbc.changes, (∃ legs, e.change = .add legs ∧ lists base.members e.id = true) ∨
        (∃ cause, e.change = .remove cause ∧ lists base.members e.id = false)) →
      ∃ t, buildRecast s = (t, none) ∧ t.mbc.changes = [] ∧ t.mbc.backoff = none) ∧
    ((∃ e ∈ s.mbc.changes, lists base.members e.id = true ∧
        ((∃ legs, e.change = .refresh legs) ∨ ∃ cause, e.change = .remove cause)) →
      ∃ t r, buildRecast s = (t, some r)) ∧
    (∃ ms kept dropped refresh, Walked base.members s.mbc.changes ms kept dropped refresh) ∧
    (∀ ms kept dropped refresh u, Walked base.members s.mbc.changes ms kept dropped refresh →
      u = { s with
        mbc := { s.mbc with changes := kept, backoff := if kept = [] then none else s.mbc.backoff }
        evq := { s.evq with
          records := dropped.foldl (fun q id => arrive q
            { kind := .hailRefused, cycle := if s.mbc.station.running then some s.cyt.cycle else none,
              station := some id, detail := some { code := 1, value := 0 } }) s.evq.records } } →
      (refresh = true ∨ ms.map (fun m => (m.id, m.legs)) ≠ base.members.map (fun m => (m.id, m.legs)) →
        buildRecast s = (u, some
          { epoch := base.epoch + 1, switchCycle := s.cyt.cycle + 4, fp := s.cfg.fp, count := ms.length
            members := ms.map (fun m => { m with new := !listedIn s.mbc.current m.id }) })) ∧
      (refresh = false → ms.map (fun m => (m.id, m.legs)) = base.members.map (fun m => (m.id, m.legs)) →
        buildRecast s =
          ({ u with tli := { u.tli with requests := { u.tli.requests with recast := false } } }, none)))

/-- A lost arbitration (R34): the frame in flight is discarded; the request, the failure count and the assembler stay.
A failure of an own frame (R35, R36, R38, R66): a bit error (a start cell read 1, a cell after the key read otherwise
than driven, a framing fault before the veto cell) and a vetoed own frame, or one FAULTED at the end of its veto cell,
each discard the frame and add one to the failure count; the sixteenth in a row, of whichever form, posts MUTED and
detaches the station (`afterFailure`).
Framing faults (R27, R28, R29): TB low ticks make a RECEIVING assembler FAULTED, a sender's own too, whose failure the bit
error then is. At a receiver TB high ticks before the veto cell, or in FAULTED, end the frame, and the fault flag stays until the assembler next receives (that a long
high in RECEIVING passes to WAITING at once with the flag set, and that the flag stays, is the model's reading, log
29; that RECEIVING counts it in the cell in progress is that of log 25); a veto cell read 0 ends it unaccepted;
nothing else changes. TALK_STUCK (R41): the flag is set, TALK_FAULT posted, the frame followed or sent dropped;
nothing else changes (that a frame in flight is dropped without a failure is the model's reading and choice, log 18). When a veto
cell has ended is the model's reading (log 9). -/
def Obligations.TalkFaultsTaken : Prop :=
  ((∀ (s : State) (f : Flight), Runs s → s.tli.flight = some f → 1 ≤ s.tli.rx.cell → s.tli.rx.cell ≤ 8 →
     s.tli.rx.lastBit = some false → (frameCells f.kind s.cfg.id f.payload)[s.tli.rx.cell]? = some true →
     exec .arbitrationLost s = .next (settle { s with tli := { s.tli with flight := none } })) ∧
  (∀ (s : State) (f : Flight), Runs s → s.tli.flight = some f →
     ((s.tli.rx.cell = 0 ∧ s.tli.rx.lastBit = some true) ∨
      (∃ b, 9 ≤ s.tli.rx.cell ∧ s.tli.rx.cell < vetoCell f.payload.length ∧
        (frameCells f.kind s.cfg.id f.payload)[s.tli.rx.cell]? = some b ∧ s.tli.rx.lastBit = some (!b)) ∨
      (s.tli.rx.phase = .faulted ∧
        (s.tli.rx.cell < vetoCell f.payload.length ∨ s.tli.rx.bits.length < vetoCell f.payload.length) ∧
        (s.tli.rx.fault = some .longLow ∨ s.tli.rx.fault = some .longHigh ∨ s.tli.rx.fault = some .earlyMark)) →
       exec .bitError s = .next (settle (afterFailure s))) ∧
     (s.tli.rx.phase = .faulted → s.tli.rx.cell = vetoCell f.payload.length → s.cfg.fp.tb < s.tli.rx.tick →
       exec .frameVoided s = .next (settle (afterFailure s))) ∧
     (s.tli.rx.phase = .receiving → 14 ≤ s.tli.rx.bits.length →
       s.tli.rx.bits.length = vetoCell (readLength s.tli.rx.bits) + 1 → s.cfg.fp.tb < s.tli.rx.tick →
       s.tli.rx.lastBit = some false →
       exec .frameVoided s = .next (settle (afterFailure { s with tli := { s.tli with rx := Rx.idle } }))) ∧
     ((s.tli.rx.phase = .faulted ∨
        (s.tli.rx.phase = .receiving ∧ s.cfg.fp.tb ≤ s.tli.rx.tick ∧ s.tli.rx.cell ≠ vetoCell f.payload.length)) →
       s.cfg.fp.tb ≤ s.tli.idle →
       exec .longHighFault s = .next (settle (afterFailure { s with tli := { s.tli with rx := { Rx.idle with
         fault := if s.tli.rx.phase = .receiving then some .longHigh else s.tli.rx.fault } } }))))) ∧
  ((∀ s : State, Runs s →
     (s.tli.rx.phase = .receiving → s.cfg.fp.tb ≤ s.tli.stuckCount →
       exec .longLowFault s = .next (settle { s with tli := { s.tli with
         rx := { s.tli.rx with phase := .faulted, fault := some .longLow } } })) ∧
     (s.tli.flight = none →
       ((s.tli.rx.phase = .faulted ∨
           (s.tli.rx.phase = .receiving ∧ s.cfg.fp.tb ≤ s.tli.rx.tick ∧ ¬ AtVeto s)) →
         s.cfg.fp.tb ≤ s.tli.idle →
         exec .longHighFault s = .next (settle { s with tli := { s.tli with rx := { Rx.idle with
           fault := if s.tli.rx.phase = .receiving then some .longHigh else s.tli.rx.fault } } })) ∧
       (s.tli.rx.phase = .receiving → 14 ≤ s.tli.rx.bits.length →
         s.tli.rx.bits.length = vetoCell (readLength s.tli.rx.bits) + 1 → s.cfg.fp.tb < s.tli.rx.tick →
         s.tli.rx.lastBit = some false →
         exec .frameVoided s = .next (settle { s with tli := { s.tli with rx := Rx.idle } })))) ∧
  (∀ s : State, Runs s → 16 * s.cfg.fp.tb ≤ s.tli.stuckCount → s.tli.stuck = false →
     exec .talkStuck s = .next (settle (appended
       { s with tli := { s.tli with stuck := true, rx := { Rx.idle with fault := s.tli.rx.fault }, flight := none } }
       { kind := .talkFault, cycle := some s.cyt.cycle, station := none, detail := none }))))

/-! ### Accepted frames -/

/-- A frame accepted in LISTENING (R30, R49, R72), of any kind: the listen count returns to 0; a sender without an
entry gets one, with PEER_HEARD naming the frame's kind, where the table has room; a sender with one is no longer
silent. That a frame with sender id 0 or 63 is among them is the model's choice (log 34), and when the frame's veto cell
has ended its reading (log 9). -/
def Obligations.ListeningHears : Prop :=
  ∀ (s : State) (k : FrameKind) (sender : Nat) (payload : List Byte) (tableFirst : Bool),
    Complete s k sender payload → s.tli.flight = none → sender ≠ s.cfg.id → s.mbc.station = .listening →
    ∃ t, exec (acceptRow tableFirst k) s = .next t ∧
      t.mbc = { s.mbc with listenCount := 0 } ∧ t.tli = { s.tli with rx := Rx.idle } ∧ t.cyt = s.cyt ∧ t.plu = s.plu ∧
      t.sli = s.sli ∧ Untouched s t ∧
      (findPeer s.peers sender = none → s.peers.length < 20 →
        t.evq.records = arrive s.evq.records
          { kind := .peerHeard, cycle := some s.cyt.cycle, station := some sender,
            detail := some { code := kindCode k, value := 0 } } ∧
        ∃ p, findPeer t.peers sender = some p ∧ p.silence = 0 ∧ p.kind = .heard ∧
          (k = .hail → p.legs = some (decodeHail payload).legs ∧
            p.verdict = (if (decodeHail payload).fp = s.cfg.fp then .isMatch else .mismatch)) ∧
          (k = .claim → p.lastEpoch = some (decodeClaim payload).epoch ∧
            p.leg0 = { current := 0, valid := false,
                       pending := some { demand := (decodeClaim payload).demand0,
                                         applyCycle := (decodeClaim payload).cycle + 2 } })) ∧
      (∀ p, findPeer s.peers sender = some p → p.kind ≠ .lost →
        t.evq.records = s.evq.records ∧ ∃ q, findPeer t.peers sender = some q ∧ q.silence = 0 ∧ q.kind = p.kind)

/-- An accepted frame of another station that bears the station's own id (R40, R66), of any kind: DUPLICATE_ID with
the frame's kind, no delivery, and DETACHED with reason DUPLICATE_ID. The station's own frame (R36, R39), of any kind and
in any state, makes the failure count 0, clears its kind's request unless the frame was renewed, and ends the frame in
flight. In ALIGNING and HAILING nothing else changes; nor for an own HAIL or LEAVE in MEMBER, nor for an own HAIL, LEAVE or
CLAIM in LEAVING (R59, R94, R106, R107, R113); in LISTENING the listen count is 0 (R49). The own CLAIM in MEMBER (R101,
R113, R142): its demands become the published pending values with the apply cycle 2 after its cycle field, the CLAIM age
is 0, the claimed flag set, the quiet hold out of force; the published demands and everything else stay. The own RECAST in
LEAVING (R94 to R96): of a station that its current view lists, it becomes the pending view where it passes the four tests
(`recastTest`) and is rejected by the first it fails, else nothing; the own RECAST in MEMBER is RecastRestartsBackoff's.
When the frame's veto cell has ended is the model's reading (log 9). -/
def Obligations.OwnIdFramesTaken : Prop :=
  (∀ (s : State) (k : FrameKind) (payload : List Byte) (tableFirst : Bool),
    Complete s k s.cfg.id payload → s.tli.flight = none →
    exec (acceptRow tableFirst k) s = .next (settle (enterDetached
      (appended s { kind := .duplicateId, cycle := some s.cyt.cycle, station := some s.cfg.id,
                    detail := some { code := kindCode k, value := 0 } })
      .duplicateId))) ∧
  (∀ (s q : State) (k : FrameKind) (payload : List Byte) (f : Flight) (tableFirst : Bool),
    Complete s k s.cfg.id payload → s.tli.flight = some f → f.kind = k →
    q = { s with tli := { s.tli with
      rx := Rx.idle, failures := 0, flight := none
      requests :=
        { recast := s.tli.requests.recast && (f.renewal || !(k == .recast))
          leave := s.tli.requests.leave && (f.renewal || !(k == .leave))
          hail := s.tli.requests.hail && (f.renewal || !(k == .hail))
          claim := s.tli.requests.claim && (f.renewal || !(k == .claim)) } } } →
    (s.mbc.station = .listening →
      exec (acceptRow tableFirst k) s = .next (settle { q with mbc := { q.mbc with listenCount := 0 } })) ∧
    ((s.mbc.station.following = true ∨ (s.mbc.station = .member ∧ (k = .hail ∨ k = .leave)) ∨
        (s.mbc.station = .leaving ∧ k ≠ .recast)) →
      exec (acceptRow tableFirst k) s = .next (settle q)) ∧
    (∀ c, k = .claim → decodeClaim payload = c → s.mbc.station = .member → InViews s s.cfg.id → InStep s s.cfg.id c →
      ∃ t, exec (acceptRow tableFirst k) s = .next t ∧
        t = settle { q with
          plu := { q.plu with
            leg0 := { q.plu.leg0 with pending := some { demand := c.demand0, applyCycle := c.cycle + 2 } }
            leg1 := if c.demand1.isSome then
                { q.plu.leg1 with pending := some { demand := c.demand1.getD 0, applyCycle := c.cycle + 2 } }
              else q.plu.leg1
            age := 0
            claimed := true } } ∧
        t.los.quiet = false) ∧
    (∀ r v, k = .recast → decodeRecast payload = r → s.mbc.station = .leaving → s.mbc.current = some v →
      (lists v.members s.cfg.id = false → exec (acceptRow tableFirst k) s = .next (settle q)) ∧
      (lists v.members s.cfg.id = true →
        ((∀ n, n ≤ 3 → recastTest s r payload.length n) →
          exec (acceptRow tableFirst k) s = .next (settle { q with mbc := { q.mbc with
            pending := some { view := { epoch := r.epoch, members := r.members, fp := r.fp }
                              switchCycle := r.switchCycle } } })) ∧
        (∀ n, n ≤ 3 → ¬ recastTest s r payload.length n → (∀ m, m < n → recastTest s r payload.length m) →
          exec (acceptRow tableFirst k) s = .next (settle (appended q
            { kind := .recastRejected, cycle := some s.cyt.cycle, station := some s.cfg.id
              detail := some { code := n, value := r.epoch.toNat } }))))))

/-- A CLAIM in MEMBER of another station that the current or the pending view lists (R71, R78, R101, R63). In step
(`InStep`: the count test, and, of a sender the current view lists, an epoch newer than no view or not newer than the
pending view's), its demand waits in the sender's entry for its apply cycle and nothing else changes; out of step,
OUT_OF_STEP is posted and the station enters ALIGNING with its published demands kept, the CLAIM recorded all the same.
`Heard` says what the Peer Table makes of it, with a sender that has no entry. Which of the table and the controller
comes first is an operand (log 3); that the table, first, takes it as in MEMBER is the model's choice (log 40). When the
frame's veto cell has ended is the model's reading (log 9). -/
def Obligations.ClaimOfMemberTaken : Prop :=
  ∀ (s : State) (c : ClaimContent) (payload : List Byte) (sender : Nat) (v : View) (tableFirst : Bool),
    Complete s .claim sender payload → decodeClaim payload = c → s.tli.flight = none → sender ≠ s.cfg.id →
    s.mbc.station = .member → s.mbc.current = some v → InViews s sender → TableLaw s →
    (InStep s sender c → (∀ p, findPeer s.peers sender = some p → p.kind ≠ .lost) →
      ∃ t posted, exec (.claimAccepted tableFirst) s = .next t ∧
        Heard s s.cyt.cycle .claim sender payload t.peers posted ∧
        t = settle { s with
          tli := { s.tli with rx := Rx.idle }
          peers := t.peers
          evq := { s.evq with records := posted.foldl arrive s.evq.records } }) ∧
    (¬ InStep s sender c →
      ∃ t, exec (.claimAccepted tableFirst) s = .next t ∧
        t.mbc.station = .aligning ∧ t.mbc.alignCount = 0 ∧ t.mbc.current = none ∧ t.mbc.pending = none ∧
        t.mbc.changes = [] ∧ t.mbc.reason = s.mbc.reason ∧ t.cyt = { s.cyt with adopted := false, lockCount := 0 } ∧
        t.plu.plan = none ∧ t.plu.leg0 = s.plu.leg0 ∧ t.plu.leg1 = s.plu.leg1 ∧ t.plu.lease = s.plu.lease ∧
        t.tli.requests = Requests.empty ∧ (∀ q ∈ t.peers, q.kind = .heard ∧ q.leg0.valid = false ∧ q.leg1.valid = false) ∧
        Untouched s t ∧
        (tableFirst = true → ∃ seats posted, Heard s s.cyt.cycle .claim sender payload seats posted ∧
          t.peers = seats.map demoted ∧
          t.evq.records = arrive (posted.foldl arrive s.evq.records)
            { kind := .outOfStep, cycle := some s.cyt.cycle, station := some sender, detail := none }) ∧
        (tableFirst = false → ∃ posted,
          Heard { s with peers := s.peers.map demoted, mbc := t.mbc } s.cyt.cycle .claim sender payload t.peers posted ∧
          t.evq.records = posted.foldl arrive (arrive s.evq.records
            { kind := .outOfStep, cycle := some s.cyt.cycle, station := some sender, detail := none })))

/-- A CLAIM heard by a follower that holds no best identity (R16, R52, R71 to R73, R78, R106): its identity and epoch
become the best, its sender the best sender, and its cycle field, plus 1 if a boundary passed during the frame, the cycle
number; an ALIGNING station whose lock count stands at 4 enters HAILING and requests a HAIL. The Peer Table takes the
CLAIM (`Heard`): the sender's silence is 0 and its demand waits for its apply cycle, a sender without an entry gets one,
and a full table makes room or posts TABLE_FULL. That sender ids 0 and 63 are taken like any other is the model's choice
(log 34), and when the frame's veto cell has ended its reading (log 9). `begun` is the model's own field (log 5). -/
def Obligations.FollowerAdoptsClaim : Prop :=
  ∀ (s : State) (c : ClaimContent) (payload : List Byte) (sender : Nat) (tableFirst : Bool),
    Complete s .claim sender payload → decodeClaim payload = c → s.tli.flight = none → sender ≠ s.cfg.id →
    s.mbc.station.following = true → s.mbc.observed = Observed.empty → TableLaw s →
    ∃ t posted, exec (.claimAccepted tableFirst) s = .next t ∧
      t.cyt = { s.cyt with
        cycle := if s.tli.rx.boundary then c.cycle + 1 else c.cycle, adopted := true, begun := false } ∧
      t.mbc.observed =
        { best := some { identity := c.identity, epoch := c.epoch }, senders := [sender], pending := none } ∧
      (s.mbc.station = .aligning → s.cyt.lockCount = 4 →
        t.mbc.station = .hailing ∧ t.mbc.hailCount = 1 ∧ t.mbc.hailInterval = 0 ∧ t.tli.requests.hail = true) ∧
      (¬ (s.mbc.station = .aligning ∧ s.cyt.lockCount = 4) →
        t.mbc.station = s.mbc.station ∧ t.tli.requests = s.tli.requests) ∧
      t.plu = s.plu ∧ t.sli = s.sli ∧ Untouched s t ∧
      Heard s s.cyt.cycle .claim sender payload t.peers posted ∧
      t.evq.records = posted.foldl arrive s.evq.records

/-- A HAIL heard in MEMBER (R71, R87, R88, R91): with another fingerprint HAIL_REFUSED(MISMATCH) is posted and
nothing placed; with the own one and room, an ADD, or a REFRESH for a listed sender, is placed in an empty change
list, and the lowest id of the view requests a RECAST at once; without room HAIL_REFUSED(FULL) is posted. The
sender's entry takes leg count and verdict. A LEAVE heard in MEMBER (R89, R91): of a listed sender, a REMOVE with
cause LEAVE is placed; of another sender, nothing. That sender ids 0 and 63 are taken like any other is the model's choice
(log 34), and when the frame's veto cell has ended its reading (log 9). -/
def Obligations.HailAndLeaveTakenByMember : Prop :=
  (∀ (s : State) (h : HailContent) (payload : List Byte) (sender : Nat) (p : Peer) (v : View) (tableFirst : Bool),
     Complete s .hail sender payload → decodeHail payload = h → s.tli.flight = none → sender ≠ s.cfg.id →
     s.mbc.station = .member → s.mbc.current = some v → s.mbc.pending = none → s.mbc.changes = [] →
     findPeer s.peers sender = some p → p.kind ≠ .lost →
     ∃ t, exec (.hailAccepted tableFirst) s = .next t ∧
       t.peers = updatePeer s.peers sender (fun q => { q with
         silence := 0, legs := some h.legs, verdict := if h.fp = s.cfg.fp then .isMatch else .mismatch }) ∧
       (h.fp ≠ s.cfg.fp →
         t.mbc = s.mbc ∧ t.tli = { s.tli with rx := Rx.idle } ∧
         t.evq.records = arrive s.evq.records
           { kind := .hailRefused, cycle := some s.cyt.cycle, station := some sender,
             detail := some { code := 0, value := 0 } }) ∧
       (h.fp = s.cfg.fp →
         fits (if lists v.members sender then setLegs v.members sender h.legs
               else insertMember v.members { id := sender, legs := h.legs, new := false }) = true →
         t.evq.records = s.evq.records ∧
         t.mbc.changes = [{ id := sender
                            change := if lists v.members sender then .refresh h.legs else .add h.legs
                            trigger := s.cyt.cycle }] ∧
         ((∀ m ∈ v.members, s.cfg.id ≤ m.id) → t.tli.requests.recast = true ∧ t.mbc.backoff = none)) ∧
       (h.fp = s.cfg.fp →
         fits (if lists v.members sender then setLegs v.members sender h.legs
               else insertMember v.members { id := sender, legs := h.legs, new := false }) = false →
         t.mbc = s.mbc ∧
         t.evq.records = arrive s.evq.records
           { kind := .hailRefused, cycle := some s.cyt.cycle, station := some sender,
             detail := some { code := 1, value := 0 } }) ∧
       t.cyt = s.cyt ∧ t.plu = s.plu ∧ t.sli = s.sli ∧ Untouched s t) ∧
  (∀ (s : State) (payload : List Byte) (sender : Nat) (p : Peer) (v : View) (tableFirst : Bool),
     Complete s .leave sender payload → s.tli.flight = none → sender ≠ s.cfg.id →
     s.mbc.station = .member → s.mbc.current = some v → s.mbc.changes = [] →
     findPeer s.peers sender = some p → p.kind ≠ .lost →
     ∃ t, exec (.leaveAccepted tableFirst) s = .next t ∧
       t.peers = updatePeer s.peers sender (fun q => { q with silence := 0 }) ∧
       (lists v.members sender = true →
         t.mbc.changes = [{ id := sender, change := .remove .leave, trigger := s.cyt.cycle }] ∧
         t.mbc.current = s.mbc.current ∧ t.mbc.pending = s.mbc.pending) ∧
       (lists v.members sender = false → t.mbc = s.mbc ∧ t.tli = { s.tli with rx := Rx.idle }) ∧
       t.evq.records = s.evq.records ∧ t.cyt = s.cyt ∧ t.plu = s.plu ∧ t.sli = s.sli ∧ Untouched s t)

/-- A RECAST heard from a listed member (R71, R94 to R96): one that passes the four tests becomes the pending view, and in
MEMBER the changes it covers (an ADD or REFRESH of a station it lists, a REMOVE of one it does not) leave the list;
one that fails a test is rejected with the first failing test (MALFORMED 0, MISMATCH 1, SUPERSEDED 2, STALE 3, spelled
by `recastTest`) and its epoch as detail, and both views stay. Passed or rejected, the sender's entry takes silence 0 and
the leg count of its own member byte, if it has one, and no other entry changes; which of several bytes counts in a
malformed RECAST is the model's choice (log 23). When the frame's veto cell has ended is the model's reading (log 9). -/
def Obligations.RecastOfMemberTaken : Prop :=
  ∀ (s : State) (r : RecastContent) (payload : List Byte) (sender : Nat) (p : Peer) (v : View) (tableFirst : Bool),
    Complete s .recast sender payload → decodeRecast payload = r → s.tli.flight = none → sender ≠ s.cfg.id →
    s.mbc.station.inGroup = true → s.mbc.current = some v → lists v.members sender = true →
    findPeer s.peers sender = some p → p.kind ≠ .lost →
    ∃ t, exec (.recastAccepted tableFirst) s = .next t ∧
      ((∀ n, n ≤ 3 → recastTest s r payload.length n) →
        t.mbc.pending = some { view := { epoch := r.epoch, members := r.members, fp := r.fp },
                               switchCycle := r.switchCycle } ∧
        t.evq.records = s.evq.records ∧
        (s.mbc.station = .member → t.mbc.changes.Sublist s.mbc.changes ∧
          ∀ e, e ∈ t.mbc.changes ↔ e ∈ s.mbc.changes ∧ ¬ CoveredBy r.members e) ∧
        (s.mbc.station = .leaving → t.mbc.changes = s.mbc.changes)) ∧
      (∀ n, n ≤ 3 → ¬ recastTest s r payload.length n → (∀ m, m < n → recastTest s r payload.length m) →
        t.mbc.pending = s.mbc.pending ∧ t.mbc.changes = s.mbc.changes ∧
        t.evq.records = arrive s.evq.records
          { kind := .recastRejected, cycle := some s.cyt.cycle, station := some sender,
            detail := some { code := n, value := r.epoch.toNat } }) ∧
      t.peers = updatePeer s.peers sender
        (fun q => { q with silence := 0, legs := recastLegs r.members sender q.legs }) ∧
      t.mbc.current = s.mbc.current ∧ t.mbc.station = s.mbc.station ∧ t.cyt = s.cyt ∧ t.plu = s.plu ∧ t.sli = s.sli ∧ Untouched s t

/-- Placing in the change list, whatever it holds (R75, R87 to R92, with `Placed`, `RankIs`, `Walked` and `RoomFor`
spelled from those rules). A LEAVE of a listed station places a REMOVE with cause LEAVE, the loss of a peer one with cause
LOST, a HAIL with the own fingerprint an ADD, or a REFRESH of a station that the current view lists, where the projected
view (the pending view if held, else the current one, with every other station's entries walked) has room with it, and
HAIL_REFUSED(FULL) is posted where it has none. The entry replaces one of the same station, else is appended, else, in a
full list, a REMOVE displaces the oldest ADD or REFRESH with HAIL_REFUSED(FULL) for that station, and an ADD or REFRESH is
refused. A list that was empty sets the backoff timer: rank 0 requests a RECAST at once, a higher rank waits twice its rank.
A list full of REMOVEs is left to log 24. That PEER_LOST arrives before the HAIL_REFUSED of a REMOVE that displaces is the
model's choice (log 10), and so is that sender ids 0 and 63 are taken like any other (log 34). When the frame's veto cell has ended is the model's reading (log 9). -/
def Obligations.ChangesPlaced : Prop :=
  (∀ (s : State) (k : FrameKind) (payload : List Byte) (sender : Nat) (p : Peer) (v base : View) (tableFirst : Bool),
    Complete s k sender payload → s.tli.flight = none → sender ≠ s.cfg.id → s.mbc.station = .member →
    s.mbc.current = some v → findPeer s.peers sender = some p → p.kind ≠ .lost →
    base = (match s.mbc.pending with
      | some w => w.view
      | none => v) →
    (base.members.map (·.id)).Pairwise (· < ·) →
    (k = .leave → lists v.members sender = true →
      (s.mbc.changes.length < 16 ∨ ∃ x ∈ s.mbc.changes, x.id = sender ∨ ∀ c, x.change ≠ .remove c) →
      ∃ t, exec (.leaveAccepted tableFirst) s = .next t ∧ t.cyt = s.cyt ∧ t.plu = s.plu ∧ t.sli = s.sli ∧ Untouched s t ∧
        t.peers = updatePeer s.peers sender (fun q => { q with silence := 0 }) ∧
        t.tli = { s.tli with rx := Rx.idle, requests := t.tli.requests } ∧
        PlacedIn s.evq.records s t { id := sender, change := .remove .leave, trigger := s.cyt.cycle }) ∧
    (∀ (h : HailContent) (ms : List Member) (kept : List ChangeEntry) (dropped : List Nat) (refresh : Bool),
      k = .hail → decodeHail payload = h → h.fp = s.cfg.fp →
      Walked base.members (s.mbc.changes.filter (fun e => !(e.id == sender))) ms kept dropped refresh →
      ∃ t, exec (.hailAccepted tableFirst) s = .next t ∧ t.cyt = s.cyt ∧ t.plu = s.plu ∧ t.sli = s.sli ∧ Untouched s t ∧
        t.peers = updatePeer s.peers sender (fun q => { q with silence := 0, legs := some h.legs, verdict := .isMatch }) ∧
        t.tli = { s.tli with rx := Rx.idle, requests := t.tli.requests } ∧
        (RoomFor ms sender h.legs (lists v.members sender) →
          PlacedIn s.evq.records s t
            { id := sender, change := if lists v.members sender then .refresh h.legs else .add h.legs
              trigger := s.cyt.cycle }) ∧
        (¬ RoomFor ms sender h.legs (lists v.members sender) →
          t.mbc = s.mbc ∧ t.tli = { s.tli with rx := Rx.idle } ∧
          t.evq.records = arrive s.evq.records
            { kind := .hailRefused, cycle := some s.cyt.cycle, station := some sender,
              detail := some { code := 1, value := 0 } }))) ∧
  (∀ (s : State) (id : Nat) (p : Peer) (v : View), s.resetAsserted = false → s.mbc.station = .member →
    s.mbc.current = some v → findPeer s.peers id = some p → p.kind = .member → 32 ≤ p.silence →
    (s.mbc.changes.length < 16 ∨ ∃ x ∈ s.mbc.changes, x.id = id ∨ ∀ c, x.change ≠ .remove c) →
    ∃ t, exec (.peerLost id) s = .next t ∧ t.cyt = s.cyt ∧ t.plu = s.plu ∧ t.sli = s.sli ∧ Untouched s t ∧
      t.peers = updatePeer s.peers id (fun q => { q with kind := .lost }) ∧
      t.tli = { s.tli with requests := t.tli.requests, flight := t.tli.flight } ∧
      PlacedIn (arrive s.evq.records
          { kind := .peerLost, cycle := some s.cyt.cycle, station := some id,
            detail := some { code := p.silence, value := 0 } }) s t
        { id := id, change := .remove .lost, trigger := s.cyt.cycle })

/-- A RECAST accepted in MEMBER from a listed station, the station's own on loopback included (R36, R91, R93 to R97). One
that passes the four tests becomes the pending view and the entries it covers leave the change list; one that fails changes
neither. Then the backoff timer is handled again: an empty change list leaves it absent, and one that still holds entries
sets it afresh at the rank of that moment, with a RECAST request at once at rank 0. One that passes posts nothing, and one
that fails posts RECAST_REJECTED, the first failing test and the epoch as its detail. The station's own RECAST has first
cleared its failure count, its frame and, unless renewed, its request, and moves no entry of the Peer Table; another
sender's entry takes silence 0 and the leg count of its own member byte (R71), of which the first counts where it has
several (log 23). When the frame's veto cell has ended is the model's reading (log 9). -/
def Obligations.RecastRestartsBackoff : Prop :=
  ∀ (s : State) (r : RecastContent) (payload : List Byte) (sender : Nat) (v : View) (tableFirst : Bool) (settled : TalkLine)
    (seats : List Peer),
    Complete s .recast sender payload → decodeRecast payload = r → s.mbc.station = .member → s.mbc.current = some v →
    lists v.members sender = true →
    ((s.tli.flight = none ∧ sender ≠ s.cfg.id ∧ (∃ p, findPeer s.peers sender = some p ∧ p.kind ≠ .lost) ∧
        seats = updatePeer s.peers sender
          (fun q => { q with silence := 0, legs := recastLegs r.members sender q.legs }) ∧
        settled = { s.tli with rx := Rx.idle }) ∨
     (∃ f, s.tli.flight = some f ∧ f.kind = .recast ∧ sender = s.cfg.id ∧ seats = s.peers ∧
        settled = { s.tli with
          rx := Rx.idle, failures := 0, flight := none
          requests := { s.tli.requests with recast := s.tli.requests.recast && f.renewal } })) →
    ∃ t, exec (.recastAccepted tableFirst) s = .next t ∧
      t.mbc = { s.mbc with pending := t.mbc.pending, changes := t.mbc.changes, backoff := t.mbc.backoff } ∧
      ((∀ n, n ≤ 3 → recastTest s r payload.length n) →
        t.mbc.pending = some { view := { epoch := r.epoch, members := r.members, fp := r.fp }
                               switchCycle := r.switchCycle } ∧
        t.mbc.changes.Sublist s.mbc.changes ∧
        (∀ e, e ∈ t.mbc.changes ↔ e ∈ s.mbc.changes ∧ ¬ CoveredBy r.members e) ∧ t.evq.records = s.evq.records) ∧
      (∀ n, n ≤ 3 → ¬ recastTest s r payload.length n → (∀ m, m < n → recastTest s r payload.length m) →
        t.mbc.pending = s.mbc.pending ∧ t.mbc.changes = s.mbc.changes ∧
        t.evq.records = arrive s.evq.records
          { kind := .recastRejected, cycle := some s.cyt.cycle, station := some sender,
            detail := some { code := n, value := r.epoch.toNat } }) ∧
      (t.mbc.changes = [] → t.mbc.backoff = none ∧ t.tli = settled) ∧
      (t.mbc.changes ≠ [] → BackoffSet settled.requests t ∧ t.tli = { settled with requests := t.tli.requests }) ∧
      t.peers = seats ∧ t.cyt = s.cyt ∧ t.plu = s.plu ∧ t.sli = s.sli ∧ Untouched s t

/-- A foreign CLAIM or RECAST in MEMBER (R64, R71 to R73, R83, R103, R104), from a sender that neither view lists. A
malformed RECAST is heard by the Peer Table and not compared: no FOREIGN_VIEW, no flag, no view and no state changes.
Where the frame's view ranks above the station's own (size, anchor, digest), FOREIGN_VIEW(lost) is posted and the station
enters ALIGNING with its published demands 0 and its views, plan and requests gone. Where it does not, the station stays
as it is, and FOREIGN_VIEW(won) is posted once for the sender: with its foreign flag set no more, and one that the table
has just entered is flagged too (log 27). `Heard` says what the Peer Table makes of the frame in each case, of a sender
without an entry in a full table too; whether it comes before or after the comparison is an operand (log 3), and which
member byte a malformed RECAST counts for its sender is the model's choice (log 23), and so is that sender ids 0 and 63 are
taken like any other (log 34). When the frame's veto cell has ended is the model's reading (log 9). -/
def Obligations.ForeignFramesTaken : Prop :=
  ∀ (s : State) (k : FrameKind) (payload : List Byte) (sender : Nat) (v : View) (tableFirst : Bool),
    Complete s k sender payload → s.tli.flight = none → sender ≠ s.cfg.id → s.mbc.station = .member →
    s.mbc.current = some v → ¬ InViews s sender → TableLaw s →
    (∀ p, findPeer s.peers sender = some p → p.kind ≠ .lost) →
    (k = .recast → ¬ recastTest s (decodeRecast payload) payload.length 0 →
      ∃ t posted, exec (.recastAccepted tableFirst) s = .next t ∧
        Heard s s.cyt.cycle k sender payload t.peers posted ∧
        t = settle { s with
          tli := { s.tli with rx := Rx.idle }
          peers := t.peers
          evq := { s.evq with records := posted.foldl arrive s.evq.records } }) ∧
    (∀ i : Identity,
      ((k = .claim ∧ i = (decodeClaim payload).identity) ∨
       (k = .recast ∧ recastTest s (decodeRecast payload) payload.length 0 ∧
         i = identityOf (decodeRecast payload).members)) →
      (ranksAbove i (identityOf v.members) = true →
        ∃ t, exec (acceptRow tableFirst k) s = .next t ∧
          t.mbc.station = .aligning ∧ t.mbc.alignCount = 0 ∧ t.mbc.current = none ∧ t.mbc.pending = none ∧
          t.mbc.changes = [] ∧ t.mbc.backoff = none ∧ t.mbc.reason = s.mbc.reason ∧
          t.cyt = { s.cyt with adopted := false, lockCount := 0 } ∧ t.plu.plan = none ∧
          t.plu.leg0 = { s.plu.leg0 with published := 0, pending := none } ∧
          t.plu.leg1 = { s.plu.leg1 with published := 0, pending := none } ∧ t.plu.lease = s.plu.lease ∧
          t.sli = { s.sli with markerActive := false, markerLeft := 0 } ∧ t.tli.requests = Requests.empty ∧
          (∀ q ∈ t.peers, q.kind = .heard ∧ q.leg0.valid = false ∧ q.leg1.valid = false) ∧ Untouched s t ∧
          (tableFirst = true → ∃ seats posted, Heard s s.cyt.cycle k sender payload seats posted ∧
            t.peers = seats.map demoted ∧
            t.evq.records = arrive (posted.foldl arrive s.evq.records) (about s.cyt.cycle .foreignView sender 0)) ∧
          (tableFirst = false → ∃ posted,
            Heard { s with peers := s.peers.map demoted, mbc := t.mbc } s.cyt.cycle k sender payload t.peers posted ∧
            t.evq.records = posted.foldl arrive (arrive s.evq.records (about s.cyt.cycle .foreignView sender 0)))) ∧
      (ranksAbove i (identityOf v.members) = false →
        ∃ t seats posted won, exec (acceptRow tableFirst k) s = .next t ∧
          Heard s s.cyt.cycle k sender payload seats posted ∧
          ((∃ p, findPeer s.peers sender = some p ∧ p.foreign = true) → won = []) ∧
          ((∀ p, findPeer s.peers sender = some p → p.foreign = false) →
            won = [about s.cyt.cycle .foreignView sender 1]) ∧
          t = settle { s with
            tli := { s.tli with rx := Rx.idle }
            peers := updatePeer seats sender (fun q => { q with foreign := true })
            evq := { s.evq with
              records := (if tableFirst then posted ++ won else won ++ posted).foldl arrive s.evq.records } }))

/-- How a follower with a best identity judges frames (R16, R105, R106, R107). A CLAIM: of the best identity, its epoch
counts if newer and its sender joins the 16 lowest best senders; else of a best sender with a newer epoch, it replaces
the best identity and drops an observed pending view that is not newer; else of a higher view, it replaces all; each of
these takes the cycle number and sets the adopted flag, and an ALIGNING station with lock enters HAILING; else nothing
of the follower changes. A RECAST of a best sender that is well formed, of the own fingerprint, newer than the observed
epoch, with the adopted flag set and a switch cycle 2 to 8 ahead becomes the observed pending view; any other RECAST
changes nothing of the follower. Whatever it makes of the frame, the Peer Table takes it (`Heard`), with the observed
pending view that stands when it does, in the order of the operand (log 3); which member byte a malformed RECAST counts
for its sender (log 23), that of two epochs 32768 apart the best identity's is the observed epoch (log 20), and that sender
ids 0 and 63 are taken like any other (log 34) are the model's choices. When the frame's veto cell has ended is the model's reading (log 9). `begun` is
the model's own field (log 5). -/
def Obligations.FollowerJudgesFrames : Prop :=
  ∀ (s : State) (payload : List Byte) (sender : Nat) (b : BestIdentity) (tableFirst : Bool),
    s.tli.flight = none → sender ≠ s.cfg.id → s.mbc.station.following = true → s.mbc.observed.best = some b →
    TableLaw s →
    (∀ c : ClaimContent, Complete s .claim sender payload → decodeClaim payload = c →
      ∃ t posted, exec (.claimAccepted tableFirst) s = .next t ∧ t.plu = s.plu ∧ t.sli = s.sli ∧ Untouched s t ∧
        Heard { s with mbc := if tableFirst then s.mbc else t.mbc } s.cyt.cycle .claim sender payload t.peers posted ∧
        t.evq.records = posted.foldl arrive s.evq.records ∧
        (c.identity = b.identity →
          t.mbc.observed.best = some { b with epoch := if newer c.epoch b.epoch = true then c.epoch else b.epoch } ∧
          (s.mbc.observed.senders.Pairwise (· < ·) → s.mbc.observed.senders.length ≤ 16 →
            LowestSixteen s.mbc.observed.senders sender t.mbc.observed.senders) ∧
          t.mbc.observed.pending = s.mbc.observed.pending) ∧
        (c.identity ≠ b.identity → sender ∈ s.mbc.observed.senders → newer c.epoch b.epoch = true →
          t.mbc.observed.best = some { identity := c.identity, epoch := c.epoch } ∧
          t.mbc.observed.senders = [sender] ∧
          (s.mbc.observed.pending = none → t.mbc.observed.pending = none) ∧
          (∀ w, s.mbc.observed.pending = some w →
            t.mbc.observed.pending = if newer w.view.epoch c.epoch = true then some w else none)) ∧
        (c.identity ≠ b.identity → ¬ (sender ∈ s.mbc.observed.senders ∧ newer c.epoch b.epoch = true) →
          (ranksAbove c.identity b.identity = true →
            t.mbc.observed = { best := some { identity := c.identity, epoch := c.epoch }, senders := [sender]
                               pending := none }) ∧
          (ranksAbove c.identity b.identity = false →
            t.mbc = s.mbc ∧ t.cyt = s.cyt ∧ t.tli = { s.tli with rx := Rx.idle })) ∧
        ((c.identity = b.identity ∨ (sender ∈ s.mbc.observed.senders ∧ newer c.epoch b.epoch = true) ∨
            ranksAbove c.identity b.identity = true) →
          t.cyt = { s.cyt with
        cycle := if s.tli.rx.boundary then c.cycle + 1 else c.cycle, adopted := true, begun := false } ∧
          (s.mbc.station = .aligning → s.cyt.lockCount = 4 →
            t.mbc.station = .hailing ∧ t.mbc.hailCount = 1 ∧ t.mbc.hailInterval = 0 ∧ t.tli.requests.hail = true) ∧
          (¬ (s.mbc.station = .aligning ∧ s.cyt.lockCount = 4) →
            t.mbc.station = s.mbc.station ∧ t.tli.requests = s.tli.requests))) ∧
    (∀ (r : RecastContent) (e : U16), Complete s .recast sender payload → decodeRecast payload = r →
      ObservedEpochIs s.mbc.observed e →
      ∃ t posted, exec (.recastAccepted tableFirst) s = .next t ∧ t.cyt = s.cyt ∧ t.plu = s.plu ∧ t.sli = s.sli ∧
        t.tli = { s.tli with rx := Rx.idle } ∧ Untouched s t ∧
        Heard { s with mbc := if tableFirst then s.mbc else t.mbc } s.cyt.cycle .recast sender payload t.peers posted ∧
        t.evq.records = posted.foldl arrive s.evq.records ∧
        (sender ∈ s.mbc.observed.senders ∧ recastTest s r payload.length 0 ∧ r.fp = s.cfg.fp ∧
            newer r.epoch e = true ∧ s.cyt.adopted = true ∧ recastTest s r payload.length 3 →
          t.mbc = { s.mbc with
            observed := { s.mbc.observed with
              pending := some { view := { epoch := r.epoch, members := r.members, fp := r.fp }
                                switchCycle := r.switchCycle } } }) ∧
        (¬ (sender ∈ s.mbc.observed.senders ∧ recastTest s r payload.length 0 ∧ r.fp = s.cfg.fp ∧
            newer r.epoch e = true ∧ s.cyt.adopted = true ∧ recastTest s r payload.length 3) →
          t.mbc = s.mbc))

/-- What the Peer Table does with every frame of another station, in every state in which frames are delivered, a LOST
sender's and a stranger's to a full table among them (R30, R71 to R73, R76, R78, R91), with what the Membership Controller
makes of it beside it (`Judged`). `Heard` spells the table: a LOST peer, with no pending view held or one that lists it,
returns to MEMBER with silence 0 and PEER_RETURNED carrying the silence it held, and in MEMBER a REMOVE with cause LOST is
withdrawn, an emptied list leaving no backoff; with a pending view that does not list it, it stays LOST with silence 0 and
no record. In a full table the HEARD entry not held (R73: by the pending view, by a change-list entry, by the observed
pending view) with the largest silence, the higher id among equals, goes for the stranger's new entry with PEER_HEARD;
where there is none, the table stays and TABLE_FULL is posted. A follower's controller makes nothing of a HAIL, a LEAVE, a
CLAIM of a lower view or a RECAST that fails a test (R106, R107). Each is judged on the part as the other block leaves it,
in the order of the operand (log 3). A CLAIM out of step and a foreign frame are ClaimOfMemberTaken's and
ForeignFramesTaken's, and a LEAVE to a list full of other stations' REMOVEs is left to log 24. Which member byte a
malformed RECAST counts is log 23's, the observed epoch of two epochs 32768 apart log 20's, sender ids 0 and 63 are log
34's, and when the veto cell has ended is the model's reading (log 9). -/
def Obligations.TableHearsLostAndFull : Prop :=
  ∀ (s u : State) (k : FrameKind) (payload : List Byte) (sender : Nat) (tableFirst : Bool),
    Complete s k sender payload → s.tli.flight = none → sender ≠ s.cfg.id → TableLaw s →
    s.mbc.current.isSome = s.mbc.station.inGroup → u = { s with tli := { s.tli with rx := Rx.idle } } →
    (s.mbc.station = .member →
      (k = .hail → ∀ base, baseView s = some base → (base.members.map (·.id)).Pairwise (· < ·)) ∧
      (k = .leave → s.mbc.changes.length < 16 ∨
        (s.mbc.changes.length = 16 ∧ ∃ x ∈ s.mbc.changes, x.id = sender ∨ ∀ c, x.change ≠ .remove c)) ∧
      (k = .claim → InStep s sender (decodeClaim payload)) ∧
      (k = .claim ∨ k = .recast → InViews s sender)) →
    ∃ m t, exec (acceptRow tableFirst k) s = .next (settle t) ∧
      (tableFirst = true → TableTakes u s.cyt.cycle k sender payload m ∧ Judged m k sender payload t) ∧
      (tableFirst = false → Judged u k sender payload m ∧ TableTakes m s.cyt.cycle k sender payload t)

/-! ### Peers, plan and outputs -/

/-- PEER_LOST (R75, R89) and PEER_PURGE (R77): a MEMBER entry silent for 32 boundaries becomes LOST, PEER_LOST is
posted with its silence, and in MEMBER a REMOVE with cause LOST is placed; a HEARD entry silent for 64 is removed
without an event. That the row PEER_PURGE is taken where a wrap or snap has just begun the cycle is the model's choice
(log 5). -/
def Obligations.PeerLossTaken : Prop :=
  ∀ (s : State) (id : Nat) (p : Peer), s.resetAsserted = false → findPeer s.peers id = some p →
    (p.kind = .member → 32 ≤ p.silence → s.mbc.station = .leaving →
      exec (.peerLost id) s = .next (settle (appended
        { s with peers := updatePeer s.peers id (fun q => { q with kind := .lost }) }
        { kind := .peerLost, cycle := some s.cyt.cycle, station := some id,
          detail := some { code := p.silence, value := 0 } }))) ∧
    (p.kind = .member → 32 ≤ p.silence → s.mbc.station = .member → s.mbc.changes = [] →
      ∃ t, exec (.peerLost id) s = .next t ∧
        t.peers = updatePeer s.peers id (fun q => { q with kind := .lost }) ∧
        t.mbc.changes = [{ id := id, change := .remove .lost, trigger := s.cyt.cycle }] ∧
        t.mbc.current = s.mbc.current ∧ t.mbc.pending = s.mbc.pending ∧ t.mbc.station = .member ∧
        t.evq.records = arrive s.evq.records
          { kind := .peerLost, cycle := some s.cyt.cycle, station := some id,
            detail := some { code := p.silence, value := 0 } } ∧
        t.cyt = s.cyt ∧ t.plu = s.plu ∧ t.sli = s.sli ∧ Untouched s t) ∧
    (p.kind = .heard → 64 ≤ p.silence → s.mbc.station.running = true → s.cyt.begun = true →
      exec (.peerPurge id) s = .next (settle { s with peers := s.peers.filter (fun q => !(q.id == id)) }))

/-- A waiting demand at a boundary into cycle c, of a peer's leg and of an own leg (R79, R114): in force when its
apply cycle is c or older, kept when 1 or 2 ahead, dropped otherwise with the demand in force unchanged. -/
def Obligations.WaitingDemandFates : Prop :=
  ∀ (c : U16) (d : PendingDemand) (r : LegRecord) (o : OwnLeg), r.pending = some d → o.pending = some d →
    (c = d.applyCycle ∨ newer c d.applyCycle = true →
      r.advance c = { current := d.demand, valid := true, pending := none } ∧
      o.advance c = { requested := o.requested, published := d.demand, pending := none }) ∧
    (ahead d.applyCycle c = 1 ∨ ahead d.applyCycle c = 2 → r.advance c = r ∧ o.advance c = o) ∧
    (¬ (c = d.applyCycle ∨ newer c d.applyCycle = true) → 2 < ahead d.applyCycle c →
      r.advance c = { r with pending := none } ∧ o.advance c = { o with pending := none })

/-- The plan made on a view (R126, R127): one entry for each of the view's legs in view order, numbered from 0, own
exactly for the station's legs, with the leg's effective demand, and the grants and starts of the configured
placement. The view's legs are each station's leg 0 and, listed with two legs, its leg 1, in list order (R85). The
effective demand (R120) of an own leg is its published demand, 0 for a leg not configured; of another station's, its
valid record's demand cut at P, else 0 and not known. In SPREAD the windows are those of SpreadWindows; in PACK each
has its grant and starts, mod P, where the grants before it end (R125). -/
def Obligations.PlanCoversTheView : Prop :=
  (∀ (s : State) (v : View) (i : Nat) (l : Nat × Nat), (viewLegs v.members)[i]? = some l →
    (planOf s v).n = (viewLegs v.members).length ∧ (planOf s v).entries.length = (viewLegs v.members).length ∧
    (planOf s v).cycle = s.cyt.cycle ∧ (planOf s v).epoch = v.epoch ∧
    ∃ e w, (planOf s v).entries[i]? = some e ∧
      (planWindows s.cfg.fp ((viewLegs v.members).map (fun x => (effectiveDemand s x.1 x.2).2)))[i]? = some w ∧
      e = { index := i, id := l.1, leg := l.2, own := l.1 == s.cfg.id, known := (effectiveDemand s l.1 l.2).1,
            demand := (effectiveDemand s l.1 l.2).2, window := w }) ∧
  (viewLegs [] = [] ∧ ∀ (m : Member) (ms : List Member),
    viewLegs (m :: ms) = (m.id, 0) :: (if m.legs = 2 then [(m.id, 1)] else []) ++ viewLegs ms) ∧
  (∀ (s : State) (id leg : Nat) (o : OwnLeg),
    (id = s.cfg.id → o = (if leg = 0 then s.plu.leg0 else s.plu.leg1) →
      effectiveDemand s id leg = (true, if leg < s.cfg.legs then o.published else 0)) ∧
    (id ≠ s.cfg.id → findPeer s.peers id = none → effectiveDemand s id leg = (false, 0)) ∧
    (∀ p r, id ≠ s.cfg.id → findPeer s.peers id = some p → r = (if leg = 0 then p.leg0 else p.leg1) →
      effectiveDemand s id leg = if r.valid then (true, min r.current s.cfg.fp.p) else (false, 0))) ∧
  (∀ (fp : Fingerprint) (ds : List Nat),
    (fp.placement = .spread → planWindows fp ds = spreadWindows fp.p ds.length fp.k fp.alignment 0 ds) ∧
    (fp.placement = .pack → (planWindows fp ds).length = ds.length ∧
      ∀ (i : Nat) (w : Window), (planWindows fp ds)[i]? = some w →
        (packGrants (fp.k * fp.p) ds)[i]? = some w.grant ∧
        w.start = ((packGrants (fp.k * fp.p) ds).take i).sum % fp.p))

/-- The Peer Table at a view switch (R80), where the table keeps its law and the view is a legal one. An entry of a listed
station becomes MEMBER, or stays MEMBER or LOST, takes the leg count listed and has its foreign flag cleared; listed with
the new flag, both its leg records are valid with demand 0 and nothing pending, and without it they stand. A listed station
without an entry gets one of kind MEMBER with silence 0. Every entry of a station not listed becomes HEARD, with demand 0,
invalid and nothing pending in both leg records. The table grows by the entries created, to 20 at most, and those that make
room are the entries of unlisted stations with the largest silence, the higher id among equals, held or not. Nothing else
changes. That the new flag makes leg 1 of a one-leg station valid too, of which R177 says that it reads invalid, is the
model's choice between the two rules (log 36). -/
def Obligations.SwitchSeatsTheMembers : Prop :=
  ∀ (s t : State) (v : View), TableLaw s → (v.members.map (·.id)).Pairwise (· < ·) → v.members.length ≤ 16 →
    t = tableSwitch s v →
    t = { s with peers := t.peers } ∧ (t.peers.map (·.id)).Pairwise (· < ·) ∧
    (∀ m ∈ v.members, m.id ≠ s.cfg.id →
      (∀ p, findPeer s.peers m.id = some p →
        findPeer t.peers m.id = some { p with
          kind := if p.kind = .heard then .member else p.kind, legs := some m.legs, foreign := false
          leg0 := if m.new then { current := 0, valid := true, pending := none } else p.leg0
          leg1 := if m.new then { current := 0, valid := true, pending := none } else p.leg1 }) ∧
      (findPeer s.peers m.id = none →
        findPeer t.peers m.id = some
          { id := m.id, kind := .member, legs := some m.legs, verdict := .unknown, silence := 0, lastEpoch := none
            foreign := false
            leg0 := { current := 0, valid := m.new, pending := none }
            leg1 := { current := 0, valid := m.new, pending := none } })) ∧
    (∀ q ∈ t.peers, lists v.members q.id = false →
      ∃ p ∈ s.peers, q = { p with
        kind := .heard
        leg0 := { current := 0, valid := false, pending := none }
        leg1 := { current := 0, valid := false, pending := none } }) ∧
    t.peers.length = min 20 (s.peers.length +
      (v.members.filter (fun m => !(m.id == s.cfg.id) && (findPeer s.peers m.id).isNone)).length) ∧
    (∀ p ∈ s.peers, ∀ q ∈ s.peers, lists v.members p.id = false → lists v.members q.id = false →
      p.silence < q.silence ∨ (p.silence = q.silence ∧ p.id < q.id) →
      findPeer t.peers p.id = none → findPeer t.peers q.id = none)

/-- QUIET_HOLD_ON (R141): with the CLAIM age at 16 the quiet hold is in force and no leg stands at its active level;
nothing else changes but what the outputs and IRQ already are. WINDOW_EDGE (R134, R135): in MEMBER with the latch
CLEAR, the quiet hold out of force, no suppression and, in PACK, a complete table, leg 0 is at its active level from
its window's start to its end, and inactive outside it; both are said where no cycle of the plan came before (prev0 =
none), so that there is no tail, and LegsMeetTheGate says the rest, every later cycle and leg 1. The levels alone
change; that the row puts the gate on the pins at the present position is the model's reading (log 5). The FAULT pin
(R138): an asserted sample in CLEAR or WAITING moves the latch to ASSERTED, posts FAULT_ON with the legs that were
active, and drives both legs inactive; a deasserted sample in ASSERTED moves it to WAITING and posts FAULT_OFF. That
the row by itself takes the legs as active that stand so when it is taken is the model's reading (log 13). A leg's pin
is high for active with active-high polarity and for inactive with active-low, and the other way round low (R133,
R162). -/
def Obligations.OutputStageTaken : Prop :=
  (∀ s : State,
     (outPin s 0 = match s.los.out0, s.cfg.polarity0 with
       | .highZ, _ => none
       | .active, .activeHigh => some true
       | .active, .activeLow => some false
       | .inactive, .activeHigh => some false
       | .inactive, .activeLow => some true) ∧
     (outPin s 1 = match s.los.out1, s.cfg.polarity1 with
       | .highZ, _ => none
       | .active, .activeHigh => some true
       | .active, .activeLow => some false
       | .inactive, .activeHigh => some false
       | .inactive, .activeLow => some true)) ∧
  ((∀ s : State, s.resetAsserted = false → 16 ≤ s.plu.age →
     ∃ t, exec .quietHoldOn s = .next t ∧ t.los.quiet = true ∧ t.los.out0 ≠ .active ∧ t.los.out1 ≠ .active ∧
       t = { s with
         los := { s.los with quiet := true, out0 := t.los.out0, out1 := t.los.out1 }
         evq := { s.evq with irqLow := t.evq.irqLow } }) ∧
  (∀ (s : State) (w : Window), s.resetAsserted = false → s.locked = true → 0 < s.cfg.legs → s.mbc.station = .member →
     s.los.latch = .clear → s.plu.claimed = true → s.plu.age < 16 →
     (s.cfg.fp.placement = .pack → s.plu.complete = true) → s.los.supp0 = false → currentWindow s 0 = some w →
     s.plu.prev0 = none → s.cyt.position < s.cfg.fp.p →
     ∃ t, exec .windowEdge s = .next t ∧
       (w.start ≤ s.cyt.position → s.cyt.position < w.start + w.grant → t.los.out0 = .active) ∧
       (s.cyt.position < w.start ∨ w.start + w.grant ≤ s.cyt.position → t.los.out0 = .inactive) ∧
       t = { s with
         los := { s.los with quiet := t.los.quiet, out0 := t.los.out0, out1 := t.los.out1 }
         evq := { s.evq with irqLow := t.evq.irqLow } })) ∧
  (∀ s u : State, s.resetAsserted = false → s.locked = true →
    (s.los.latch ≠ .asserted →
      u = settle (appended { s with los := { s.los with latch := .asserted } }
        { kind := .faultOn
          cycle := if s.mbc.station.running then some s.cyt.cycle else none
          station := none
          detail := some { code := (if s.los.out0 = .active then 1 else 0) + (if s.los.out1 = .active then 2 else 0)
                           value := 0 } }) →
      exec .faultAsserted s = .next u ∧ u.los.out0 = .inactive ∧ u.los.out1 = .inactive) ∧
    (s.los.latch = .asserted →
      u = settle (appended { s with los := { s.los with latch := .waiting } }
        { kind := .faultOff
          cycle := if s.mbc.station.running then some s.cyt.cycle else none
          station := none
          detail := none }) →
      exec .faultReleased s = .next u ∧ u.los.out0 = .inactive ∧ u.los.out1 = .inactive))
end

