-- ==== Sys2Proof/Laws/State.lean ====
section
/-!
SUPPORT. One lemma per block per named update of the state: which blocks the update leaves as they stood.
-/

namespace Sys2Proof.Machine

@[simp] theorem State.withPending_cyt (s : State) (q : List Instr) : (State.withPending s q).cyt = s.cyt := rfl
@[simp] theorem State.withPending_sli (s : State) (q : List Instr) : (State.withPending s q).sli = s.sli := rfl
@[simp] theorem State.withPending_tli (s : State) (q : List Instr) : (State.withPending s q).tli = s.tli := rfl
@[simp] theorem State.withPending_mbc (s : State) (q : List Instr) : (State.withPending s q).mbc = s.mbc := rfl
@[simp] theorem State.withPending_peers (s : State) (q : List Instr) : (State.withPending s q).peers = s.peers := rfl
@[simp] theorem State.withPending_plu (s : State) (q : List Instr) : (State.withPending s q).plu = s.plu := rfl
@[simp] theorem State.withPending_los (s : State) (q : List Instr) : (State.withPending s q).los = s.los := rfl
@[simp] theorem State.withPending_evq (s : State) (q : List Instr) : (State.withPending s q).evq = s.evq := rfl
@[simp] theorem State.withPending_hpt (s : State) (q : List Instr) : (State.withPending s q).hpt = s.hpt := rfl
@[simp] theorem State.withPending_cfg (s : State) (q : List Instr) : (State.withPending s q).cfg = s.cfg := rfl
@[simp] theorem State.withPending_locked (s : State) (q : List Instr) : (State.withPending s q).locked = s.locked := rfl
@[simp] theorem State.withPending_resetAsserted (s : State) (q : List Instr) : (State.withPending s q).resetAsserted = s.resetAsserted := rfl
@[simp] theorem State.withPending_selLow (s : State) (q : List Instr) : (State.withPending s q).selLow = s.selLow := rfl
@[simp] theorem settle_cyt (s : State) : (settle s).cyt = s.cyt := rfl
@[simp] theorem settle_sli (s : State) : (settle s).sli = s.sli := rfl
@[simp] theorem settle_tli (s : State) : (settle s).tli = s.tli := rfl
@[simp] theorem settle_mbc (s : State) : (settle s).mbc = s.mbc := rfl
@[simp] theorem settle_peers (s : State) : (settle s).peers = s.peers := rfl
@[simp] theorem settle_plu (s : State) : (settle s).plu = s.plu := rfl
@[simp] theorem settle_hpt (s : State) : (settle s).hpt = s.hpt := rfl
@[simp] theorem settle_cfg (s : State) : (settle s).cfg = s.cfg := rfl
@[simp] theorem settle_locked (s : State) : (settle s).locked = s.locked := rfl
@[simp] theorem settle_resetAsserted (s : State) : (settle s).resetAsserted = s.resetAsserted := rfl
@[simp] theorem settle_selLow (s : State) : (settle s).selLow = s.selLow := rfl
@[simp] theorem settle_pending (s : State) : (settle s).pending = s.pending := rfl
@[simp] theorem postAt_cyt (s : State) (cycle : Option U16) (kind : EventKind) (station : Option Nat) (detail : Option Detail) : (postAt s cycle kind station detail).cyt = s.cyt := rfl
@[simp] theorem postAt_sli (s : State) (cycle : Option U16) (kind : EventKind) (station : Option Nat) (detail : Option Detail) : (postAt s cycle kind station detail).sli = s.sli := rfl
@[simp] theorem postAt_tli (s : State) (cycle : Option U16) (kind : EventKind) (station : Option Nat) (detail : Option Detail) : (postAt s cycle kind station detail).tli = s.tli := rfl
@[simp] theorem postAt_mbc (s : State) (cycle : Option U16) (kind : EventKind) (station : Option Nat) (detail : Option Detail) : (postAt s cycle kind station detail).mbc = s.mbc := rfl
@[simp] theorem postAt_peers (s : State) (cycle : Option U16) (kind : EventKind) (station : Option Nat) (detail : Option Detail) : (postAt s cycle kind station detail).peers = s.peers := rfl
@[simp] theorem postAt_plu (s : State) (cycle : Option U16) (kind : EventKind) (station : Option Nat) (detail : Option Detail) : (postAt s cycle kind station detail).plu = s.plu := rfl
@[simp] theorem postAt_los (s : State) (cycle : Option U16) (kind : EventKind) (station : Option Nat) (detail : Option Detail) : (postAt s cycle kind station detail).los = s.los := rfl
@[simp] theorem postAt_hpt (s : State) (cycle : Option U16) (kind : EventKind) (station : Option Nat) (detail : Option Detail) : (postAt s cycle kind station detail).hpt = s.hpt := rfl
@[simp] theorem postAt_cfg (s : State) (cycle : Option U16) (kind : EventKind) (station : Option Nat) (detail : Option Detail) : (postAt s cycle kind station detail).cfg = s.cfg := rfl
@[simp] theorem postAt_locked (s : State) (cycle : Option U16) (kind : EventKind) (station : Option Nat) (detail : Option Detail) : (postAt s cycle kind station detail).locked = s.locked := rfl
@[simp] theorem postAt_resetAsserted (s : State) (cycle : Option U16) (kind : EventKind) (station : Option Nat) (detail : Option Detail) : (postAt s cycle kind station detail).resetAsserted = s.resetAsserted := rfl
@[simp] theorem postAt_selLow (s : State) (cycle : Option U16) (kind : EventKind) (station : Option Nat) (detail : Option Detail) : (postAt s cycle kind station detail).selLow = s.selLow := rfl
@[simp] theorem postAt_pending (s : State) (cycle : Option U16) (kind : EventKind) (station : Option Nat) (detail : Option Detail) : (postAt s cycle kind station detail).pending = s.pending := rfl
@[simp] theorem post_cyt (s : State) (kind : EventKind) (station : Option Nat) (detail : Option Detail) : (post s kind station detail).cyt = s.cyt := rfl
@[simp] theorem post_sli (s : State) (kind : EventKind) (station : Option Nat) (detail : Option Detail) : (post s kind station detail).sli = s.sli := rfl
@[simp] theorem post_tli (s : State) (kind : EventKind) (station : Option Nat) (detail : Option Detail) : (post s kind station detail).tli = s.tli := rfl
@[simp] theorem post_mbc (s : State) (kind : EventKind) (station : Option Nat) (detail : Option Detail) : (post s kind station detail).mbc = s.mbc := rfl
@[simp] theorem post_peers (s : State) (kind : EventKind) (station : Option Nat) (detail : Option Detail) : (post s kind station detail).peers = s.peers := rfl
@[simp] theorem post_plu (s : State) (kind : EventKind) (station : Option Nat) (detail : Option Detail) : (post s kind station detail).plu = s.plu := rfl
@[simp] theorem post_los (s : State) (kind : EventKind) (station : Option Nat) (detail : Option Detail) : (post s kind station detail).los = s.los := rfl
@[simp] theorem post_hpt (s : State) (kind : EventKind) (station : Option Nat) (detail : Option Detail) : (post s kind station detail).hpt = s.hpt := rfl
@[simp] theorem post_cfg (s : State) (kind : EventKind) (station : Option Nat) (detail : Option Detail) : (post s kind station detail).cfg = s.cfg := rfl
@[simp] theorem post_locked (s : State) (kind : EventKind) (station : Option Nat) (detail : Option Detail) : (post s kind station detail).locked = s.locked := rfl
@[simp] theorem post_resetAsserted (s : State) (kind : EventKind) (station : Option Nat) (detail : Option Detail) : (post s kind station detail).resetAsserted = s.resetAsserted := rfl
@[simp] theorem post_selLow (s : State) (kind : EventKind) (station : Option Nat) (detail : Option Detail) : (post s kind station detail).selLow = s.selLow := rfl
@[simp] theorem post_pending (s : State) (kind : EventKind) (station : Option Nat) (detail : Option Detail) : (post s kind station detail).pending = s.pending := rfl
@[simp] theorem demotePeers_cyt (s : State) : (demotePeers s).cyt = s.cyt := rfl
@[simp] theorem demotePeers_sli (s : State) : (demotePeers s).sli = s.sli := rfl
@[simp] theorem demotePeers_tli (s : State) : (demotePeers s).tli = s.tli := rfl
@[simp] theorem demotePeers_mbc (s : State) : (demotePeers s).mbc = s.mbc := rfl
@[simp] theorem demotePeers_plu (s : State) : (demotePeers s).plu = s.plu := rfl
@[simp] theorem demotePeers_los (s : State) : (demotePeers s).los = s.los := rfl
@[simp] theorem demotePeers_evq (s : State) : (demotePeers s).evq = s.evq := rfl
@[simp] theorem demotePeers_hpt (s : State) : (demotePeers s).hpt = s.hpt := rfl
@[simp] theorem demotePeers_cfg (s : State) : (demotePeers s).cfg = s.cfg := rfl
@[simp] theorem demotePeers_locked (s : State) : (demotePeers s).locked = s.locked := rfl
@[simp] theorem demotePeers_resetAsserted (s : State) : (demotePeers s).resetAsserted = s.resetAsserted := rfl
@[simp] theorem demotePeers_selLow (s : State) : (demotePeers s).selLow = s.selLow := rfl
@[simp] theorem demotePeers_pending (s : State) : (demotePeers s).pending = s.pending := rfl
@[simp] theorem clearPlan_cyt (s : State) : (clearPlan s).cyt = s.cyt := rfl
@[simp] theorem clearPlan_sli (s : State) : (clearPlan s).sli = s.sli := rfl
@[simp] theorem clearPlan_tli (s : State) : (clearPlan s).tli = s.tli := rfl
@[simp] theorem clearPlan_mbc (s : State) : (clearPlan s).mbc = s.mbc := rfl
@[simp] theorem clearPlan_peers (s : State) : (clearPlan s).peers = s.peers := rfl
@[simp] theorem clearPlan_evq (s : State) : (clearPlan s).evq = s.evq := rfl
@[simp] theorem clearPlan_hpt (s : State) : (clearPlan s).hpt = s.hpt := rfl
@[simp] theorem clearPlan_cfg (s : State) : (clearPlan s).cfg = s.cfg := rfl
@[simp] theorem clearPlan_locked (s : State) : (clearPlan s).locked = s.locked := rfl
@[simp] theorem clearPlan_resetAsserted (s : State) : (clearPlan s).resetAsserted = s.resetAsserted := rfl
@[simp] theorem clearPlan_selLow (s : State) : (clearPlan s).selLow = s.selLow := rfl
@[simp] theorem clearPlan_pending (s : State) : (clearPlan s).pending = s.pending := rfl
@[simp] theorem clearViews_cyt (s : State) : (clearViews s).cyt = s.cyt := rfl
@[simp] theorem clearViews_sli (s : State) : (clearViews s).sli = s.sli := rfl
@[simp] theorem clearViews_tli (s : State) : (clearViews s).tli = s.tli := rfl
@[simp] theorem clearViews_peers (s : State) : (clearViews s).peers = s.peers := rfl
@[simp] theorem clearViews_plu (s : State) : (clearViews s).plu = s.plu := rfl
@[simp] theorem clearViews_los (s : State) : (clearViews s).los = s.los := rfl
@[simp] theorem clearViews_evq (s : State) : (clearViews s).evq = s.evq := rfl
@[simp] theorem clearViews_hpt (s : State) : (clearViews s).hpt = s.hpt := rfl
@[simp] theorem clearViews_cfg (s : State) : (clearViews s).cfg = s.cfg := rfl
@[simp] theorem clearViews_locked (s : State) : (clearViews s).locked = s.locked := rfl
@[simp] theorem clearViews_resetAsserted (s : State) : (clearViews s).resetAsserted = s.resetAsserted := rfl
@[simp] theorem clearViews_selLow (s : State) : (clearViews s).selLow = s.selLow := rfl
@[simp] theorem clearViews_pending (s : State) : (clearViews s).pending = s.pending := rfl
@[simp] theorem clearLock_sli (s : State) : (clearLock s).sli = s.sli := rfl
@[simp] theorem clearLock_tli (s : State) : (clearLock s).tli = s.tli := rfl
@[simp] theorem clearLock_mbc (s : State) : (clearLock s).mbc = s.mbc := rfl
@[simp] theorem clearLock_peers (s : State) : (clearLock s).peers = s.peers := rfl
@[simp] theorem clearLock_plu (s : State) : (clearLock s).plu = s.plu := rfl
@[simp] theorem clearLock_los (s : State) : (clearLock s).los = s.los := rfl
@[simp] theorem clearLock_evq (s : State) : (clearLock s).evq = s.evq := rfl
@[simp] theorem clearLock_hpt (s : State) : (clearLock s).hpt = s.hpt := rfl
@[simp] theorem clearLock_cfg (s : State) : (clearLock s).cfg = s.cfg := rfl
@[simp] theorem clearLock_locked (s : State) : (clearLock s).locked = s.locked := rfl
@[simp] theorem clearLock_resetAsserted (s : State) : (clearLock s).resetAsserted = s.resetAsserted := rfl
@[simp] theorem clearLock_selLow (s : State) : (clearLock s).selLow = s.selLow := rfl
@[simp] theorem clearLock_pending (s : State) : (clearLock s).pending = s.pending := rfl
@[simp] theorem stopMarker_cyt (s : State) : (stopMarker s).cyt = s.cyt := rfl
@[simp] theorem stopMarker_tli (s : State) : (stopMarker s).tli = s.tli := rfl
@[simp] theorem stopMarker_mbc (s : State) : (stopMarker s).mbc = s.mbc := rfl
@[simp] theorem stopMarker_peers (s : State) : (stopMarker s).peers = s.peers := rfl
@[simp] theorem stopMarker_plu (s : State) : (stopMarker s).plu = s.plu := rfl
@[simp] theorem stopMarker_los (s : State) : (stopMarker s).los = s.los := rfl
@[simp] theorem stopMarker_evq (s : State) : (stopMarker s).evq = s.evq := rfl
@[simp] theorem stopMarker_hpt (s : State) : (stopMarker s).hpt = s.hpt := rfl
@[simp] theorem stopMarker_cfg (s : State) : (stopMarker s).cfg = s.cfg := rfl
@[simp] theorem stopMarker_locked (s : State) : (stopMarker s).locked = s.locked := rfl
@[simp] theorem stopMarker_resetAsserted (s : State) : (stopMarker s).resetAsserted = s.resetAsserted := rfl
@[simp] theorem stopMarker_selLow (s : State) : (stopMarker s).selLow = s.selLow := rfl
@[simp] theorem stopMarker_pending (s : State) : (stopMarker s).pending = s.pending := rfl
@[simp] theorem zeroPublished_cyt (s : State) : (zeroPublished s).cyt = s.cyt := rfl
@[simp] theorem zeroPublished_sli (s : State) : (zeroPublished s).sli = s.sli := rfl
@[simp] theorem zeroPublished_tli (s : State) : (zeroPublished s).tli = s.tli := rfl
@[simp] theorem zeroPublished_mbc (s : State) : (zeroPublished s).mbc = s.mbc := rfl
@[simp] theorem zeroPublished_peers (s : State) : (zeroPublished s).peers = s.peers := rfl
@[simp] theorem zeroPublished_los (s : State) : (zeroPublished s).los = s.los := rfl
@[simp] theorem zeroPublished_evq (s : State) : (zeroPublished s).evq = s.evq := rfl
@[simp] theorem zeroPublished_hpt (s : State) : (zeroPublished s).hpt = s.hpt := rfl
@[simp] theorem zeroPublished_cfg (s : State) : (zeroPublished s).cfg = s.cfg := rfl
@[simp] theorem zeroPublished_locked (s : State) : (zeroPublished s).locked = s.locked := rfl
@[simp] theorem zeroPublished_resetAsserted (s : State) : (zeroPublished s).resetAsserted = s.resetAsserted := rfl
@[simp] theorem zeroPublished_selLow (s : State) : (zeroPublished s).selLow = s.selLow := rfl
@[simp] theorem zeroPublished_pending (s : State) : (zeroPublished s).pending = s.pending := rfl
@[simp] theorem setStation_cyt (s : State) (st : Station) : (setStation s st).cyt = s.cyt := rfl
@[simp] theorem setStation_sli (s : State) (st : Station) : (setStation s st).sli = s.sli := rfl
@[simp] theorem setStation_peers (s : State) (st : Station) : (setStation s st).peers = s.peers := rfl
@[simp] theorem setStation_plu (s : State) (st : Station) : (setStation s st).plu = s.plu := rfl
@[simp] theorem setStation_los (s : State) (st : Station) : (setStation s st).los = s.los := rfl
@[simp] theorem setStation_evq (s : State) (st : Station) : (setStation s st).evq = s.evq := rfl
@[simp] theorem setStation_hpt (s : State) (st : Station) : (setStation s st).hpt = s.hpt := rfl
@[simp] theorem setStation_cfg (s : State) (st : Station) : (setStation s st).cfg = s.cfg := rfl
@[simp] theorem setStation_locked (s : State) (st : Station) : (setStation s st).locked = s.locked := rfl
@[simp] theorem setStation_resetAsserted (s : State) (st : Station) : (setStation s st).resetAsserted = s.resetAsserted := rfl
@[simp] theorem setStation_selLow (s : State) (st : Station) : (setStation s st).selLow = s.selLow := rfl
@[simp] theorem setStation_pending (s : State) (st : Station) : (setStation s st).pending = s.pending := rfl
@[simp] theorem enterListening_peers (s : State) : (enterListening s).peers = s.peers := rfl
@[simp] theorem enterListening_plu (s : State) : (enterListening s).plu = s.plu := rfl
@[simp] theorem enterListening_los (s : State) : (enterListening s).los = s.los := rfl
@[simp] theorem enterListening_evq (s : State) : (enterListening s).evq = s.evq := rfl
@[simp] theorem enterListening_hpt (s : State) : (enterListening s).hpt = s.hpt := rfl
@[simp] theorem enterListening_cfg (s : State) : (enterListening s).cfg = s.cfg := rfl
@[simp] theorem enterListening_locked (s : State) : (enterListening s).locked = s.locked := rfl
@[simp] theorem enterListening_resetAsserted (s : State) : (enterListening s).resetAsserted = s.resetAsserted := rfl
@[simp] theorem enterListening_selLow (s : State) : (enterListening s).selLow = s.selLow := rfl
@[simp] theorem enterListening_pending (s : State) : (enterListening s).pending = s.pending := rfl
@[simp] theorem enterAligning_peers (s : State) : (enterAligning s).peers = s.peers := rfl
@[simp] theorem enterAligning_plu (s : State) : (enterAligning s).plu = s.plu := rfl
@[simp] theorem enterAligning_los (s : State) : (enterAligning s).los = s.los := rfl
@[simp] theorem enterAligning_evq (s : State) : (enterAligning s).evq = s.evq := rfl
@[simp] theorem enterAligning_hpt (s : State) : (enterAligning s).hpt = s.hpt := rfl
@[simp] theorem enterAligning_cfg (s : State) : (enterAligning s).cfg = s.cfg := rfl
@[simp] theorem enterAligning_locked (s : State) : (enterAligning s).locked = s.locked := rfl
@[simp] theorem enterAligning_resetAsserted (s : State) : (enterAligning s).resetAsserted = s.resetAsserted := rfl
@[simp] theorem enterAligning_selLow (s : State) : (enterAligning s).selLow = s.selLow := rfl
@[simp] theorem enterAligning_pending (s : State) : (enterAligning s).pending = s.pending := rfl
@[simp] theorem memberToAligning_evq (s : State) : (memberToAligning s).evq = s.evq := rfl
@[simp] theorem memberToAligning_hpt (s : State) : (memberToAligning s).hpt = s.hpt := rfl
@[simp] theorem memberToAligning_cfg (s : State) : (memberToAligning s).cfg = s.cfg := rfl
@[simp] theorem memberToAligning_locked (s : State) : (memberToAligning s).locked = s.locked := rfl
@[simp] theorem memberToAligning_resetAsserted (s : State) : (memberToAligning s).resetAsserted = s.resetAsserted := rfl
@[simp] theorem memberToAligning_selLow (s : State) : (memberToAligning s).selLow = s.selLow := rfl
@[simp] theorem memberToAligning_pending (s : State) : (memberToAligning s).pending = s.pending := rfl
@[simp] theorem memberToListening_evq (s : State) : (memberToListening s).evq = s.evq := rfl
@[simp] theorem memberToListening_hpt (s : State) : (memberToListening s).hpt = s.hpt := rfl
@[simp] theorem memberToListening_cfg (s : State) : (memberToListening s).cfg = s.cfg := rfl
@[simp] theorem memberToListening_locked (s : State) : (memberToListening s).locked = s.locked := rfl
@[simp] theorem memberToListening_resetAsserted (s : State) : (memberToListening s).resetAsserted = s.resetAsserted := rfl
@[simp] theorem memberToListening_selLow (s : State) : (memberToListening s).selLow = s.selLow := rfl
@[simp] theorem memberToListening_pending (s : State) : (memberToListening s).pending = s.pending := rfl
@[simp] theorem enterDetached_evq (s : State) (reason : DetachReason) : (enterDetached s reason).evq = s.evq := rfl
@[simp] theorem enterDetached_hpt (s : State) (reason : DetachReason) : (enterDetached s reason).hpt = s.hpt := rfl
@[simp] theorem enterDetached_cfg (s : State) (reason : DetachReason) : (enterDetached s reason).cfg = s.cfg := rfl
@[simp] theorem enterDetached_locked (s : State) (reason : DetachReason) : (enterDetached s reason).locked = s.locked := rfl
@[simp] theorem enterDetached_resetAsserted (s : State) (reason : DetachReason) : (enterDetached s reason).resetAsserted = s.resetAsserted := rfl
@[simp] theorem enterDetached_selLow (s : State) (reason : DetachReason) : (enterDetached s reason).selLow = s.selLow := rfl
@[simp] theorem enterDetached_pending (s : State) (reason : DetachReason) : (enterDetached s reason).pending = s.pending := rfl
@[simp] theorem detachLeft_hpt (s : State) (reason : DetachReason) : (detachLeft s reason).hpt = s.hpt := rfl
@[simp] theorem detachLeft_cfg (s : State) (reason : DetachReason) : (detachLeft s reason).cfg = s.cfg := rfl
@[simp] theorem detachLeft_locked (s : State) (reason : DetachReason) : (detachLeft s reason).locked = s.locked := rfl
@[simp] theorem detachLeft_resetAsserted (s : State) (reason : DetachReason) : (detachLeft s reason).resetAsserted = s.resetAsserted := rfl
@[simp] theorem detachLeft_selLow (s : State) (reason : DetachReason) : (detachLeft s reason).selLow = s.selLow := rfl
@[simp] theorem detachLeft_pending (s : State) (reason : DetachReason) : (detachLeft s reason).pending = s.pending := rfl
@[simp] theorem nextCycle_sli (s : State) : (nextCycle s).sli = s.sli := rfl
@[simp] theorem nextCycle_tli (s : State) : (nextCycle s).tli = s.tli := rfl
@[simp] theorem nextCycle_mbc (s : State) : (nextCycle s).mbc = s.mbc := rfl
@[simp] theorem nextCycle_peers (s : State) : (nextCycle s).peers = s.peers := rfl
@[simp] theorem nextCycle_plu (s : State) : (nextCycle s).plu = { s.plu with counting := s.mbc.station == .member } := rfl
@[simp] theorem nextCycle_los (s : State) : (nextCycle s).los = s.los := rfl
@[simp] theorem nextCycle_evq (s : State) : (nextCycle s).evq = s.evq := rfl
@[simp] theorem nextCycle_hpt (s : State) : (nextCycle s).hpt = s.hpt := rfl
@[simp] theorem nextCycle_cfg (s : State) : (nextCycle s).cfg = s.cfg := rfl
@[simp] theorem nextCycle_locked (s : State) : (nextCycle s).locked = s.locked := rfl
@[simp] theorem nextCycle_resetAsserted (s : State) : (nextCycle s).resetAsserted = s.resetAsserted := rfl
@[simp] theorem nextCycle_selLow (s : State) : (nextCycle s).selLow = s.selLow := rfl
@[simp] theorem nextCycle_pending (s : State) : (nextCycle s).pending = s.pending := rfl
@[simp] theorem lowMark_cyt (s : State) : (lowMark s).cyt = s.cyt := rfl
@[simp] theorem lowMark_sli (s : State) : (lowMark s).sli = s.sli := rfl
@[simp] theorem lowMark_mbc (s : State) : (lowMark s).mbc = s.mbc := rfl
@[simp] theorem lowMark_peers (s : State) : (lowMark s).peers = s.peers := rfl
@[simp] theorem lowMark_plu (s : State) : (lowMark s).plu = s.plu := rfl
@[simp] theorem lowMark_los (s : State) : (lowMark s).los = s.los := rfl
@[simp] theorem lowMark_evq (s : State) : (lowMark s).evq = s.evq := rfl
@[simp] theorem lowMark_hpt (s : State) : (lowMark s).hpt = s.hpt := rfl
@[simp] theorem lowMark_cfg (s : State) : (lowMark s).cfg = s.cfg := rfl
@[simp] theorem lowMark_locked (s : State) : (lowMark s).locked = s.locked := rfl
@[simp] theorem lowMark_resetAsserted (s : State) : (lowMark s).resetAsserted = s.resetAsserted := rfl
@[simp] theorem lowMark_selLow (s : State) : (lowMark s).selLow = s.selLow := rfl
@[simp] theorem lowMark_pending (s : State) : (lowMark s).pending = s.pending := rfl
@[simp] theorem syncLowSample_cyt (s : State) : (syncLowSample s).cyt = s.cyt := rfl
@[simp] theorem syncLowSample_tli (s : State) : (syncLowSample s).tli = s.tli := rfl
@[simp] theorem syncLowSample_mbc (s : State) : (syncLowSample s).mbc = s.mbc := rfl
@[simp] theorem syncLowSample_peers (s : State) : (syncLowSample s).peers = s.peers := rfl
@[simp] theorem syncLowSample_plu (s : State) : (syncLowSample s).plu = s.plu := rfl
@[simp] theorem syncLowSample_los (s : State) : (syncLowSample s).los = s.los := rfl
@[simp] theorem syncLowSample_evq (s : State) : (syncLowSample s).evq = s.evq := rfl
@[simp] theorem syncLowSample_hpt (s : State) : (syncLowSample s).hpt = s.hpt := rfl
@[simp] theorem syncLowSample_cfg (s : State) : (syncLowSample s).cfg = s.cfg := rfl
@[simp] theorem syncLowSample_locked (s : State) : (syncLowSample s).locked = s.locked := rfl
@[simp] theorem syncLowSample_resetAsserted (s : State) : (syncLowSample s).resetAsserted = s.resetAsserted := rfl
@[simp] theorem syncLowSample_selLow (s : State) : (syncLowSample s).selLow = s.selLow := rfl
@[simp] theorem syncLowSample_pending (s : State) : (syncLowSample s).pending = s.pending := rfl
@[simp] theorem syncHighSample_cyt (s : State) : (syncHighSample s).cyt = s.cyt := rfl
@[simp] theorem syncHighSample_tli (s : State) : (syncHighSample s).tli = s.tli := rfl
@[simp] theorem syncHighSample_mbc (s : State) : (syncHighSample s).mbc = s.mbc := rfl
@[simp] theorem syncHighSample_peers (s : State) : (syncHighSample s).peers = s.peers := rfl
@[simp] theorem syncHighSample_plu (s : State) : (syncHighSample s).plu = s.plu := rfl
@[simp] theorem syncHighSample_los (s : State) : (syncHighSample s).los = s.los := rfl
@[simp] theorem syncHighSample_evq (s : State) : (syncHighSample s).evq = s.evq := rfl
@[simp] theorem syncHighSample_hpt (s : State) : (syncHighSample s).hpt = s.hpt := rfl
@[simp] theorem syncHighSample_cfg (s : State) : (syncHighSample s).cfg = s.cfg := rfl
@[simp] theorem syncHighSample_locked (s : State) : (syncHighSample s).locked = s.locked := rfl
@[simp] theorem syncHighSample_resetAsserted (s : State) : (syncHighSample s).resetAsserted = s.resetAsserted := rfl
@[simp] theorem syncHighSample_selLow (s : State) : (syncHighSample s).selLow = s.selLow := rfl
@[simp] theorem syncHighSample_pending (s : State) : (syncHighSample s).pending = s.pending := rfl
@[simp] theorem talkLowSample_cyt (s : State) : (talkLowSample s).cyt = s.cyt := rfl
@[simp] theorem talkLowSample_sli (s : State) : (talkLowSample s).sli = s.sli := rfl
@[simp] theorem talkLowSample_mbc (s : State) : (talkLowSample s).mbc = s.mbc := rfl
@[simp] theorem talkLowSample_peers (s : State) : (talkLowSample s).peers = s.peers := rfl
@[simp] theorem talkLowSample_plu (s : State) : (talkLowSample s).plu = s.plu := rfl
@[simp] theorem talkLowSample_los (s : State) : (talkLowSample s).los = s.los := rfl
@[simp] theorem talkLowSample_evq (s : State) : (talkLowSample s).evq = s.evq := rfl
@[simp] theorem talkLowSample_hpt (s : State) : (talkLowSample s).hpt = s.hpt := rfl
@[simp] theorem talkLowSample_cfg (s : State) : (talkLowSample s).cfg = s.cfg := rfl
@[simp] theorem talkLowSample_locked (s : State) : (talkLowSample s).locked = s.locked := rfl
@[simp] theorem talkLowSample_resetAsserted (s : State) : (talkLowSample s).resetAsserted = s.resetAsserted := rfl
@[simp] theorem talkLowSample_selLow (s : State) : (talkLowSample s).selLow = s.selLow := rfl
@[simp] theorem talkLowSample_pending (s : State) : (talkLowSample s).pending = s.pending := rfl
@[simp] theorem talkHighSample_cyt (s : State) : (talkHighSample s).cyt = s.cyt := rfl
@[simp] theorem talkHighSample_sli (s : State) : (talkHighSample s).sli = s.sli := rfl
@[simp] theorem talkHighSample_mbc (s : State) : (talkHighSample s).mbc = s.mbc := rfl
@[simp] theorem talkHighSample_peers (s : State) : (talkHighSample s).peers = s.peers := rfl
@[simp] theorem talkHighSample_plu (s : State) : (talkHighSample s).plu = s.plu := rfl
@[simp] theorem talkHighSample_los (s : State) : (talkHighSample s).los = s.los := rfl
@[simp] theorem talkHighSample_evq (s : State) : (talkHighSample s).evq = s.evq := rfl
@[simp] theorem talkHighSample_hpt (s : State) : (talkHighSample s).hpt = s.hpt := rfl
@[simp] theorem talkHighSample_cfg (s : State) : (talkHighSample s).cfg = s.cfg := rfl
@[simp] theorem talkHighSample_locked (s : State) : (talkHighSample s).locked = s.locked := rfl
@[simp] theorem talkHighSample_resetAsserted (s : State) : (talkHighSample s).resetAsserted = s.resetAsserted := rfl
@[simp] theorem talkHighSample_selLow (s : State) : (talkHighSample s).selLow = s.selLow := rfl
@[simp] theorem talkHighSample_pending (s : State) : (talkHighSample s).pending = s.pending := rfl
@[simp] theorem loseArbitration_cyt (s : State) : (loseArbitration s).cyt = s.cyt := rfl
@[simp] theorem loseArbitration_sli (s : State) : (loseArbitration s).sli = s.sli := rfl
@[simp] theorem loseArbitration_mbc (s : State) : (loseArbitration s).mbc = s.mbc := rfl
@[simp] theorem loseArbitration_peers (s : State) : (loseArbitration s).peers = s.peers := rfl
@[simp] theorem loseArbitration_plu (s : State) : (loseArbitration s).plu = s.plu := rfl
@[simp] theorem loseArbitration_los (s : State) : (loseArbitration s).los = s.los := rfl
@[simp] theorem loseArbitration_evq (s : State) : (loseArbitration s).evq = s.evq := rfl
@[simp] theorem loseArbitration_hpt (s : State) : (loseArbitration s).hpt = s.hpt := rfl
@[simp] theorem loseArbitration_cfg (s : State) : (loseArbitration s).cfg = s.cfg := rfl
@[simp] theorem loseArbitration_locked (s : State) : (loseArbitration s).locked = s.locked := rfl
@[simp] theorem loseArbitration_resetAsserted (s : State) : (loseArbitration s).resetAsserted = s.resetAsserted := rfl
@[simp] theorem loseArbitration_selLow (s : State) : (loseArbitration s).selLow = s.selLow := rfl
@[simp] theorem loseArbitration_pending (s : State) : (loseArbitration s).pending = s.pending := rfl
@[simp] theorem longLow_cyt (s : State) : (longLow s).cyt = s.cyt := rfl
@[simp] theorem longLow_sli (s : State) : (longLow s).sli = s.sli := rfl
@[simp] theorem longLow_mbc (s : State) : (longLow s).mbc = s.mbc := rfl
@[simp] theorem longLow_peers (s : State) : (longLow s).peers = s.peers := rfl
@[simp] theorem longLow_plu (s : State) : (longLow s).plu = s.plu := rfl
@[simp] theorem longLow_los (s : State) : (longLow s).los = s.los := rfl
@[simp] theorem longLow_evq (s : State) : (longLow s).evq = s.evq := rfl
@[simp] theorem longLow_hpt (s : State) : (longLow s).hpt = s.hpt := rfl
@[simp] theorem longLow_cfg (s : State) : (longLow s).cfg = s.cfg := rfl
@[simp] theorem longLow_locked (s : State) : (longLow s).locked = s.locked := rfl
@[simp] theorem longLow_resetAsserted (s : State) : (longLow s).resetAsserted = s.resetAsserted := rfl
@[simp] theorem longLow_selLow (s : State) : (longLow s).selLow = s.selLow := rfl
@[simp] theorem longLow_pending (s : State) : (longLow s).pending = s.pending := rfl
@[simp] theorem agePeers_cyt (s : State) : (agePeers s).cyt = s.cyt := rfl
@[simp] theorem agePeers_sli (s : State) : (agePeers s).sli = s.sli := rfl
@[simp] theorem agePeers_tli (s : State) : (agePeers s).tli = s.tli := rfl
@[simp] theorem agePeers_mbc (s : State) : (agePeers s).mbc = s.mbc := rfl
@[simp] theorem agePeers_plu (s : State) : (agePeers s).plu = s.plu := rfl
@[simp] theorem agePeers_los (s : State) : (agePeers s).los = s.los := rfl
@[simp] theorem agePeers_evq (s : State) : (agePeers s).evq = s.evq := rfl
@[simp] theorem agePeers_hpt (s : State) : (agePeers s).hpt = s.hpt := rfl
@[simp] theorem agePeers_cfg (s : State) : (agePeers s).cfg = s.cfg := rfl
@[simp] theorem agePeers_locked (s : State) : (agePeers s).locked = s.locked := rfl
@[simp] theorem agePeers_resetAsserted (s : State) : (agePeers s).resetAsserted = s.resetAsserted := rfl
@[simp] theorem agePeers_selLow (s : State) : (agePeers s).selLow = s.selLow := rfl
@[simp] theorem agePeers_pending (s : State) : (agePeers s).pending = s.pending := rfl

/-! ### What the updates write -/

@[simp] theorem settle_records (s : State) : (settle s).evq.records = s.evq.records := rfl
@[simp] theorem settle_enables (s : State) : (settle s).evq.enables = s.evq.enables := rfl
@[simp] theorem settle_latch (s : State) : (settle s).los.latch = s.los.latch := rfl
@[simp] theorem settle_supp0 (s : State) : (settle s).los.supp0 = s.los.supp0 := rfl
@[simp] theorem settle_supp1 (s : State) : (settle s).los.supp1 = s.los.supp1 := rfl
@[simp] theorem withPending_pending (s : State) (q : List Instr) : (State.withPending s q).pending = q := rfl
@[simp] theorem setStation_station (s : State) (st : Station) : (setStation s st).mbc.station = st := rfl
@[simp] theorem setStation_requests (s : State) (st : Station) :
    (setStation s st).tli.requests = s.tli.requests.withdraw st := rfl
@[simp] theorem enterDetached_station (s : State) (r : DetachReason) : (enterDetached s r).mbc.station = .detached := rfl
@[simp] theorem enterDetached_reason (s : State) (r : DetachReason) : (enterDetached s r).mbc.reason = r := rfl
@[simp] theorem enterListening_station (s : State) : (enterListening s).mbc.station = .listening := rfl
@[simp] theorem enterAligning_station (s : State) : (enterAligning s).mbc.station = .aligning := rfl
@[simp] theorem post_records (s : State) (kind : EventKind) (station : Option Nat) (detail : Option Detail) :
    (post s kind station detail).evq.records =
      arrive s.evq.records { kind := kind, cycle := stamp s, station := station, detail := detail } := rfl
@[simp] theorem postAt_records (s : State) (cycle : Option U16) (kind : EventKind) (station : Option Nat)
    (detail : Option Detail) :
    (postAt s cycle kind station detail).evq.records =
      arrive s.evq.records { kind := kind, cycle := cycle, station := station, detail := detail } := rfl

end Sys2Proof.Machine
end

