-- ==== Sys2Proof/Laws/Inside.lean ====
section
/-!
SUPPORT. Once for every operation inside the part: what it cannot reach (the host port, the record and its lock, the
pins, the queue of commands, the enables, the prescaler's run) and the one way it changes the event queue (arrivals).
-/

namespace Sys2Proof.Machine

set_option Elab.async false

/-- The queue after some records have arrived, none of them an OVERRUN record. -/
def Arrivals (q q' : List Event) : Prop := ∃ es : List Event, (∀ e ∈ es, e.kind ≠ .overrun) ∧ q' = es.foldl arrive q

theorem Arrivals.refl (q : List Event) : Arrivals q q := ⟨[], by simp, rfl⟩

theorem Arrivals.trans {a b c : List Event} (h : Arrivals a b) (k : Arrivals b c) : Arrivals a c := by
  obtain ⟨es, he, rfl⟩ := h
  obtain ⟨fs, hf, rfl⟩ := k
  refine ⟨es ++ fs, ?_, by simp⟩
  intro e hm
  rcases List.mem_append.mp hm with hm | hm
  · exact he e hm
  · exact hf e hm

theorem Arrivals.one (q : List Event) (e : Event) (h : e.kind ≠ .overrun) : Arrivals q (arrive q e) :=
  ⟨[e], by simpa using h, rfl⟩

/-- What an operation inside the part leaves alone, and how it changes the event queue; the host port is left alone
where `p` holds (a boundary may hold a readout, R169). -/
structure Inside (p : Prop) (s t : State) : Prop where
  cfg : t.cfg = s.cfg
  locked : t.locked = s.locked
  resetAsserted : t.resetAsserted = s.resetAsserted
  selLow : t.selLow = s.selLow
  pending : t.pending = s.pending
  hpt : p → t.hpt = s.hpt
  enables : t.evq.enables = s.evq.enables
  prescaler : t.cyt.prescRunning = s.cyt.prescRunning
  configured : t.mbc.station = .unconfigured → s.mbc.station = .unconfigured
  records : Arrivals s.evq.records t.evq.records

variable {p : Prop}

theorem Inside.refl (s : State) : Inside p s s := ⟨rfl, rfl, rfl, rfl, rfl, fun _ => rfl, rfl, rfl, id, Arrivals.refl _⟩

theorem Inside.trans {a b c : State} (h : Inside p a b) (k : Inside p b c) : Inside p a c :=
  ⟨k.cfg.trans h.cfg, k.locked.trans h.locked, k.resetAsserted.trans h.resetAsserted, k.selLow.trans h.selLow,
   k.pending.trans h.pending, fun hp => (k.hpt hp).trans (h.hpt hp), k.enables.trans h.enables, k.prescaler.trans h.prescaler,
   fun x => h.configured (k.configured x), h.records.trans k.records⟩

/-- An update that touches none of these blocks. -/
theorem Inside.plain {s t : State} (h1 : t.cfg = s.cfg := by rfl) (h2 : t.locked = s.locked := by rfl)
    (h3 : t.resetAsserted = s.resetAsserted := by rfl) (h4 : t.selLow = s.selLow := by rfl)
    (h5 : t.pending = s.pending := by rfl) (h6 : t.hpt = s.hpt := by rfl)
    (h7 : t.evq.enables = s.evq.enables := by rfl) (h8 : t.cyt.prescRunning = s.cyt.prescRunning := by rfl)
    (h9 : t.mbc.station = .unconfigured → s.mbc.station = .unconfigured := by intro h; first | exact h | cases h)
    (h10 : t.evq.records = s.evq.records := by rfl) : Inside p s t :=
  ⟨h1, h2, h3, h4, h5, fun _ => h6, h7, h8, h9, h10 ▸ Arrivals.refl _⟩

theorem Inside.ite {s a b : State} {q : Prop} [Decidable q] (ha : Inside p s a) (hb : Inside p s b) :
    Inside p s (if q then a else b) := by
  split
  · exact ha
  · exact hb

theorem Inside.foldl {α : Type} (f : State → α → State) (h : ∀ s x, Inside p s (f s x)) (xs : List α) (s : State) :
    Inside p s (xs.foldl f s) := by
  induction xs generalizing s with
  | nil => exact Inside.refl s
  | cons x xs ih => exact (h s x).trans (ih (f s x))

theorem Inside.whenDue {due : State → Bool} {f : State → State} (h : ∀ s, Inside p s (f s)) (s : State) :
    Inside p s (whenDue due f s) := Inside.ite (h s) (Inside.refl s)

/-! ### Shared operations -/

theorem inside_settle (s : State) : Inside p s (settle s) := Inside.plain

theorem inside_postAt (s : State) (cycle : Option U16) (kind : EventKind) (station : Option Nat)
    (detail : Option Detail) (h : kind ≠ .overrun) : Inside p s (postAt s cycle kind station detail) :=
  ⟨rfl, rfl, rfl, rfl, rfl, fun _ => rfl, rfl, rfl, id, Arrivals.one _ _ h⟩

theorem inside_post (s : State) (kind : EventKind) (station : Option Nat) (detail : Option Detail)
    (h : kind ≠ .overrun) : Inside p s (post s kind station detail) := inside_postAt s _ kind station detail h

theorem inside_postRequest (s : State) (k : FrameKind) : Inside p s (postRequest s k) :=
  Inside.ite Inside.plain (Inside.refl s)

theorem inside_demotePeers (s : State) : Inside p s (demotePeers s) := Inside.plain

theorem inside_clearPlan (s : State) : Inside p s (clearPlan s) := Inside.plain

theorem inside_clearViews (s : State) : Inside p s (clearViews s) := Inside.plain

theorem inside_zeroPublished (s : State) : Inside p s (zeroPublished s) := Inside.plain

theorem inside_setStation (s : State) (st : Station) (h : st ≠ .unconfigured) : Inside p s (setStation s st) :=
  Inside.plain (h9 := fun x => absurd x h)

theorem inside_stopMarker (s : State) : Inside p s (stopMarker s) := Inside.plain

theorem inside_enterListening (s : State) : Inside p s (enterListening s) := Inside.plain

theorem inside_enterAligning (s : State) : Inside p s (enterAligning s) := Inside.plain

theorem inside_memberToAligning (s : State) : Inside p s (memberToAligning s) := Inside.plain

theorem inside_memberToListening (s : State) : Inside p s (memberToListening s) := Inside.plain

theorem inside_enterDetached (s : State) (reason : DetachReason) : Inside p s (enterDetached s reason) := Inside.plain

theorem inside_detachLeft (s : State) (reason : DetachReason) : Inside p s (detachLeft s reason) :=
  (inside_post s _ _ _ (by decide)).trans (inside_enterDetached _ reason)

theorem inside_tryHail (s : State) : Inside p s (tryHail s) :=
  Inside.ite ((Inside.plain (t := setStation s .hailing)).trans
    ((Inside.plain).trans (inside_postRequest _ .hail))) (Inside.refl s)

/-! ### The change list -/

theorem inside_setBackoff (s : State) : Inside p s (setBackoff s) :=
  Inside.ite ((Inside.plain).trans (inside_postRequest _ _)) Inside.plain

theorem inside_clearBackoffIfEmpty (s : State) : Inside p s (clearBackoffIfEmpty s) :=
  Inside.ite Inside.plain (Inside.refl s)

theorem inside_refuseHail (s : State) (id : Nat) (full : Bool) : Inside p s (refuseHail s id full) :=
  inside_post s _ _ _ (by decide)

theorem inside_appendChange (s : State) (changes : List ChangeEntry) (id : Nat) (change : Change) :
    Inside p s (appendChange s changes id change) :=
  Inside.ite (Inside.trans Inside.plain (inside_setBackoff _)) Inside.plain

theorem inside_placeChange (s : State) (id : Nat) (change : Change) : Inside p s (placeChange s id change) := by
  unfold placeChange
  dsimp only
  refine Inside.ite (inside_appendChange _ _ _ _) (Inside.ite (inside_appendChange _ _ _ _) ?_)
  split
  · split
    · exact (inside_refuseHail _ _ _).trans (inside_appendChange _ _ _ _)
    · exact inside_appendChange _ _ _ _
  · exact inside_refuseHail _ _ _

theorem inside_withdrawLost (s : State) (id : Nat) : Inside p s (withdrawLost s id) :=
  Inside.ite (Inside.refl s) (Inside.trans Inside.plain (inside_clearBackoffIfEmpty _))

theorem inside_refusals (ids : List Nat) (s : State) : Inside p s (ids.foldl (fun t id => refuseHail t id true) s) :=
  Inside.foldl _ (fun t id => inside_refuseHail t id true) ids s

theorem inside_buildRecast (s : State) : Inside p s (buildRecast s).1 := by
  unfold buildRecast
  split
  · exact Inside.plain
  · next base _ =>
    dsimp only
    have h := inside_refusals (p := p) (walkChanges base.members s.mbc.changes).dropped s
    generalize List.foldl (fun t id => refuseHail t id true) s _ = r at h ⊢
    have k : Inside p s (clearBackoffIfEmpty { r with mbc.changes := (walkChanges base.members s.mbc.changes).kept }) :=
      h.trans (Inside.trans Inside.plain (inside_clearBackoffIfEmpty _))
    generalize clearBackoffIfEmpty _ = t at k ⊢
    split
    · exact k.trans Inside.plain
    · exact k

theorem inside_coverChanges (s : State) (ms : List Member) : Inside p s (coverChanges s ms) :=
  Inside.trans Inside.plain (inside_clearBackoffIfEmpty _)

/-! ### The Peer Table -/

theorem inside_enterSender (cycle : Option U16) (s : State) (sender : Nat) (frame : FrameKind) :
    Inside p s (enterSender cycle s sender frame) := by
  unfold enterSender postHeard
  refine Inside.ite (Inside.refl s) (Inside.ite (Inside.trans Inside.plain (inside_postAt _ _ _ _ _ (by decide))) ?_)
  split
  · exact Inside.trans Inside.plain (inside_postAt _ _ _ _ _ (by decide))
  · exact inside_postAt _ _ _ _ _ (by decide)

theorem inside_returnPeer (cycle : Option U16) (s : State) (sender : Nat) : Inside p s (returnPeer cycle s sender) := by
  unfold returnPeer
  split
  · refine Inside.ite (Inside.ite ?_ ?_) (Inside.refl s)
    · exact Inside.trans Inside.plain ((inside_postAt _ _ _ _ _ (by decide)).trans (inside_withdrawLost _ _))
    · exact Inside.trans Inside.plain (inside_postAt _ _ _ _ _ (by decide))
  · exact Inside.refl s

theorem inside_hearFrame (cycle : Option U16) (s : State) (kind : FrameKind) (sender : Nat) (payload : List Byte) :
    Inside p s (hearFrame cycle s kind sender payload) :=
  ((inside_enterSender cycle s sender kind).trans (inside_returnPeer cycle _ sender)).trans Inside.plain

theorem inside_agePeers (s : State) : Inside p s (agePeers s) := Inside.plain

theorem inside_applyPeerDemands (s : State) : Inside p s (applyPeerDemands s) := Inside.ite Inside.plain (Inside.refl s)

theorem inside_markLost (s : State) (q : Peer) : Inside p s (markLost s q) :=
  Inside.trans Inside.plain (inside_post _ _ _ _ (by decide))

theorem inside_placeLost (s : State) (id : Nat) : Inside p s (placeLost s id) :=
  Inside.ite (inside_placeChange _ _ _) (Inside.refl s)

theorem inside_lossTest (s : State) : Inside p s (lossTest s) :=
  Inside.ite ((Inside.foldl markLost inside_markLost _ s).trans (Inside.foldl placeLost inside_placeLost _ _))
    (Inside.refl s)

theorem inside_purgeHeard (s : State) : Inside p s (purgeHeard s) := Inside.plain

theorem inside_purgeTest (s : State) : Inside p s (purgeTest s) := Inside.ite (inside_purgeHeard s) (Inside.refl s)

theorem inside_purgeBefore (f : State → State) (hf : ∀ s, Inside p s (f s)) (s : State) : Inside p s (purgeBefore f s) :=
  Inside.ite ((inside_purgeHeard s).trans (hf _)) (hf s)

theorem inside_tableSwitch (s : State) (v : View) : Inside p s (tableSwitch s v) := Inside.plain

theorem inside_losePeer (s : State) (id : Nat) : Inside p s (losePeer s id) := by
  unfold losePeer
  split
  · exact (inside_markLost _ _).trans (inside_placeLost _ _)
  · exact Inside.refl s

/-! ### The Plan Unit -/

theorem inside_setOwnLeg (s : State) (leg : Nat) (o : OwnLeg) : Inside p s (setOwnLeg s leg o) :=
  Inside.ite Inside.plain Inside.plain

theorem inside_claimDueTest (s : State) : Inside p s (claimDueTest s) :=
  Inside.ite (inside_postRequest _ _) (Inside.refl s)

theorem inside_applyPublished (s : State) : Inside p s (applyPublished s) := Inside.ite Inside.plain (Inside.refl s)

theorem inside_takeLoopback (s : State) (c : ClaimContent) : Inside p s (takeLoopback s c) :=
  Inside.ite Inside.plain (Inside.refl s)

theorem inside_memberEntry (s : State) : Inside p s (memberEntry s) :=
  Inside.trans Inside.plain (inside_postRequest _ _)

theorem inside_expireLease (s : State) : Inside p s (expireLease s) :=
  Inside.trans Inside.plain ((inside_post _ _ _ _ (by decide)).trans (inside_claimDueTest _))

theorem inside_leaseStep (s : State) : Inside p s (leaseStep s) :=
  Inside.ite (inside_expireLease s) Inside.plain

theorem inside_ageStep (s : State) : Inside p s (ageStep s) :=
  Inside.ite (Inside.trans Inside.plain (inside_postRequest _ _)) Inside.plain

theorem inside_planCount (s : State) : Inside p s (planCount s) :=
  Inside.ite (Inside.trans Inside.plain ((inside_leaseStep _).trans (inside_ageStep _))) Inside.plain

theorem inside_makePlan (s : State) : Inside p s (makePlan s) := by
  unfold makePlan
  split
  · exact Inside.refl s
  · exact Inside.plain

theorem inside_planBoundary (s : State) : Inside p s (planBoundary s) :=
  Inside.ite (Inside.trans Inside.plain (inside_makePlan _)) (Inside.refl s)

/-! ### Views and recasting -/

theorem inside_judgeHail (s : State) (sender : Nat) (h : HailContent) : Inside p s (judgeHail s sender h) :=
  Inside.ite (inside_refuseHail _ _ _) (Inside.ite (inside_placeChange _ _ _) (inside_refuseHail _ _ _))

theorem inside_takeLeave (s : State) (sender : Nat) : Inside p s (takeLeave s sender) :=
  Inside.ite (inside_placeChange _ _ _) (Inside.refl s)

theorem inside_postForeign (s : State) (sender : Nat) (won : Bool) : Inside p s (postForeign s sender won) :=
  inside_post _ _ _ _ (by decide)

theorem inside_foreignWon (s : State) (sender : Nat) : Inside p s (foreignWon s sender) := by
  unfold foreignWon
  split
  · exact Inside.ite (Inside.refl s) (Inside.trans Inside.plain (inside_postForeign _ _ _))
  · exact inside_postForeign _ _ _

theorem inside_foreignLost (s : State) (sender : Nat) : Inside p s (foreignLost s sender) :=
  (inside_postForeign s sender false).trans ((inside_memberToAligning _).trans (inside_zeroPublished _))

theorem inside_compareForeign (s : State) (sender : Nat) (i : Identity) : Inside p s (compareForeign s sender i) :=
  Inside.ite (inside_foreignLost _ _) (inside_foreignWon _ _)

theorem inside_restartBackoff (s : State) : Inside p s (restartBackoff s) :=
  Inside.ite Inside.plain (inside_setBackoff s)

theorem inside_testRecast (s : State) (sender : Nat) (r : RecastContent) (bytes : Nat) :
    Inside p s (testRecast s sender r bytes) := by
  unfold testRecast
  dsimp only
  have h : ∀ t, Inside p s t → Inside p s (if s.mbc.station = .member then restartBackoff t else t) :=
    fun t ht => Inside.ite (ht.trans (inside_restartBackoff t)) ht
  apply h
  split
  · exact inside_post _ _ _ _ (by decide)
  · exact Inside.ite (Inside.trans Inside.plain (inside_coverChanges _ _)) Inside.plain

theorem inside_memberRecast (s : State) (sender : Nat) (r : RecastContent) (bytes : Nat) :
    Inside p s (memberRecast s sender r bytes) :=
  Inside.ite (inside_testRecast _ _ _ _)
    (Inside.ite (Inside.ite (Inside.refl s) (inside_compareForeign _ _ _)) (Inside.refl s))

theorem inside_memberClaim (s : State) (sender : Nat) (c : ClaimContent) : Inside p s (memberClaim s sender c) :=
  Inside.ite (Inside.ite ((inside_post _ _ _ _ (by decide)).trans (inside_memberToAligning _)) (Inside.refl s))
    (inside_compareForeign _ _ _)

theorem inside_adoptCycle (s : State) (c : ClaimContent) (boundary : Bool) : Inside p s (adoptCycle s c boundary) :=
  Inside.trans Inside.plain (inside_tryHail _)

theorem inside_followClaim (s : State) (sender : Nat) (c : ClaimContent) (boundary : Bool) :
    Inside p s (followClaim s sender c boundary) :=
  Inside.ite (Inside.refl s) (Inside.trans Inside.plain (inside_adoptCycle _ _ _))

theorem inside_followRecast (s : State) (sender : Nat) (r : RecastContent) (bytes : Nat) :
    Inside p s (followRecast s sender r bytes) := Inside.ite Inside.plain (Inside.refl s)

theorem inside_follow (s : State) (kind : FrameKind) (sender : Nat) (payload : List Byte) (own boundary : Bool) :
    Inside p s (controllerFrame.follow s kind sender payload own boundary) := by
  unfold controllerFrame.follow
  split
  · exact Inside.refl s
  · split
    · exact inside_followClaim _ _ _ _
    · exact inside_followRecast _ _ _ _
    · exact Inside.refl s

theorem inside_controllerFrame (s : State) (kind : FrameKind) (sender : Nat) (payload : List Byte)
    (own boundary : Bool) : Inside p s (controllerFrame s kind sender payload own boundary) := by
  unfold controllerFrame
  split
  · exact Inside.plain
  · exact inside_follow _ _ _ _ _ _
  · exact inside_follow _ _ _ _ _ _
  · split
    · exact Inside.ite (Inside.refl s) (inside_judgeHail _ _ _)
    · exact inside_memberClaim _ _ _
    · exact inside_memberRecast _ _ _ _
    · exact Inside.ite (Inside.refl s) (inside_takeLeave _ _)
  · split
    · exact inside_memberRecast _ _ _ _
    · exact Inside.refl s
  · exact Inside.refl s

theorem inside_zeroIfNew (s : State) (v : View) : Inside p s (zeroIfNew s v) :=
  Inside.ite (inside_zeroPublished s) (Inside.refl s)

theorem inside_exclude (s : State) (v : View) : Inside p s (exclude s v) :=
  (inside_post _ _ _ _ (by decide)).trans ((inside_memberToAligning _).trans (inside_zeroPublished _))

theorem inside_memberSwitch (s : State) (v : View) : Inside p s (memberSwitch s v) := by
  unfold memberSwitch
  have h : Inside p s (zeroIfNew (tableSwitch (post s .viewChanged none
      (some { code := v.members.length, value := v.epoch.toNat })) v) v) :=
    (inside_post _ _ _ _ (by decide)).trans ((inside_tableSwitch _ _).trans (inside_zeroIfNew _ _))
  exact Inside.ite (Inside.ite (h.trans (inside_postRequest _ _)) h) (inside_exclude s v)

theorem inside_leavingSwitch (s : State) (v : View) : Inside p s (leavingSwitch s v) :=
  Inside.ite ((inside_tableSwitch s v).trans (inside_postRequest _ _)) (inside_detachLeft s _)

theorem inside_switchView (s : State) : Inside p s (switchView s) := by
  unfold switchView
  split
  · exact Inside.refl s
  · exact Inside.ite (Inside.trans Inside.plain (inside_memberSwitch _ _))
      (Inside.trans Inside.plain (inside_leavingSwitch _ _))

theorem inside_admitTo (s : State) (v : View) : Inside p s (admitTo s v) := by
  unfold admitTo
  dsimp only
  refine Inside.trans ?_ (inside_memberEntry _)
  refine Inside.trans ?_ (inside_zeroIfNew _ _)
  refine Inside.trans ?_ (inside_tableSwitch _ _)
  exact Inside.trans Inside.plain (inside_post _ _ _ _ (by decide))

theorem inside_switchObserved (s : State) : Inside p s (switchObserved s) := by
  unfold switchObserved
  split
  · exact Inside.refl s
  · exact Inside.ite (Inside.ite (inside_admitTo _ _) Inside.plain) Inside.plain

theorem inside_found (s : State) : Inside p s (found s) := by
  unfold found
  dsimp only
  refine Inside.trans ?_ (inside_memberEntry _)
  refine Inside.trans ?_ (inside_post _ _ _ _ (by decide))
  exact Inside.trans Inside.plain (inside_post _ _ _ _ (by decide))

theorem inside_startMarker (s : State) : Inside p s (startMarker s) := Inside.ite Inside.plain (Inside.refl s)

theorem inside_finishBoundary (s : State) : Inside p s (finishBoundary s) :=
  (inside_planBoundary s).trans (inside_startMarker _)

/-! ### Boundaries and falls -/

theorem inside_alignTimeout (s : State) : Inside p s (alignTimeout s) :=
  (inside_post _ _ _ _ (by decide)).trans (inside_enterListening _)

theorem inside_hailInterval (s : State) : Inside p s (hailInterval s) :=
  Inside.ite (Inside.trans Inside.plain (inside_postRequest _ _))
    ((inside_post _ _ _ _ (by decide)).trans (inside_enterDetached _ _))

theorem inside_backoffExpiry (s : State) : Inside p s (backoffExpiry s) :=
  Inside.trans Inside.plain (inside_postRequest _ _)

theorem inside_controllerBoundary (syncHigh : Bool) (s : State) : Inside p s (controllerBoundary syncHigh s) := by
  unfold controllerBoundary
  split
  · exact Inside.trans Inside.plain (Inside.whenDue inside_found _)
  · exact (Inside.whenDue inside_switchObserved s).trans
      (Inside.trans Inside.plain (Inside.whenDue inside_alignTimeout _))
  · unfold hailBoundary
    exact Inside.ite ((Inside.whenDue inside_switchObserved s).trans
      (Inside.trans Inside.plain (Inside.whenDue (inside_purgeBefore _ inside_hailInterval) _))) (Inside.whenDue inside_switchObserved s)
  · unfold memberBoundary
    dsimp only
    exact Inside.trans Inside.plain
      ((Inside.whenDue inside_backoffExpiry _).trans (Inside.whenDue inside_switchView _))
  · unfold leavingBoundary
    exact Inside.trans Inside.plain ((Inside.whenDue (inside_purgeBefore _ inside_switchView) _).trans
      (Inside.whenDue (inside_purgeBefore _ fun s => inside_detachLeft s _) _))
  · exact Inside.refl s

theorem inside_markBoundary (s : State) : Inside p s (markBoundary s) := Inside.ite Inside.plain (Inside.refl s)

theorem inside_clearLatch (s : State) : Inside p s (clearLatch s) := Inside.ite Inside.plain (Inside.refl s)

/-- A readout changes the host port alone (R154, R175 to R179). -/
theorem byteComplete_readout {s : State} {b : Byte} (h : completesReadout s b = true) :
    ∃ port, byteComplete b s = { s with hpt := port } := by
  have read : ∀ (u : State) (r : Option (List Byte)), ∃ port, respond (readOut u r) = { u with hpt := port } := by
    intro u r
    cases r <;> exact ⟨_, rfl⟩
  unfold completesReadout at h
  unfold byteComplete
  cases hp : s.hpt.phase <;> simp [hp] at h
  · dsimp only
    rcases h.2 with rfl | rfl
    · exact ⟨_, rfl⟩
    · exact read s _
  · dsimp only
    unfold operandByte
    cases hc : s.hpt.code with
    | none => simp [hc] at h
    | some code =>
      simp only [hc, Bool.and_eq_true, Bool.or_eq_true, decide_eq_true_eq] at h
      dsimp only
      obtain ⟨-, hm, hn⟩ := h
      have hlen : (operandCount code).getD 0 ≤ (s.hpt.operands ++ [b]).length := by simpa using hn
      rw [if_pos hlen]
      rcases hm with rfl | rfl | rfl | rfl
      · show ∃ port, respond (takeGetView _ _ s) = _
        unfold takeGetView
        split
        · exact ⟨_, rfl⟩
        · exact read s _
      · exact read s _
      · exact read s _
      · exact read s _

theorem inside_readoutAt (order : BoundaryOrder) (k : Nat) (s : State) :
    Inside (order.readout = none) s (readoutAt order k s) := by
  unfold readoutAt
  split
  · next r hr =>
    split
    · next h =>
      obtain ⟨port, hb⟩ := byteComplete_readout h.2
      rw [hb]
      exact ⟨rfl, rfl, rfl, rfl, rfl, fun hn => absurd (hr.symm.trans hn) (by simp), rfl, rfl, id, Arrivals.refl _⟩
    · exact Inside.refl s
  · exact Inside.refl s

theorem inside_boundary (order : BoundaryOrder) (syncHigh : Bool) (s : State) :
    Inside (order.readout = none) s (boundary order syncHigh s) := by
  unfold boundary
  dsimp only
  have r := fun k t => inside_readoutAt order k t
  have a : ∀ t, Inside (order.readout = none) t
      (applyPublished (applyPeerDemands (agePeers (clearLatch (markBoundary t))))) := fun t =>
    (inside_markBoundary t).trans ((inside_clearLatch _).trans ((inside_agePeers _).trans
      ((inside_applyPeerDemands _).trans (inside_applyPublished _))))
  have before := (r 0 s).trans ((a _).trans (r 1 _))
  have rest : ∀ t, Inside (order.readout = none) t (readoutAt order 5 (finishBoundary (readoutAt order 4
      (purgeTest (lossTest (readoutAt order 3 (controllerBoundary syncHigh (readoutAt order 2 t)))))))) := fun t =>
    (r 2 t).trans ((inside_controllerBoundary syncHigh _).trans ((r 3 _).trans ((inside_lossTest _).trans
      ((inside_purgeTest _).trans ((r 4 _).trans ((inside_finishBoundary _).trans (r 5 _)))))))
  cases order.leaseFirst
  · exact before.trans ((rest _).trans (inside_planCount _))
  · exact before.trans ((inside_planCount _).trans (rest _))

theorem inside_nextCycle (s : State) : Inside p s (nextCycle s) := Inside.plain

theorem inside_wrap (order : BoundaryOrder) (syncHigh : Bool) (s : State) :
    Inside (order.readout = none) s (wrap order syncHigh s) :=
  (inside_nextCycle s).trans (inside_boundary _ _ _)

theorem inside_lockRule (amount : Nat) (s : State) : Inside p s (lockRule amount s) :=
  Inside.trans Inside.plain (inside_tryHail _)

theorem inside_slipRule (amount : Nat) (s : State) : Inside p s (slipRule amount s) :=
  Inside.ite (Inside.trans Inside.plain (inside_post _ _ _ _ (by decide))) (Inside.refl s)

theorem inside_snap (lockFirst : Bool) (order : BoundaryOrder) (c : Nat) (s : State) :
    Inside (order.readout = none) s (snap lockFirst order c s) := by
  unfold snap
  dsimp only
  have u : Inside (order.readout = none) s (slipRule (s.P - c) { nextCycle s with cyt.lastSnap := s.P - c }) :=
    Inside.trans Inside.plain (inside_slipRule _ _)
  refine Inside.ite (u.trans ((inside_lockRule _ _).trans (inside_boundary _ _ _))) ?_
  exact Inside.ite (u.trans ((inside_boundary _ _ _).trans (inside_lockRule _ _))) (u.trans (inside_boundary _ _ _))

theorem inside_lateRestart (c : Nat) (s : State) : Inside p s (lateRestart c s) :=
  Inside.trans Inside.plain ((inside_markBoundary _).trans (inside_lockRule _ _))

theorem inside_firstFall (c : Nat) (s : State) : Inside p s (firstFall c s) :=
  Inside.trans Inside.plain ((inside_markBoundary _).trans (inside_enterAligning _))

theorem inside_ownFall (s : State) : Inside p s (ownFall s) := Inside.trans Inside.plain (inside_lockRule _ _)

theorem inside_takeFall (lockFirst : Bool) (order : BoundaryOrder) (c : Nat) (s : State) :
    Inside (order.readout = none) s (takeFall lockFirst order c s) := by
  unfold takeFall
  split
  · exact Inside.refl s
  · exact inside_firstFall _ _
  · exact inside_snap _ _ _ _
  · exact inside_lateRestart _ _
  · exact inside_ownFall _
  · exact Inside.refl s

theorem inside_markerTick (s : State) : Inside p s (markerTick s) :=
  Inside.trans Inside.plain (Inside.whenDue inside_stopMarker _)

theorem inside_syncStuck (s : State) : Inside p s (syncStuck s) := by
  unfold syncStuck
  have h : Inside p s (post { s with sli.stuck := true } .syncFault none none) :=
    Inside.trans Inside.plain (inside_post _ _ _ _ (by decide))
  dsimp only
  split
  · exact h.trans (inside_memberToListening _)
  · exact h.trans (inside_detachLeft _ _)
  · exact h.trans (inside_enterListening _)
  · exact h.trans (inside_enterListening _)
  · exact h

/-! ### Frames -/

theorem inside_takeSnapshot (s : State) : Inside p s (takeSnapshot s).1 := by
  unfold takeSnapshot
  have h := inside_buildRecast (p := p) s
  split
  · split
    · next heq => rw [heq] at h; exact h
    · next heq => rw [heq] at h; exact h
  · exact Inside.refl s

theorem inside_startFrame (s : State) : Inside p s (startFrame s) := (inside_takeSnapshot s).trans Inside.plain

theorem inside_lowMark (s : State) : Inside p s (lowMark s) := Inside.plain

theorem inside_originate (s : State) : Inside p s (originate s) := by
  unfold originate
  split
  · exact inside_startFrame s
  · exact inside_takeSnapshot s

theorem inside_talkMark (s : State) : Inside p s (talkMark s) := by
  unfold talkMark
  dsimp only
  split
  · exact Inside.ite (Inside.ite ((inside_startFrame s).trans (inside_lowMark _)) Inside.plain) Inside.plain
  · exact Inside.ite Inside.plain (Inside.ite Inside.plain Inside.plain)
  · exact Inside.ite Inside.plain Inside.plain

theorem inside_sampleCell (high : Bool) (s : State) : Inside p s (sampleCell high s) := by
  unfold sampleCell
  dsimp only
  split
  · exact Inside.refl s
  · exact Inside.plain
  · split
    · exact Inside.plain
    · exact Inside.plain

theorem inside_countFailure (s : State) : Inside p s (countFailure s) :=
  Inside.ite (Inside.trans Inside.plain ((inside_post _ _ _ _ (by decide)).trans (inside_enterDetached _ _)))
    Inside.plain

theorem inside_loseArbitration (s : State) : Inside p s (loseArbitration s) := Inside.plain

theorem inside_longLow (s : State) : Inside p s (longLow s) := Inside.plain

theorem inside_longHigh (s : State) : Inside p s (longHigh s) :=
  Inside.ite (Inside.trans Inside.plain (inside_countFailure _)) Inside.plain

theorem inside_voidFrame (s : State) : Inside p s (voidFrame s) := by
  unfold voidFrame
  have h : Inside p s (if s.tli.rx.phase = .receiving then { s with tli.rx := Rx.idle } else s) :=
    Inside.ite Inside.plain (Inside.refl s)
  exact Inside.ite (h.trans (inside_countFailure _)) h

theorem inside_duplicateId (s : State) (kind : FrameKind) : Inside p s (duplicateId s kind) :=
  (inside_post _ _ _ _ (by decide)).trans (inside_enterDetached _ _)

theorem inside_tableFrame (cycle : Option U16) (s : State) (kind : FrameKind) (sender : Nat) (payload : List Byte)
    (own : Bool) : Inside p s (tableFrame cycle s kind sender payload own) :=
  Inside.ite (Inside.refl s) (inside_hearFrame _ _ _ _ _)

theorem inside_flagForeign (won : Bool) (s : State) (sender : Nat) : Inside p s (flagForeign won s sender) :=
  Inside.ite Inside.plain (Inside.refl s)

theorem inside_planFrame (s : State) (kind : FrameKind) (payload : List Byte) (own : Bool) :
    Inside p s (planFrame s kind payload own) := Inside.ite (inside_takeLoopback _ _) (Inside.refl s)

theorem inside_deliver (tableFirst : Bool) (s : State) (kind : FrameKind) (sender : Nat) (payload : List Byte)
    (own boundary : Bool) : Inside p s (deliver tableFirst s kind sender payload own boundary) :=
  Inside.ite
    ((inside_planFrame _ _ _ _).trans ((inside_tableFrame _ _ _ _ _ _).trans (inside_controllerFrame _ _ _ _ _ _)))
    ((inside_planFrame _ _ _ _).trans ((inside_controllerFrame _ _ _ _ _ _).trans
      ((inside_tableFrame _ _ _ _ _ _).trans (inside_flagForeign _ _ _))))

theorem inside_acceptFrame (tableFirst : Bool) (s : State) : Inside p s (acceptFrame tableFirst s) := by
  unfold acceptFrame
  dsimp only
  split
  · exact Inside.trans Inside.plain (inside_deliver _ _ _ _ _ _ _)
  · exact Inside.ite (Inside.trans Inside.plain (inside_duplicateId _ _))
      (Inside.trans Inside.plain (inside_deliver _ _ _ _ _ _ _))

theorem inside_talkStuck (s : State) : Inside p s (talkStuck s) :=
  Inside.trans Inside.plain (inside_post _ _ _ _ (by decide))

/-! ### Outputs -/

theorem inside_faultAsserted (s : State) : Inside p s (faultAsserted s) :=
  Inside.trans Inside.plain (inside_post _ _ _ _ (by decide))

theorem inside_faultReleased (s : State) : Inside p s (faultReleased s) :=
  Inside.trans Inside.plain (inside_post _ _ _ _ (by decide))

/-! ### The tick -/

theorem inside_cycleStage (pins : Pins) (order : TickOrder) (n : TickNote) (s : State) :
    Inside (order.boundary.readout = none) s (cycleStage pins order n s).2 := by
  unfold cycleStage
  split
  · split
    · exact inside_wrap _ _ _
    · exact Inside.plain
  · exact Inside.refl s

theorem inside_sampleSync (pins : Pins) (order : TickOrder) (n : TickNote) (s : State) :
    Inside (order.boundary.readout = none) s (sampleSync pins order n s).2 := by
  unfold sampleSync
  dsimp only
  split
  · split
    · exact Inside.plain
    · refine Inside.trans ?_ (Inside.whenDue inside_syncStuck _)
      exact Inside.ite (Inside.trans Inside.plain (inside_takeFall _ _ _ _)) Inside.plain
  · exact Inside.refl s

theorem inside_syncStage (pins : Pins) (order : TickOrder) (n : TickNote) (s : State) :
    Inside (order.boundary.readout = none) s (syncStage pins order n s).2 := by
  unfold syncStage
  split
  · exact Inside.ite Inside.plain (Inside.refl s)
  · exact inside_sampleSync _ _ _ _

theorem inside_talkFindings (tableFirst : Bool) (s : State) : Inside p s (talkFindings tableFirst s) := by
  unfold talkFindings
  dsimp only
  have k : ∀ k t, Inside p t (acceptDue tableFirst k t) := fun k t => Inside.whenDue (inside_acceptFrame tableFirst) t
  refine Inside.trans ?_ (k _ _)
  refine Inside.trans ?_ (k _ _)
  refine Inside.trans ?_ (k _ _)
  refine Inside.trans ?_ (k _ _)
  refine Inside.trans ?_ (Inside.whenDue inside_voidFrame _)
  refine Inside.trans ?_ (Inside.whenDue inside_countFailure _)
  refine Inside.trans ?_ (Inside.whenDue inside_loseArbitration _)
  refine Inside.trans ?_ (Inside.whenDue inside_talkStuck _)
  exact (Inside.whenDue inside_longLow s).trans (Inside.whenDue inside_longHigh _)

theorem inside_cellTick (s : State) : Inside p s (cellTick s) := Inside.ite (Inside.refl s) Inside.plain

theorem inside_sampleTick (high : Bool) (s : State) : Inside p s (sampleTick high s) :=
  Inside.ite (inside_sampleCell _ _) (Inside.refl s)

theorem inside_talkStage (pins : Pins) (order : TickOrder) (s : State) : Inside p s (talkStage pins order s) := by
  unfold talkStage
  refine Inside.ite ?_ (Inside.refl s)
  have h : Inside p s (whenDue originateDue originate s) := Inside.whenDue inside_originate s
  generalize whenDue originateDue originate s = r at h
  dsimp only
  refine Inside.trans ?_ (inside_talkFindings _ _)
  refine Inside.trans ?_ (inside_sampleTick _ _)
  have k : ∀ t, Inside p s t → ∀ c : Bool, Inside p s (if c = true then talkLowSample t else talkHighSample t) :=
    fun t ht c => Inside.ite (ht.trans Inside.plain) (ht.trans Inside.plain)
  apply k
  exact Inside.ite h (Inside.ite (h.trans (inside_talkMark _)) (h.trans (inside_cellTick _)))

theorem inside_faultStage (pins : Pins) (s : State) : Inside p s (faultStage pins s) :=
  Inside.ite (Inside.whenDue inside_faultReleased s) (Inside.whenDue inside_faultAsserted s)

theorem inside_runStage (pins : Pins) (order : TickOrder) (q : TickNote × State) (x : Stage) :
    Inside (order.boundary.readout = none) q.2 (runStage pins order q x).2 := by
  unfold runStage
  split
  · exact inside_cycleStage _ _ _ _
  · exact inside_syncStage _ _ _ _
  · exact inside_talkStage _ _ _
  · exact inside_faultStage _ _

theorem inside_stages (pins : Pins) (order : TickOrder) (xs : List Stage) (q : TickNote × State) :
    Inside (order.boundary.readout = none) q.2 (xs.foldl (runStage pins order) q).2 := by
  induction xs generalizing q with
  | nil => exact Inside.refl _
  | cons x xs ih => exact (inside_runStage pins order q x).trans (ih _)

theorem inside_tickBody (pins : Pins) (order : TickOrder) (s : State) :
    Inside (order.boundary.readout = none) s (tickBody pins order s) := by
  unfold tickBody
  have m : Inside (order.boundary.readout = none) s (if s.sli.markerActive then markerTick s else s) :=
    Inside.ite (inside_markerTick s) (Inside.refl s)
  generalize (if s.sli.markerActive then markerTick s else s) = r at m
  dsimp only
  have k := m.trans (inside_stages pins order (stageOrder order.stages)
    ({ captured := r.cyt.position, moved := false, sampled := false, counted := false }, r))
  exact Inside.ite k (k.trans (inside_sampleSync _ _ _ _))

theorem inside_clockEdge (pins : Pins) (order : TickOrder) (s : State) :
    Inside (order.boundary.readout = none) s (clockEdge pins order s) :=
  Inside.ite Inside.plain (Inside.trans Inside.plain (inside_tickBody _ _ _))

end Sys2Proof.Machine
end

