-- ==== Sys2Proof/Laws/Happen.lean ====
section
/-!
SUPPORT. Once for each word that every command shares: a happening due and not due, the outputs put in their place, a
record posted, a request posted, a response made ready.
-/

namespace Sys2Proof.Machine

/-! ### A happening -/

theorem happen_due {s : State} {due : Bool} {f : State → State} (hr : s.resetAsserted = false) (hd : due = true) :
    happen s due f = .next (settle (f s)) := by simp [happen, hr, hd]

theorem happen_not_due {s : State} {due : Bool} {f : State → State} (hd : due = false) :
    happen s due f = .next s := by simp [happen, hd]

theorem happen_in_reset {s : State} {due : Bool} {f : State → State} (hr : s.resetAsserted = true) :
    happen s due f = .next s := by simp [happen, hr]

/-- A happening's two ends: nothing, or its effects with the outputs in their place. -/
theorem happen_cases {s t : State} {due : Bool} {f : State → State} (h : happen s due f = .next t) :
    (t = s ∧ (s.resetAsserted = true ∨ due = false)) ∨ (t = settle (f s) ∧ s.resetAsserted = false ∧ due = true) := by
  cases hr : s.resetAsserted <;> cases hd : due <;> simp_all [happen]

/-! ### The outputs in their place -/

theorem settle_idem (s : State) : settle (settle s) = settle s := rfl

theorem Settled.of_settle (s : State) : Settled (settle s) := ⟨rfl, rfl, rfl, rfl⟩

theorem Settled.settle_eq {s : State} (h : Settled s) : settle s = s := by
  obtain ⟨h1, h2, h3, h4⟩ := h
  cases s with
  | mk cyt sli tli mbc peers plu los evq cfg locked hpt resetAsserted selLow pending =>
    simp only [settle] at *
    rw [← h1, ← h2, ← h3, ← h4]

/-- The host port has no part in the outputs. -/
theorem settle_answered (s : State) (b : Byte) (r : List Byte) :
    settle (answered s b r) = answered (settle s) b r := rfl

/-! ### Posting -/

theorem post_eq_appended {s : State} (h : s.mbc.station.running = true) (k : EventKind) (i : Option Nat)
    (d : Option Detail) :
    post s k i d = appended s { kind := k, cycle := some s.cyt.cycle, station := i, detail := d } := by
  simp [post, postAt, stamp, h, appended]

theorem postRequest_eq_requested {s : State} {k : FrameKind} (h : permitted s.mbc.station k = true) :
    postRequest s k = requested s k := by
  unfold postRequest
  rw [if_pos h]
  cases k <;> simp [requested, Requests.setKind, renew]

theorem postRequest_of_not {s : State} {k : FrameKind} (h : permitted s.mbc.station k = false) :
    postRequest s k = s := by simp [postRequest, h]

/-! ### Arrivals -/

theorem arrive_room {q : List Event} {e : Event} (h : hasOverrun q = false) (n : q.length ≤ 14) :
    arrive q e = q ++ [e] := by simp [arrive, h, n]

theorem arrive_full {q : List Event} {e : Event} (h : hasOverrun q = false) (n : 15 ≤ q.length) :
    arrive q e = q ++ [overrunRecord e.cycle] := by
  have : ¬ q.length ≤ 14 := by omega
  simp [arrive, h, this]

theorem arrive_dropped {q : List Event} {e : Event} (h : hasOverrun q = true) :
    arrive q e = q.map countDropped := by simp [arrive, h]

/-! ### The value last put toward the group -/

theorem lastPut_spec (s : State) (leg n : Nat) : LastPut s leg n ↔ n = lastPut s leg := by
  have settled : ∀ o : OwnLeg,
      ((∃ d, o.pending = some d ∧ n = d.demand) ∨ (o.pending = none ∧ n = o.published)) ↔
        n = lastPut.settledPut o := by
    intro o
    cases h : o.pending <;> simp [lastPut.settledPut, h]
  unfold LastPut lastPut
  cases hf : s.tli.flight with
  | none => simpa [ownLeg] using settled (if leg = 0 then s.plu.leg0 else s.plu.leg1)
  | some f =>
    by_cases hk : f.kind = .claim
    · simp [hk, claimDemand]
    · simpa [hk, ownLeg] using settled (if leg = 0 then s.plu.leg0 else s.plu.leg1)

theorem claimIsDue_iff (s : State) : claimIsDue s = true ↔ ClaimDue s := by
  simp only [claimIsDue, ClaimDue, lastPut_spec, List.any_eq_true, List.mem_range, ownLeg]
  constructor
  · rintro ⟨leg, hl, h⟩
    exact ⟨leg, _, hl, rfl, fun e => by simp [e] at h⟩
  · rintro ⟨leg, n, hl, rfl, h⟩
    exact ⟨leg, hl, by simpa using fun e => h e.symm⟩

/-! ### The veto cell -/

theorem inVetoCell_iff (s : State) : inVetoCell s = true ↔ AtVeto s := by
  unfold inVetoCell AtVeto
  cases hf : s.tli.flight <;> simp

/-! ### Responses -/

theorem respond_carryOut (s : State) (r : List Byte) : respond (carryOut s r) = answered s 0 r := rfl

theorem respond_turnDown (s : State) (c : Status) : respond (turnDown s c) = answered s (statusByte c) [] := rfl

/-! ### The Plan Unit's counts -/

@[simp] theorem postRequest_plu (s : State) (k : FrameKind) : (postRequest s k).plu = s.plu := by
  unfold postRequest
  split <;> rfl

@[simp] theorem memberEntry_counting (s : State) : (memberEntry s).plu.counting = false := by simp [memberEntry]

theorem leaseStep_counting (s : State) : (leaseStep s).plu.counting = s.plu.counting := by
  unfold leaseStep expireLease claimDueTest
  split
  · dsimp only
    split <;> simp
  · rfl

theorem ageStep_counting (s : State) : (ageStep s).plu.counting = s.plu.counting := by
  unfold ageStep
  dsimp only
  split <;> simp

/-- The Plan Unit's counts of a boundary are made once (R118, R119). -/
@[simp] theorem planCount_counting (s : State) : (planCount s).plu.counting = false := by
  unfold planCount
  dsimp only
  split
  · rw [ageStep_counting, leaseStep_counting]
  · rfl

/-- A boundary whose counts are made leaves the row LEASE_EXPIRY nothing to do (R119). -/
theorem leaseExpiry_counted {s : State} (h : s.plu.counting = false) : execLeaseExpiry s = .next s :=
  happen_not_due (by simp [leaseExpiryDue, h])

end Sys2Proof.Machine
end

