-- ==== Sys2Proof/Tests/Slice0.lean ====
section
/-!
SUPPORT. Tests: ill-formed commands refused, the spec's own examples, and for every statement that has hypotheses a
concrete state and operands that meet them, clause by clause (the theorems named wit_…).
-/

namespace Sys2Proof.Tests

open Sys2Proof Sys2Proof.Machine

set_option Elab.async false

/-! ### WellFormed: one ill-formed command for each check -/

theorem smoke_configure : Instr.wellFormed (.configure [1, 2, 3]) = false := by decide
theorem smoke_unknown_code : Instr.wellFormed (.unknownCode 0x21) = false := by decide
theorem smoke_peer_lost : Instr.wellFormed (.peerLost 0) = false := by decide
theorem smoke_peer_purge : Instr.wellFormed (.peerPurge 63) = false := by decide
theorem smoke_tick :
    Instr.wellFormed (.tick { sync := true, talk := true, fault := true, transmits := true }
      { stages := [.talk, .talk], lockFirst := false, boundary := { leaseFirst := false, readout := none },
        tableFirst := false }) = false := by decide
theorem smoke_wrap : Instr.wellFormed (.wrap { leaseFirst := false, readout := some { after := 6, byte := 0x10 } }) = false := by
  decide
theorem smoke_sync_fall :
    Instr.wellFormed (.syncFall true { leaseFirst := false, readout := some { after := 6, byte := 0x10 } }) = false := by decide
theorem smoke_tick_readout :
    Instr.wellFormed (.tick { sync := true, talk := true, fault := true, transmits := true }
      { stages := [], lockFirst := false, boundary := { leaseFirst := false, readout := some { after := 6, byte := 0x10 } },
        tableFirst := false }) = false := by decide
theorem smoke_good : Instr.wellFormed (.unknownCode 0x07) = true ∧ Instr.wellFormed (.peerLost 62) = true := by decide

/-! ### States -/

/-- The configuration of the tests: station 20, two legs, P 4096, K 3, SPREAD, LEAD, TB 8, lease 3. -/
def cfg : ConfigRecord :=
  { id := 20, legs := 2
    fp := { p := 4096, prescale := 0, k := 3, placement := .spread, alignment := .lead, tb := 8 }
    polarity0 := .activeHigh, polarity1 := .activeLow, minWindow := 5, lease := 3 }

/-- A configured part in a station state, the outputs in their place. -/
def base (st : Station) : State :=
  settle { State.reset with
    cyt := { State.reset.cyt with prescRunning := true }
    mbc := { State.reset.mbc with station := st }
    cfg := cfg
    locked := true }

/-- The view of the tests: stations 20 and 30 with two legs and one. -/
def view : View :=
  { epoch := 7, members := [{ id := 20, legs := 2, new := false }, { id := 30, legs := 1, new := false }], fp := cfg.fp }

/-- A MEMBER peer entry. -/
def peer (id silence : Nat) (kind : PeerKind) : Peer := { newPeer id kind (some 1) with silence := silence }

/-- A member of the tests' view at cycle 500. -/
def inView (st : Station) : State :=
  let s := base st
  let p := { s with
    cyt := { s.cyt with cycle := 500, adopted := true, position := 100 }
    mbc := { s.mbc with current := some view }
    peers := [peer 30 0 .member]
    plu := { s.plu with leg0 := { requested := 400, published := 400, pending := none }, claimed := true } }
  settle { p with plu := { p.plu with plan := some (planOf p view) } }

/-- The part with its port at the code byte. -/
def atCode (s : State) : State :=
  { s with selLow := true, hpt := { phase := .code, code := none, operands := [], response := [] } }

/-- The part with its port at the last operand byte. -/
def atLast (s : State) (code : Byte) (held : List Byte) : State :=
  { s with selLow := true, hpt := { phase := .operands, code := some code, operands := held, response := [] } }

/-- The part with a whole frame in its assembler, its veto cell read 1 and ended. -/
def withFrame (s : State) (k : FrameKind) (sender : Nat) (payload : List Byte) : State :=
  { s with
    tli := { s.tli with
      rx := { Rx.idle with
        phase := .receiving, bits := frameCells k sender payload, cell := vetoCell payload.length, tick := 9,
        lastBit := some true } } }

/-- The part with an own frame in flight. -/
def sending (s : State) (k : FrameKind) (payload : List Byte) : State :=
  { s with tli := { s.tli with flight := some { kind := k, payload := payload, renewal := false } } }

def hail : List Byte := encodeHail { legs := 1, fp := cfg.fp }
def claim (epoch cycle : U16) : List Byte :=
  encodeClaim { epoch := epoch, cycle := cycle, identity := identityOf view.members, demand0 := 400, demand1 := some 500 }
def recast (epoch : U16) : RecastContent :=
  { epoch := epoch, switchCycle := 504, fp := cfg.fp, count := 2, members := view.members }

/-- The fall-through of the outcome of a command. -/
def run (c : Instr) (s : State) : State := nextOr s (exec c s)

/-- A boundary without a readout. -/
def quietOrder (leaseFirst : Bool) : BoundaryOrder := { leaseFirst := leaseFirst, readout := none }

/-! ### The spec's examples -/

/-- The bytes of a legal record: station 20, two legs, P 4096, K 3, TB 8, leg 1 active-low. -/
def record (p0 p1 tb : Byte) : List Byte := [20, 2, p0, p1, 0, 3, 0, 0, tb, 0, 1, 5, 3]

/-- 11.4: P = 1500 gives 03h, P = 4096 with TB = 9 gives 0Dh; a legal record gives none and reads back. -/
theorem test_configure_tests :
    firstFailing (record 0x05 0xDC 8) = some 3 ∧ firstFailing (record 0x10 0 9) = some 0x0D ∧
    firstFailing (record 0x10 0 8) = none ∧ decodeConfig (record 0x10 0 8) = cfg := by decide

/-- 11.3: the digest of the founded view of station 5 starts FFFFh, EFDFh, CF9Fh and ends B345h. -/
theorem test_digest :
    memberByte { id := 5, legs := 1, new := false } = 0x14 ∧ checkOf [false] = 0xEFDF ∧ checkOf [false, false] = 0xCF9F ∧
    digestOf [{ id := 5, legs := 1, new := false }] = 0xB345 := by decide

/-- 2.9: the key of station 9's HAIL is 1 0, 0 0 1 0 0 1 after a start cell of 0, and the frame has 87 cells. -/
theorem test_hail_key :
    (frameCells .hail 9 hail).take 9 = [false, true, false, false, false, true, false, false, true] ∧
    (frameCells .hail 9 hail).length = 87 := by decide

/-- 6.6: SPREAD with LEAD and CENTER at P = 1000, three legs, K = 1 and 2. -/
theorem test_spread :
    spreadWindows 1000 3 1 .lead 0 [200, 500, 334] =
      [{ grant := 200, start := 0 }, { grant := 333, start := 333 }, { grant := 333, start := 666 }] ∧
    spreadWindows 1000 3 1 .center 0 [200, 500, 334] =
      [{ grant := 200, start := 66 }, { grant := 333, start := 333 }, { grant := 333, start := 667 }] ∧
    spreadStart 1000 3 .center 0 600 = 866 := by decide

/-- 6.7, 7.9 and 12.3: water-filling, with a leftover and with a wrapping window. -/
theorem test_pack :
    packGrants 1000 [600, 500, 150, 400] = [284, 283, 150, 283] ∧
    packGrants 8000 [2800, 2400, 2000, 1200, 400] = [2200, 2200, 2000, 1200, 400] ∧
    packWindows 1000 0 (packGrants 2000 [700, 600, 500, 300, 100]) =
      [{ grant := 550, start := 0 }, { grant := 550, start := 550 }, { grant := 500, start := 100 },
       { grant := 300, start := 600 }, { grant := 100, start := 900 }] := by decide

/-- 11.6: the bytes of PEER_LOST of station 11 at cycle 432 with silence 32. -/
theorem test_event_record :
    eventRecord { kind := .peerLost, cycle := some 432, station := some 11, detail := some { code := 32, value := 0 } } =
      [0x22, 0x02, 0x07, 0x01, 0xB0, 0x0B, 0x20, 0, 0] := by decide

/-- 8.3, 12.6: the sixteenth arrival makes an OVERRUN record, which then counts. -/
theorem test_overrun :
    let slip : Event := { kind := .slip, cycle := some 1, station := none, detail := none }
    let full := arrive (List.replicate 15 slip) slip
    full.getLast? = some (overrunRecord (some 1)) ∧ (nextEvent full).map eventRank = some 0 ∧
    ((arrive full slip).getLast?.bind (·.detail)).map (·.value) = some 1 := by decide

/-- 11.4: 3Fh turns ALARM and MEMBERSHIP on and leaves PEER and NOTICE as they stood. -/
theorem test_set_enables :
    (run (.setEnables 0x3F) (atLast { base .detached with evq.enables.notice := true } 6 [])).evq.enables =
      { alarm := true, membership := true, peer := false, notice := true } := by decide

/-- 10.2: the status record of a part after reset names UNCONFIGURED, and its quiet hold bit stands. -/
theorem test_status : ((run .getStatus (atCode { State.reset with resetAsserted := false })).hpt.response.take 4) =
    [0x00, 0x00, 0x00, 0x20] := by decide

/-- 6.10: a CLAIM accepted in cycle 301 whose cycle field is 300 waits for cycle 302. -/
theorem test_pending : (LegRecord.fresh.receive 800 (300 + 2)).advance 302 =
    { current := 800, valid := true, pending := none } := by decide

/-- 1.4: a fall at half the cycle or later is a snap, an earlier one is ignored by a member (R7, R11, R13). -/
theorem test_fall_kinds :
    fallKind .member 2048 4096 = .snap ∧ fallKind .member 2047 4096 = .ignored ∧ fallKind .aligning 2047 4096 = .late ∧
    fallKind .member 0 4096 = .own ∧ fallKind .listening 4095 4096 = .first := by decide

/-- No row of the table has bits, so no word spells a command (log 4). -/
theorem test_no_bits : decodeTableWord 8 0x21 = none ∧ (State.reset.withFetchWord 8 0x21) = State.reset := ⟨rfl, rfl⟩

/-! ### Witnesses: the hypotheses of each statement, met by a concrete state and operands -/

theorem coherent_member : Coherent (inView .member) := by
  constructor <;> first | decide | (intro k; cases k <;> decide)

theorem coherent_leaving : Coherent (inView .leaving) := by
  constructor <;> first | decide | (intro k; cases k <;> decide)

theorem coherent_listening : Coherent (base .listening) := by
  constructor <;> first | decide | (intro k; cases k <;> decide)

theorem coherent_aligning : Coherent (base .aligning) := by
  constructor <;> first | decide | (intro k; cases k <;> decide)

theorem settled_of (s : State) : Settled (settle s) := ⟨rfl, rfl, rfl, rfl⟩

/-- The part in the tests' view with one command waiting. -/
def waiting (c : Instr) : State := (inView .member).withPending [c]

theorem settled_waiting (c : Instr) : Settled (waiting c) := ⟨rfl, rfl, rfl, rfl⟩

theorem wit_StepTakesFrontCommand : (base .detached).pending = [] := rfl

theorem wit_StepKeepsSettled : Settled (waiting .windowEdge) ∧ ∃ t, step (waiting .windowEdge) = .next t :=
  ⟨settled_waiting _, _, rfl⟩

theorem event_law_nil : EventLaw [] := ⟨by decide, by intro o e n h; simp at h, by decide⟩

theorem wit_StepKeepsEventLaw : EventLaw (waiting .windowEdge).evq.records ∧ ∃ t, step (waiting .windowEdge) = .next t :=
  ⟨event_law_nil, _, rfl⟩

theorem wit_StepKeepsCoherent : Coherent (waiting .windowEdge) ∧ ∃ t, step (waiting .windowEdge) = .next t :=
  ⟨by constructor <;> first | decide | (intro k; cases k <;> decide), _, rfl⟩

theorem wit_StepKeepsTable : TableLaw (waiting .windowEdge) ∧ ∃ t, step (waiting .windowEdge) = .next t :=
  ⟨by constructor <;> decide, _, rfl⟩

/-- A record that may be accepted, at the port of an unlocked part. -/
def configuring (r : List Byte) : State := atLast { State.reset with resetAsserted := false } 1 r.dropLast

theorem wit_RecordAndDoors :
    (base .detached).locked = true ∧ (∃ t, exec .join (base .detached) = .next t) ∧
    (configuring (record 16 0 8)).mbc.station = .unconfigured ∧
    (run (.configure (record 16 0 8)) (configuring (record 16 0 8))).mbc.station = .detached ∧
    (run .fullReset (base .detached)).mbc.station = .unconfigured := by
  refine ⟨by decide, ⟨_, rfl⟩, by decide, by decide, by decide⟩

/-- A leg is active inside its window, and a step keeps it so. -/
theorem wit_LegsMeetTheGate :
    Settled (waiting .windowEdge) ∧ step (waiting .windowEdge) = .next (inView .member) ∧
    (inView .member).los.out0 = .active ∧ (inView .member).los.out1 = .inactive :=
  ⟨settled_waiting _, rfl, by decide, by decide⟩

theorem wit_SerialComparison : ((0x8000#16).toNat + 65536 - (0#16).toNat) % 65536 = 32768 := by decide

theorem wit_RankingIsAnOrder :
    ranksAbove { size := 3, anchor := 9, digest := 0 } { size := 2, anchor := 1, digest := 0 } = true ∧
    ranksAbove { size := 2, anchor := 1, digest := 0 } { size := 2, anchor := 1, digest := 1 } = true := by decide

theorem wit_PayloadsReadBack :
    (cfg.fp.p < 65536 ∧ cfg.fp.prescale < 256 ∧ cfg.fp.k < 256 ∧ cfg.fp.tb < 256) ∧
    ((identityOf view.members).size < 256 ∧ (identityOf view.members).anchor < 256 ∧ 65535 < 65536) ∧
    (∀ m ∈ view.members, m.id < 64 ∧ (m.legs = 1 ∨ m.legs = 2)) := by decide

theorem wit_FrameReadsBack : 63 < 64 ∧ (List.replicate 31 (0#8)).length < 32 ∧ legalLength .hail 7 = true ∧
    legalLength .recast 27 = true ∧ legalLength .claim 12 = true ∧ legalLength .leave 2 = true := by decide

theorem wit_PackTaken : [4, 6].sum ≤ 10 ∧ 10 < [7, 6].sum ∧ [7, 6][1]? = some 6 := by decide

theorem wit_PackTaken_cap : 0 < 10 ∧ (∀ d ∈ [10, 3], d ≤ 10) ∧ 9 < 10 := by decide

theorem wit_SpreadSlotsTileTheCycle : 1 ≤ 16 ∧ 16 ≤ 16 := by decide

theorem wit_SpreadWindows :
    0 < 1000 ∧ (spreadWindows 1000 3 1 .lead 0 [0, 500, 334])[0]? = some { grant := 0, start := 0 } ∧
    (spreadWindows 1000 3 1 .center 0 [0, 500, 334])[2]? = some { grant := 333, start := 667 } := by decide

/-- A NOTICE record. -/
def slip : Event := { kind := .slip, cycle := some 1, station := none, detail := none }

theorem event_law_slips (n : Nat) (h : n ≤ 15) : EventLaw (List.replicate n slip) := by
  refine ⟨by simp; omega, ?_, by simp; omega⟩
  intro o e m hq hk
  have : e ∈ List.replicate n slip := by rw [hq]; simp
  rw [List.eq_of_mem_replicate this] at hk
  cases hk

theorem wit_EventQueueOrder :
    (EventLaw (List.replicate 14 slip) ∧ hasOverrun (List.replicate 14 slip) = false) ∧
    (EventLaw (List.replicate 15 slip) ∧ hasOverrun (List.replicate 15 slip) = false) ∧
    EventLaw [overrunRecord none] ∧ slip.kind ≠ .overrun := by
  refine ⟨⟨event_law_slips 14 (by decide), by decide⟩, ⟨event_law_slips 15 (by decide), by decide⟩, ?_, by decide⟩
  refine ⟨by decide, ?_, by decide⟩
  intro o e n h _
  cases o with
  | nil => simp at h; exact h.2
  | cons x o => simp at h

theorem wit_EventQueueOrder_next : [slip] ≠ [] := by decide

theorem wit_ConfigureTaken :
    (AwaitsLast (atLast (base .member) 1 (record 16 0 8).dropLast) 1 (record 16 0 8).dropLast ∧ (base .member).locked = true) ∧
    (AwaitsLast (configuring (record 16 0 9)) 1 (record 16 0 9).dropLast ∧ firstFailing (record 16 0 9) = some 13) ∧
    (AwaitsLast (configuring (record 16 0 8)) 1 (record 16 0 8).dropLast ∧ firstFailing (record 16 0 8) = none ∧
      (configuring (record 16 0 8)).locked = false) ∧ (record 16 0 8).length = 13 :=
  ⟨⟨⟨rfl, rfl, rfl, rfl⟩, rfl⟩, ⟨⟨rfl, rfl, rfl, rfl⟩, by decide⟩, ⟨⟨rfl, rfl, rfl, rfl⟩, by decide, rfl⟩, rfl⟩

theorem wit_JoinAndLeaveTaken :
    AwaitsCode (atCode (base .detached)) ∧ (base .detached).mbc.station = .detached ∧
    AwaitsCode (atCode (base .listening)) ∧ (base .listening).mbc.station ≠ .detached :=
  ⟨⟨rfl, rfl⟩, rfl, ⟨rfl, rfl⟩, by decide⟩

/-- A pending view of the tests' members with the switch cycle given. -/
def pendingAt (ms : List Member) (c : U16) : Option PendingView :=
  some { view := { epoch := 8, members := ms, fp := cfg.fp }, switchCycle := c }

/-- The own member alone. -/
def alone20 : List Member := [{ id := 20, legs := 2, new := false }]

/-- A MEMBER whose current view lists it alone. -/
def memberAlone : State :=
  { inView .member with mbc := { (inView .member).mbc with current := some { view with members := alone20 } } }

theorem wit_JoinAndLeaveTaken_leave :
    AwaitsCode (atCode (base .leaving)) ∧ AwaitsCode (atCode (base .hailing)) ∧
    (AwaitsCode (atCode memberAlone) ∧ (∀ m ∈ alone20, m.id = memberAlone.cfg.id) ∧
      (∀ p m, memberAlone.mbc.pending = some p → m ∈ p.view.members → m.id = memberAlone.cfg.id)) ∧
    (AwaitsCode (atCode (inView .member)) ∧ (inView .member).mbc.current = some view ∧
      ∃ m ∈ view.members, m.id ≠ (inView .member).cfg.id) := by
  refine ⟨⟨rfl, rfl⟩, ⟨rfl, rfl⟩, ⟨⟨rfl, rfl⟩, by decide, ?_⟩, ⟨rfl, rfl⟩, rfl, by decide⟩
  intro p m h
  cases h

theorem wit_RestartAndDetachedEntry :
    AwaitsCode (atCode (base .unconfigured)) ∧ AwaitsCode (atCode (inView .member)) ∧
    (inView .member).mbc.station ≠ .unconfigured := ⟨⟨rfl, rfl⟩, ⟨rfl, rfl⟩, by decide⟩

/-- A SET DEMAND of 4096 on leg 1 at the port. -/
def setting (st : Station) : State := atLast (inView st) 5 [1, 0x10]

theorem wit_SettingsTaken :
    AwaitsLast (setting .member) 5 [1, (4096#16).extractLsb' 8 8] ∧ (4096#16).toNat ≤ (setting .member).cfg.fp.p ∧
    (1#8).toNat < (setting .member).cfg.legs ∧ (setting .member).cfg.legs ≤ 2 ∧
    (setting .member).cfg.legs ≤ (2#8).toNat ∧ (setting .member).cfg.fp.p < (4097#16).toNat ∧
    AwaitsLast (setting .member) 5 [1, (4097#16).extractLsb' 8 8] ∧
    AwaitsLast (atLast (inView .member) 5 [2, 0]) 5 [2, (0#16).extractLsb' 8 8] ∧
    AwaitsLast (setting .unconfigured) 5 [1, (4096#16).extractLsb' 8 8] :=
  ⟨⟨rfl, rfl, rfl, rfl⟩, by decide, by decide, by decide, by decide, by decide, ⟨rfl, rfl, rfl, rfl⟩,
   ⟨rfl, rfl, rfl, rfl⟩, ⟨rfl, rfl, rfl, rfl⟩⟩

theorem wit_SettingsTaken_due :
    ClaimDue (run (.setDemand 1 4096) (setting .member)) ∧
    ¬ ClaimDue (run (.setDemand 0 400) (atLast (inView .member) 5 [0, 1])) ∧
    LastPut (inView .member) 0 400 ∧
    LastPut (sending (inView .member) .claim (claim 7 500)) 1 500 ∧
    LastPut { inView .member with plu := { (inView .member).plu with
      leg1 := { OwnLeg.zero with pending := some { demand := 9, applyCycle := 501 } } } } 1 9 := by
  simp only [← claimIsDue_iff, lastPut_spec]
  decide

theorem wit_SettingsTaken_enables : AwaitsLast (atLast (base .unconfigured) 6 []) 6 [] := ⟨rfl, rfl, rfl, rfl⟩

/-- A change list of one entry. -/
def oneChange : List ChangeEntry := [{ id := 31, change := .add 1, trigger := 500 }]

theorem wit_ReadoutsTaken :
    AwaitsCode (atCode (inView .member)) ∧
    (AwaitsLast (atLast (inView .member) 0x11 [0]) 0x11 [0] ∧
      heldView (inView .member) 0 = some (view, none) ∧ view.members[(1#8).toNat]? = some { id := 30, legs := 1, new := false } ∧
      view.members.length ≤ (2#8).toNat ∧ (2#8).toNat ≤ 2 ∧ 2 < (3#8).toNat) ∧
    (AwaitsLast (atLast (inView .member) 0x12 []) 0x12 [] ∧ (inView .member).peers[(0#8).toNat]? = some (peer 30 0 .member) ∧
      (inView .member).peers.length ≤ (1#8).toNat) ∧
    (AwaitsLast (atLast (inView .member) 0x13 []) 0x13 [] ∧
      ((inView .member).plu.plan.bind (fun p => p.entries[(2#8).toNat]?)).isSome = true ∧
      ((inView .member).plu.plan.map (fun p => p.entries.length)) = some 3) ∧
    (AwaitsLast (atLast (inView .member) 0x14 []) 0x14 [] ∧ (inView .member).mbc.changes.length ≤ (0#8).toNat ∧
      oneChange[(0#8).toNat]? = some { id := 31, change := .add 1, trigger := 500 }) := by
  refine ⟨⟨rfl, rfl⟩, ⟨⟨rfl, rfl, rfl, rfl⟩, ?_⟩, ⟨⟨rfl, rfl, rfl, rfl⟩, ?_⟩, ⟨⟨rfl, rfl, rfl, rfl⟩, ?_⟩,
    ⟨⟨rfl, rfl, rfl, rfl⟩, ?_⟩⟩ <;> decide

theorem wit_ReadoutsTaken_views :
    AwaitsLast (atLast (inView .leaving) 0x11 [1]) 0x11 [1] ∧ AwaitsLast (atLast (base .hailing) 0x11 [2]) 0x11 [2] ∧
    heldView { inView .leaving with mbc := { (inView .leaving).mbc with pending := pendingAt view.members 504 } } 1 =
      some ({ view with epoch := 8 }, some 504) ∧
    heldView { base .hailing with mbc := { (base .hailing).mbc with
      observed := { Observed.empty with pending := pendingAt view.members 504 } } } 2 =
      some ({ view with epoch := 8 }, some 504) :=
  ⟨⟨rfl, rfl, rfl, rfl⟩, ⟨rfl, rfl, rfl, rfl⟩, by decide, by decide⟩

theorem wit_ResponseBytes :
    byteAt (statusRecord (inView .member)) 0 = 5 ∧ (inView .member).cfg.legs = 2 ∧
    (inView .member).mbc.current = some view ∧ (base .detached).mbc.current = none ∧
    (changeRecord 1 { id := 31, change := .add 1, trigger := 500 }).extract 2 6 = [0, 1, 1, 0] := by decide

theorem wit_EventQueueOrder_taken :
    AwaitsCode (atCode (base .detached)) ∧ (base .detached).evq.records = [] ∧
    AwaitsCode (atCode (appended (base .detached) slip)) ∧ (appended (base .detached) slip).evq.records ≠ [] :=
  ⟨⟨rfl, rfl⟩, rfl, ⟨rfl, rfl⟩, by decide⟩

theorem wit_UnknownCodeTaken :
    AwaitsCode (atCode (base .detached)) ∧ (atCode (base .detached)).selLow = true ∧
    (0x00#8) ∉ [0x01#8, 0x02#8, 0x03#8, 0x04#8, 0x05#8, 0x06#8, 0x10#8, 0x11#8, 0x12#8, 0x13#8, 0x14#8, 0x20#8, 0x21#8] ∧
    (0x22#8) ∉ [0x01#8, 0x02#8, 0x03#8, 0x04#8, 0x05#8, 0x06#8, 0x10#8, 0x11#8, 0x12#8, 0x13#8, 0x14#8, 0x20#8, 0x21#8] :=
  ⟨⟨rfl, rfl⟩, rfl, by decide, by decide⟩

theorem wit_BytesTakeTheCommand :
    Settled (atCode (base .detached)) ∧ AwaitsCode (atCode (base .detached)) ∧ (atCode (base .detached)).selLow = true ∧
    hostBytes (.setDemand 1 4096) = some ([0x05, 1, 0x10] ++ [0x00]) ∧ hostBytes .join = some ([] ++ [0x02]) ∧
    Instr.wellFormed (.setDemand 1 4096) = true :=
  ⟨⟨rfl, rfl, rfl, rfl⟩, ⟨rfl, rfl⟩, rfl, by decide, by decide, by decide⟩

theorem wit_PortAndResetTaken :
    (answered (atCode (base .detached)) 0 [7]).hpt.response = 0 :: [7] ∧
    (answered (atCode (base .detached)) 0 []).hpt.response = 0 :: [] ∧
    (answered (atCode (base .detached)) 0 []).hpt.phase = .response ∧
    (atCode (base .detached)).selLow = true ∧ (base .detached).hpt.phase = .idle ∧ (base .detached).selLow = false ∧
    (base .detached).resetAsserted = false := by decide

theorem wit_PortAndResetTaken_reset : (run .fullReset (base .member)).resetAsserted = true := by decide

/-- The part at the last position of its cycle. -/
def atEnd (s : State) : State := { s with cyt := { s.cyt with position := 4095, begun := false } }

/-- The fall's previous sample was high, and the position is the capture. -/
def falling (s : State) (c : Nat) : State :=
  { s with sli := { s.sli with prevHigh := true }, cyt := { s.cyt with position := c, begun := false } }

theorem coherent_end : Coherent (atEnd (base .listening)) := by
  constructor <;> first | decide | (intro k; cases k <;> decide)

theorem wit_WrapTaken :
    Runs (atEnd (base .listening)) ∧ Coherent (atEnd (base .listening)) ∧
    (atEnd (base .listening)).cfg.fp.p ≤ (atEnd (base .listening)).cyt.position + 1 ∧
    (base .listening).mbc.listenCount + 1 < 64 + (base .listening).cfg.id ∧
    (∀ q ∈ (base .listening).peers, q.silence < 63) ∧
    (run (.wrap (quietOrder false)) (atEnd (inView .member))).mbc.station = .member ∧
    (run (.wrap (quietOrder false)) (atEnd { inView .leaving with mbc := { (inView .leaving).mbc with leaveCount := 31 } })).mbc.station =
      .detached :=
  ⟨⟨rfl, rfl⟩, coherent_end, by decide, by decide, by decide, by decide, by decide⟩

theorem coherent_falling : Coherent (falling (base .listening) 4095) := by
  constructor <;> first | decide | (intro k; cases k <;> decide)

theorem wit_FallsTaken :
    Coherent (falling (base .listening) 4095) ∧ (falling (base .listening) 4095).sli.prevHigh = true ∧
    (falling (inView .member) 0).cyt.position = 0 ∧ (falling (inView .leaving) 2047).cyt.position < 4096 / 2 ∧
    (base .aligning).mbc.station.following = true ∧ (falling (base .hailing) 2047).cyt.position < 4096 / 2 ∧
    (run (.syncFall false (quietOrder false))
      { falling (base .aligning) 64 with cyt := { (base .aligning).cyt with position := 64, lockCount := 3, adopted := true } }
      ).mbc.station = .hailing :=
  ⟨coherent_falling, by decide, by decide, by decide, by decide, by decide, by decide⟩

theorem wit_SnapTaken :
    Runs (falling (inView .member) 2048) ∧ (falling (inView .member) 2048).cfg.fp.p / 2 ≤ 2048 ∧
    (run (.syncFall false (quietOrder false)) (falling (inView .member) 2048)).mbc.station = .member ∧
    (run (.syncFall true (quietOrder true)) (falling (inView .member) 4095)).cyt.lastSnap = 1 :=
  ⟨⟨rfl, rfl⟩, by decide, by decide, by decide⟩

theorem begins_wrap {s : State} (b : Bool) (h : Runs s) (e : s.cfg.fp.p ≤ s.cyt.position + 1) :
    BeginsCycle (quietOrder b) s (.wrap (quietOrder b))
      { s with cyt := { s.cyt with position := 0, cycle := s.cyt.cycle + 1, begun := true } } :=
  ⟨rfl, h, .inl ⟨rfl, e, rfl⟩⟩

theorem begins_snap {s : State} (b l : Bool) (h : Runs s)
    (e : s.mbc.station ≠ .listening ∧ s.sli.prevHigh = true ∧ 0 < s.cyt.position ∧ s.cfg.fp.p / 2 ≤ s.cyt.position ∧
      (s.mbc.station = .aligning → s.cyt.adopted = false ∨ (snapped s).cyt.lockCount < 4)) :
    BeginsCycle (quietOrder b) s (.syncFall l (quietOrder b)) (snapped s) :=
  ⟨rfl, h, .inr ⟨⟨l, rfl⟩, e.1, e.2.1, e.2.2.1, e.2.2.2.1, e.2.2.2.2, rfl⟩⟩

/-- ALIGNING with an adopted cycle number 500 at the last position, with this lock count and align count. -/
def locking (lock align : Nat) (pending : Option PendingView) : State :=
  let t := falling (base .aligning) 4095
  { t with
    cyt := { t.cyt with cycle := 500, adopted := true, lockCount := lock }
    mbc := { t.mbc with alignCount := align, observed := { best := none, senders := [30], pending := pending } } }

/-- R52, R54: a snap within tolerance brings the lock count from 3 to 4 and the station to HAILING, with the count of the
snap in HAILING or in ALIGNING; at the 64th boundary the count taken first leaves it LISTENING. -/
theorem wit_SnapTaken_hails :
    Runs (locking 3 62 none) ∧ (boundaryCounted (snapped (locking 3 62 none))).cyt.lockCount = 4 ∧
    (locking 3 62 none).cyt.adopted = true ∧ NoSwitchDue (locking 3 62 none).mbc 501 ∧
    (let t := run (.syncFall true (quietOrder true)) (locking 3 63 none)
     t.mbc.station = .hailing ∧ t.mbc.hailInterval = 1 ∧ t.mbc.alignCount = 63 ∧ t.tli.requests.hail = true) ∧
    (let t := run (.syncFall false (quietOrder true)) (locking 3 62 none)
     t.mbc.station = .hailing ∧ t.mbc.hailInterval = 0 ∧ t.mbc.alignCount = 63 ∧ t.tli.requests.hail = true) ∧
    (run (.syncFall false (quietOrder true)) (locking 3 63 none)).mbc.station = .listening :=
  ⟨⟨rfl, rfl⟩, by decide, rfl, ⟨(fun _ h => by cases h), (fun _ h => by cases h)⟩, by decide, by decide, by decide⟩

/-- R56, R108: a view due at the boundary into 501 that lists the station admits it where the lock comes first; one that
does not, or one 9 ahead, is dealt with in HAILING. A lock count of 3 after the snap leaves it ALIGNING. -/
theorem wit_SnapTaken_views :
    lists [{ id := 20, legs := 2, new := false }] (base .aligning).cfg.id = true ∧
    (run (.syncFall true (quietOrder true))
      (locking 3 5 (pendingAt [{ id := 20, legs := 2, new := false }] 501))).mbc.station = .member ∧
    lists [{ id := 30, legs := 1, new := false }] (base .aligning).cfg.id = false ∧
    (run (.syncFall true (quietOrder true))
      (locking 3 5 (pendingAt [{ id := 30, legs := 1, new := false }] 501))).mbc.hailInterval = 1 ∧
    newer 501 510 = false ∧ 8 < ahead 510 501 ∧
    (run (.syncFall false (quietOrder true)) (locking 3 5 (pendingAt view.members 510))).mbc.observed.pending = none ∧
    (∃ u, BeginsCycle (quietOrder true) (locking 2 5 none) (.syncFall true (quietOrder true)) u) ∧
    (run (.syncFall true (quietOrder true)) (locking 2 5 none)).mbc.station = .aligning :=
  ⟨by decide, by decide, by decide, by decide, by decide, by decide, by decide,
   ⟨_, begins_snap _ _ ⟨rfl, rfl⟩ (by decide)⟩, by decide⟩

/-- A readout at the port while the boundary is taken. -/
theorem wit_WrapTaken_readout :
    Runs (atCode (atEnd (inView .member))) ∧ AwaitsCode (atCode (atEnd (inView .member))) ∧
    (atCode (atEnd (inView .member))).selLow = true ∧
    (run (.wrap { leaseFirst := true, readout := some { after := 0, byte := 0x10 } })
      (atCode (atEnd (inView .member)))).hpt.response.length = 34 :=
  ⟨⟨rfl, rfl⟩, ⟨rfl, rfl⟩, rfl, by decide⟩

/-- The part at its last position with the counts of the boundary timers given. -/
def timed (s : State) (n backoff lease age : Nat) : State :=
  let t := atEnd s
  { t with
    mbc := { t.mbc with alignCount := n, hailInterval := n, leaveCount := n, listenCount := n
                        backoff := if backoff = 0 then none else some backoff }
    plu := { t.plu with lease := lease, age := age } }

theorem wit_BoundaryCounts :
    (∃ u, BeginsCycle (quietOrder true) (timed (base .aligning) 62 0 0 0) (.wrap (quietOrder true)) u) ∧
    (∃ u, BeginsCycle (quietOrder false) (timed (base .hailing) 14 0 0 0) (.wrap (quietOrder false)) u) ∧
    (∃ u, BeginsCycle (quietOrder true) (timed (inView .leaving) 30 0 0 0) (.wrap (quietOrder true)) u) ∧
    (∃ u, BeginsCycle (quietOrder false) (timed (inView .member) 0 2 2 6) (.wrap (quietOrder false)) u) ∧
    (∃ u, BeginsCycle (quietOrder false) (falling (inView .member) 2048) (.syncFall true (quietOrder false)) u) ∧
    (∃ u, BeginsCycle (quietOrder false) (falling (base .aligning) 4095) (.syncFall true (quietOrder false)) u) ∧
    (timed (inView .member) 0 2 2 6).mbc.current = some view ∧ (timed (inView .member) 0 2 2 6).mbc.pending = none ∧
    (∀ q ∈ (timed (inView .member) 0 2 2 6).peers, q.silence < 31) ∧
    (base .aligning).mbc.observed.pending = none :=
  ⟨⟨_, begins_wrap _ ⟨rfl, rfl⟩ (by decide)⟩, ⟨_, begins_wrap _ ⟨rfl, rfl⟩ (by decide)⟩, ⟨_, begins_wrap _ ⟨rfl, rfl⟩ (by decide)⟩,
   ⟨_, begins_wrap _ ⟨rfl, rfl⟩ (by decide)⟩, ⟨_, begins_snap _ _ ⟨rfl, rfl⟩ (by decide)⟩, ⟨_, begins_snap _ _ ⟨rfl, rfl⟩ (by decide)⟩,
   rfl, rfl, by decide, rfl⟩

/-- R115: at age 7 the boundary requests no heartbeat with the claimed flag clear, or with a CLAIM requested or in flight. -/
theorem wit_BoundaryCounts_age :
    let s := timed (inView .member) 0 2 2 7
    let clear := { s with plu := { s.plu with claimed := false } }
    let asked := { s with tli := { s.tli with requests := { s.tli.requests with claim := true } } }
    let sent := sending s .claim (claim 7 500)
    (∃ u, BeginsCycle (quietOrder true) clear (.wrap (quietOrder true)) u) ∧
    (∃ u, BeginsCycle (quietOrder true) asked (.wrap (quietOrder true)) u) ∧
    (∃ u, BeginsCycle (quietOrder true) sent (.wrap (quietOrder true)) u) ∧
    (∃ f, sent.tli.flight = some f ∧ f.kind = .claim) ∧
    (run (.wrap (quietOrder true)) clear).plu.age = 8 ∧
    (run (.wrap (quietOrder true)) clear).tli.requests.claim = false ∧
    (run (.wrap (quietOrder true)) sent).tli.requests.claim = false ∧
    (run (.wrap (quietOrder true)) s).tli.requests.claim = true :=
  ⟨⟨_, begins_wrap _ ⟨rfl, rfl⟩ (by decide)⟩, ⟨_, begins_wrap _ ⟨rfl, rfl⟩ (by decide)⟩,
   ⟨_, begins_wrap _ ⟨rfl, rfl⟩ (by decide)⟩, ⟨_, rfl, rfl⟩, by decide, by decide, by decide, by decide⟩

/-- SYNC low for P ticks. -/
def lowLong (s : State) : State := { s with sli := { s.sli with stuckCount := 4096 } }

theorem wit_SyncLineTaken :
    (run (.wrap (quietOrder true)) (atEnd (inView .member))).sli.markerActive = true ∧
    Runs (lowLong (base .listening)) ∧ Runs (lowLong (inView .leaving)) ∧ Runs (lowLong (base .aligning)) ∧
    Runs (lowLong (base .hailing)) ∧ Runs (lowLong (inView .member)) ∧
    (lowLong (inView .member)).cfg.fp.p ≤ (lowLong (inView .member)).sli.stuckCount ∧
    (lowLong (inView .member)).sli.stuck = false :=
  ⟨by decide, ⟨rfl, rfl⟩, ⟨rfl, rfl⟩, ⟨rfl, rfl⟩, ⟨rfl, rfl⟩, ⟨rfl, rfl⟩, by decide, rfl⟩

theorem wit_TickTaken :
    (base .listening).cyt.prescRunning = true ∧ (base .listening).mbc.station.running = true ∧
    2 ^ (base .listening).cfg.fp.prescale ≤ (base .listening).cyt.presc + 1 ∧
    (base .listening).cyt.position + 1 < (base .listening).cfg.fp.p ∧ (base .listening).tli.rx.phase = .waiting ∧
    (base .listening).tli.flight = none ∧ (base .listening).tli.requests = Requests.empty ∧
    (base .listening).los.latch ≠ .asserted ∧ 0 < (base .listening).cfg.fp.tb ∧ 126 + 1 < 2 ^ 7 := by decide

theorem coherent_align64 :
    Coherent { base .aligning with mbc := { (base .aligning).mbc with alignCount := 64 } } := by
  constructor <;> first | decide | (intro k; cases k <;> decide)

theorem coherent_leave32 :
    Coherent { inView .leaving with mbc := { (inView .leaving).mbc with leaveCount := 32 } } := by
  constructor <;> first | decide | (intro k; cases k <;> decide)

/-- HAILING with the interval passed. -/
def hailingAt (n : Nat) : State :=
  { base .hailing with mbc := { (base .hailing).mbc with hailInterval := 16, hailCount := n } }

theorem wit_TimersTaken :
    (base .aligning).mbc.station = .aligning ∧ (inView .leaving).mbc.station = .leaving ∧
    (hailingAt 3).mbc.hailCount < 4 ∧ (hailingAt 4).mbc.hailCount = 4 ∧ (hailingAt 4).mbc.hailInterval = 16 := by decide

/-- The MEMBER of the tests with plan unit counts given. -/
def counted (age lease : Nat) : State :=
  { inView .member with
    cyt := { (inView .member).cyt with position := 0, begun := true }
    plu := { (inView .member).plu with age := age, lease := lease, counting := true } }

theorem wit_TimersTaken_requests :
    (counted 8 1).mbc.station = .member ∧ (counted 8 1).plu.age = 8 ∧ (counted 8 1).plu.claimed = true ∧
    (counted 8 1).tli.requests.claim = false ∧ (counted 8 1).cyt.begun = true ∧ (counted 8 1).plu.counting = true ∧
    (counted 8 1).plu.lease = 1 ∧
    (0 < (counted 8 1).cfg.legs ∧ LastPut (counted 8 1) 0 400) ∧ (counted 8 1).tli.flight = none ∧
    (∀ leg, leg < 2 → LastPut { counted 8 1 with plu := { (counted 8 1).plu with leg0 := OwnLeg.zero } } leg 0) ∧
    (some 0 : Option Nat) = ({ inView .member with mbc := { (inView .member).mbc with backoff := some 0 } }).mbc.backoff := by
  simp only [lastPut_spec]
  decide

/-- LISTENING at the wrap that ends the listen window. -/
def founding : State :=
  { base .listening with
    cyt := { (base .listening).cyt with begun := true }
    sli := { (base .listening).sli with prevHigh := true }
    mbc := { (base .listening).mbc with listenCount := 84 } }

theorem wit_FoundGroupTaken :
    Coherent founding ∧ founding.mbc.station = .listening ∧ founding.cyt.begun = true ∧
    founding.mbc.listenCount = 64 + founding.cfg.id ∧ founding.sli.stuck = false ∧ founding.sli.prevHigh = true :=
  ⟨by constructor <;> first | decide | (intro k; cases k <;> decide), by decide, by decide, by decide, by decide, by decide⟩

/-- The part in the tests' view with a view of these members pending at this cycle. -/
def switching (st : Station) (ms : List Member) (c : U16) : State :=
  { inView st with
    cyt := { (inView st).cyt with position := 0, begun := true }
    mbc := { (inView st).mbc with pending := pendingAt ms c } }

theorem wit_ViewSwitchTaken :
    (switching .member view.members 500).mbc.pending = pendingAt view.members 500 ∧
    lists view.members 20 = true ∧ listsNew view.members 20 = false ∧
    listsNew [{ id := 20, legs := 2, new := true }] 20 = true ∧
    lists [{ id := 30, legs := 1, new := false }] 20 = false ∧ newer 501 500 = true ∧
    (switching .leaving view.members 500).mbc.station = .leaving ∧
    (∀ q ∈ (switching .member view.members 500).peers, q.silence < 32) ∧
    (run .viewSwitch (switching .member [{ id := 30, legs := 1, new := false }] 500)).mbc.station = .aligning ∧
    (switching .member view.members 500).cyt.begun = true ∧
    (run .viewSwitch (switching .leaving alone20 499)).mbc.station = .leaving := by decide

/-- R99, R116, R121: the switch that lists station 20 anew discards its published pending, and the table is incomplete until
station 30 has been heard. -/
theorem wit_ViewSwitchTaken_plan :
    let ms : List Member := [{ id := 20, legs := 2, new := true }, { id := 30, legs := 1, new := false }]
    let s := switching .member ms 500
    let waiting : OwnLeg := { s.plu.leg0 with pending := some { demand := 7, applyCycle := 502 } }
    let t := run .viewSwitch { s with plu := { s.plu with leg0 := waiting } }
    t.plu.leg0.published = 0 ∧ t.plu.leg0.pending = none ∧ t.plu.complete = false ∧
    t.plu.plan.map (fun p => (p.epoch, p.n)) = some (8, 3) ∧ t.plu.prev0 = currentWindow s 0 ∧
    (run .viewSwitch (switching .leaving alone20 499)).plu.complete = true := by decide

/-- LISTENING at the last position before the listen window ends. -/
def nearFounding : State :=
  let t := timed (base .listening) 83 0 0 0
  { t with sli := { t.sli with prevHigh := true } }

theorem wit_BoundaryEndsTimers :
    (∃ u, BeginsCycle (quietOrder true) (timed (base .aligning) 63 0 0 0) (.wrap (quietOrder true)) u) ∧
    (∃ u, BeginsCycle (quietOrder true) (timed (base .hailing) 15 0 0 0) (.wrap (quietOrder true)) u) ∧
    (∃ u, BeginsCycle (quietOrder true) (timed (inView .leaving) 31 0 0 0) (.wrap (quietOrder true)) u) ∧
    (∃ u, BeginsCycle (quietOrder true) nearFounding (.wrap (quietOrder true)) u) ∧
    nearFounding.mbc.listenCount + 1 = 64 + nearFounding.cfg.id ∧
    (∃ u, BeginsCycle (quietOrder true) (atEnd (switching .leaving view.members 501)) (.wrap (quietOrder true)) u) ∧
    (∃ u, BeginsCycle (quietOrder true) (atEnd (switching .member view.members 501)) (.wrap (quietOrder true)) u) ∧
    (switching .member view.members 501).cyt.cycle + 1 = 501 ∧
    (switching .member view.members 501).mbc.pending = pendingAt view.members 501 :=
  ⟨⟨_, begins_wrap _ ⟨rfl, rfl⟩ (by decide)⟩, ⟨_, begins_wrap _ ⟨rfl, rfl⟩ (by decide)⟩, ⟨_, begins_wrap _ ⟨rfl, rfl⟩ (by decide)⟩,
   ⟨_, begins_wrap _ ⟨rfl, rfl⟩ (by decide)⟩, by decide, ⟨_, begins_wrap _ ⟨rfl, rfl⟩ (by decide)⟩,
   ⟨_, begins_wrap _ ⟨rfl, rfl⟩ (by decide)⟩, by decide, rfl⟩

/-- A follower with a view of these members observed pending at this cycle. -/
def observing (st : Station) (ms : List Member) (c : U16) : State :=
  { base st with
    cyt := { (base st).cyt with cycle := 500, adopted := true, begun := true }
    mbc := { (base st).mbc with observed := { best := none, senders := [30], pending := pendingAt ms c } } }

/-- R99, R108: held views whose switch is still to come at the boundary into cycle 501, the observed one 1 and 8 ahead. -/
theorem wit_BoundaryCounts_held :
    NoSwitchDue (switching .member view.members 502).mbc 501 ∧ NoSwitchDue (switching .leaving alone20 509).mbc 501 ∧
    NoSwitchDue (observing .aligning view.members 509).mbc 501 ∧ NoSwitchDue (observing .hailing view.members 502).mbc 501 ∧
    (∃ u, BeginsCycle (quietOrder true) (atEnd (observing .hailing view.members 502)) (.wrap (quietOrder true)) u ∧
      u.cyt.cycle = 501) ∧
    (run (.wrap (quietOrder true)) (atEnd (observing .hailing view.members 502))).mbc.observed.pending =
      pendingAt view.members 502 := by
  refine ⟨?_, ?_, ?_, ?_, ⟨_, begins_wrap _ ⟨rfl, rfl⟩ (by decide), by decide⟩, by decide⟩ <;>
    (constructor <;> (intro p h; cases h <;> decide))

/-- R108: an observed view 9 ahead of the boundary into cycle 501, at an interval that goes on and at one that ends. -/
theorem wit_BoundaryEndsTimers_discard :
    newer 501 510 = false ∧ 8 < ahead 510 501 ∧
    (∃ u, BeginsCycle (quietOrder true) (atEnd (observing .aligning view.members 510)) (.wrap (quietOrder true)) u) ∧
    (run (.wrap (quietOrder true)) (atEnd (observing .aligning view.members 510))).mbc.observed.pending = none ∧
    (∃ u, BeginsCycle (quietOrder true) (timed (observing .hailing view.members 510) 15 0 0 0) (.wrap (quietOrder true)) u) ∧
    (run (.wrap (quietOrder true)) (timed (observing .hailing view.members 510) 15 0 0 0)).mbc.observed.pending = none ∧
    (run (.wrap (quietOrder true)) (timed (observing .aligning view.members 510) 63 0 0 0)).mbc.station = .listening :=
  ⟨by decide, by decide, ⟨_, begins_wrap _ ⟨rfl, rfl⟩ (by decide)⟩, by decide, ⟨_, begins_wrap _ ⟨rfl, rfl⟩ (by decide)⟩,
   by decide, by decide⟩

theorem wit_ObservedSwitchTaken :
    (observing .hailing view.members 500).mbc.observed.pending = pendingAt view.members 500 ∧
    (run .observedSwitch (observing .hailing view.members 500)).mbc.station = .member ∧
    (run .observedSwitch (observing .aligning view.members 499)).mbc.station = .aligning ∧
    (observing .hailing view.members 500).cyt.begun = true ∧
    newer 500 509 = false ∧ 8 < ahead 509 500 := by decide

theorem wit_BoundaryEndsTimers_observed :
    (∃ u, BeginsCycle (quietOrder true) (atEnd (observing .hailing view.members 501)) (.wrap (quietOrder true)) u) ∧
    lists view.members (base .hailing).cfg.id = true ∧
    (∃ u, BeginsCycle (quietOrder true) (atEnd (observing .hailing [{ id := 30, legs := 1, new := false }] 501))
      (.wrap (quietOrder true)) u) ∧
    lists [{ id := 30, legs := 1, new := false }] (base .hailing).cfg.id = false ∧
    (∃ u, BeginsCycle (quietOrder true) (atEnd (observing .aligning view.members 501)) (.wrap (quietOrder true)) u) ∧
    (observing .aligning view.members 501).mbc.observed.pending = pendingAt view.members 501 ∧
    (observing .hailing view.members 501).cyt.cycle + 1 = 501 :=
  ⟨⟨_, begins_wrap _ ⟨rfl, rfl⟩ (by decide)⟩, by decide, ⟨_, begins_wrap _ ⟨rfl, rfl⟩ (by decide)⟩, by decide,
   ⟨_, begins_wrap _ ⟨rfl, rfl⟩ (by decide)⟩, rfl, by decide⟩

/-- The switches at a snap: the part at its last position, SYNC high before the fall. -/
theorem wit_BoundaryEndsTimers_snap :
    (∃ u, BeginsCycle (quietOrder true) (falling (switching .leaving view.members 501) 4095)
      (.syncFall true (quietOrder true)) u) ∧
    (∃ u, BeginsCycle (quietOrder false) (falling (switching .member alone20 501) 2048)
      (.syncFall false (quietOrder false)) u) ∧
    (∃ u, BeginsCycle (quietOrder true) (falling (observing .hailing view.members 501) 4095)
      (.syncFall true (quietOrder true)) u) ∧
    (run (.syncFall true (quietOrder true)) (falling (observing .hailing view.members 501) 4095)).mbc.station = .member :=
  ⟨⟨_, begins_snap _ _ ⟨rfl, rfl⟩ (by decide)⟩, ⟨_, begins_snap _ _ ⟨rfl, rfl⟩ (by decide)⟩,
   ⟨_, begins_snap _ _ ⟨rfl, rfl⟩ (by decide)⟩, by decide⟩

/-- R59, R60: the 32nd boundary of a LEAVING station is its view's switch, which excludes it or lists it still. R91, R119:
a MEMBER's switch with the backoff timer at 1 and with the lease at 1, counted before the switch and after it, and with a
view that excludes it. -/
theorem wit_BoundaryEndsTimers_both :
    (let s := timed (switching .leaving alone20 501) 31 0 0 0
     (∃ u, BeginsCycle (quietOrder true) s (.wrap (quietOrder true)) u) ∧ s.mbc.pending = pendingAt alone20 501 ∧
     lists alone20 s.cfg.id = true ∧ (run (.wrap (quietOrder true)) s).mbc.reason = .leaveTimeout) ∧
    (let s := timed (switching .leaving [{ id := 30, legs := 1, new := false }] 501) 31 0 0 0
     (∃ u, BeginsCycle (quietOrder true) s (.wrap (quietOrder true)) u) ∧
     lists [{ id := 30, legs := 1, new := false }] s.cfg.id = false ∧
     (run (.wrap (quietOrder true)) s).mbc.reason = .hostLeave) ∧
    (let s := timed (switching .member view.members 501) 0 1 1 0
     (∃ u, BeginsCycle (quietOrder true) s (.wrap (quietOrder true)) u) ∧
     (run (.wrap (quietOrder true)) s).evq.records.map (·.kind) = [.leaseExpired, .viewChanged] ∧
     (run (.wrap (quietOrder false)) s).evq.records.map (·.kind) = [.viewChanged, .leaseExpired] ∧
     (run (.wrap (quietOrder true)) s).tli.requests.recast = true) ∧
    (let s := timed (switching .member [{ id := 30, legs := 1, new := false }] 501) 0 1 1 0
     (run (.wrap (quietOrder true)) s).plu.lease = 0 ∧ (run (.wrap (quietOrder false)) s).plu.lease = 1 ∧
     (run (.wrap (quietOrder false)) s).mbc.station = .aligning) :=
  ⟨⟨⟨_, begins_wrap _ ⟨rfl, rfl⟩ (by decide)⟩, rfl, by decide, by decide⟩,
   ⟨⟨_, begins_wrap _ ⟨rfl, rfl⟩ (by decide)⟩, by decide, by decide⟩,
   ⟨⟨_, begins_wrap _ ⟨rfl, rfl⟩ (by decide)⟩, by decide, by decide, by decide⟩, by decide⟩

/-- R15, R56: a follower that takes the switch cycle from a CLAIM and then restarts late is at no wrap or snap, so that
the examination is not due there. -/
theorem test_late_restart_examines_nothing :
    let s := run (.syncFall true (quietOrder true)) (falling (observing .hailing view.members 500) 100)
    s.cyt.position = 0 ∧ s.mbc.observed.pending = pendingAt view.members 500 ∧ run .observedSwitch s = s := by decide

/-- R119: a lease count of 1 held from before admission does not expire at the boundary of admission, neither at the
boundary's own counting nor by the row. -/
theorem test_lease_at_admission :
    let t := run (.wrap (quietOrder false)) (atEnd { observing .hailing view.members 501 with
      plu := { (base .hailing).plu with lease := 1 } })
    t.mbc.station = .member ∧ t.plu.lease = 1 ∧ run .leaseExpiry t = t := by decide

/-- R118: a boundary that has counted the lease from 2 to 1 counts it no further; the next one expires it. -/
theorem test_lease_counted_once :
    let t := run (.wrap (quietOrder true)) (timed (inView .member) 0 0 2 0)
    t.plu.lease = 1 ∧ run .leaseExpiry t = t ∧
    (run (.wrap (quietOrder true)) { t with cyt := { t.cyt with position := 4095 } }).plu.lease = 0 := by decide

/-- The line as the assembler finds it. -/
def onLine (s : State) (phase : RxPhase) (idle cell tick : Nat) : State :=
  { s with tli := { s.tli with
      idle := idle, prevHigh := true, rx := { Rx.idle with phase := phase, cell := cell, tick := tick } } }

/-- A receiver that has read this many cells of station 30's CLAIM, its next one in progress. -/
def following (phase : RxPhase) (n tick : Nat) : State :=
  let s := onLine (base .listening) phase 0 n tick
  { s with tli := { s.tli with rx := { s.tli.rx with bits := (frameCells .claim 30 (claim 7 500)).take n } } }

/-- A sender of a CLAIM that has read this many of its cells, the next one in progress. -/
def driving (phase : RxPhase) (n tick : Nat) : State :=
  let s := sending (onLine (inView .member) phase 0 n tick) .claim (claim 7 500)
  { s with tli := { s.tli with rx := { s.tli.rx with bits := (frameCells .claim 20 (claim 7 500)).take n } } }

/-- R11, R26, R37: the late restart that brings the fourth lock notes the boundary in the frame being received and renews
the HAIL in flight; one that does not leaves the flight. -/
theorem wit_FallsTaken_late :
    let s := sending (onLine { falling (base .aligning) 64 with
      cyt := { (base .aligning).cyt with position := 64, lockCount := 3, adopted := true } } .receiving 0 3 4) .hail hail
    let u := { s with mbc := { s.mbc with station := .hailing } }
    let t := run (.syncFall false (quietOrder false)) s
    s.mbc.station.following = true ∧ s.sli.prevHigh = true ∧ s.cyt.position < s.cfg.fp.p / 2 ∧
    t.mbc.station = .hailing ∧ t.tli.rx = { s.tli.rx with boundary := true } ∧
    t.tli.flight = some { kind := .hail, payload := hail, renewal := true } ∧
    (run (.syncFall false (quietOrder false)) u).tli = { u.tli with rx := { u.tli.rx with boundary := true } } := by decide

theorem wit_TalkMarkTaken :
    Runs (onLine (base .listening) .waiting 8 0 0) ∧ (onLine (base .listening) .waiting 8 0 0).tli.prevHigh = true ∧
    (base .listening).cfg.fp.tb ≤ (onLine (base .listening) .waiting 8 0 0).tli.idle ∧
    (onLine (base .listening) .waiting 7 0 0).tli.idle < (base .listening).cfg.fp.tb ∧
    (base .listening).cfg.fp.tb / 2 < (following .receiving 2 4).tli.rx.tick + 1 ∧
    (following .receiving 2 3).tli.rx.tick + 1 ≤ (base .listening).cfg.fp.tb / 2 ∧
    (following .faulted 8 8).tli.rx.phase = .faulted :=
  ⟨⟨rfl, rfl⟩, by decide, by decide, by decide, by decide, by decide, by decide⟩

/-- In a key cell, a payload cell and the last check cell of a frame received and of a frame sent, and in its veto cell. -/
theorem wit_TalkMarkTaken_cells :
    Runs (driving .receiving 60 7) ∧
    (¬ AtVeto (following .receiving 2 7) ∧ ¬ AtVeto (following .receiving 60 7) ∧ ¬ AtVeto (following .receiving 125 3) ∧
      AtVeto (following .receiving 126 7) ∧ AtVeto (following .receiving 126 3)) ∧
    (¬ AtVeto (driving .receiving 60 7) ∧ ¬ AtVeto (driving .receiving 125 3) ∧ AtVeto (driving .receiving 126 7) ∧
      AtVeto (driving .receiving 126 3) ∧ AtVeto (driving .faulted 126 7) ∧ ¬ AtVeto (driving .faulted 60 7)) := by
  refine ⟨⟨rfl, rfl⟩, ?_⟩
  simp only [← inVetoCell_iff]
  decide +kernel

/-- R24: where the part's own start mark leaves the line high, the idle count goes on. -/
theorem test_idle_at_a_weak_mark :
    (run (.tick { sync := true, talk := true, fault := true, transmits := false }
        { stages := [], lockFirst := true, boundary := quietOrder true, tableFirst := true })
      { onLine (base .hailing) .waiting 16 0 0 with tli := { (onLine (base .hailing) .waiting 16 0 0).tli with
          requests := { Requests.empty with hail := true } } }).tli.idle = 16 := by decide +kernel

/-- R35: an early mark in the last check cell is a bit error of the sender at once. -/
theorem test_early_mark_in_last_check_cell :
    let s := run .talkMark (driving .receiving 125 3)
    s.tli.rx.fault = some .earlyMark ∧ (run .bitError s).tli.flight = none ∧ (run .bitError s).tli.failures = 1 := by
  decide +kernel

/-- Any levels and any order, FAULT deasserted. -/
def level (sync talk : Bool) : Pins := { sync := sync, talk := talk, fault := true, transmits := true }

/-- An order of a tick's acts, with no readout at its boundary. -/
def acts (stages : List Stage) : TickOrder :=
  { stages := stages, lockFirst := true, boundary := quietOrder true, tableFirst := true }

/-- SYNC was high, and no marker is driven. -/
def highSync (s : State) : State := { s with sli := { s.sli with prevHigh := true } }

/-- A marker with ticks left. -/
def marking (n : Nat) : State :=
  { inView .member with sli := { (inView .member).sli with markerActive := true, markerLeft := n, prevHigh := false } }

theorem wit_TickDoesTheRows :
    OnTick (highSync (atEnd (inView .member))) (level true true) ∧ TalkRests (highSync (atEnd (inView .member))) ∧
    (run (.wrap (quietOrder true)) (syncSampled true (talkHigh (edge (highSync (atEnd (inView .member))))))).sli.markerActive
      = true ∧
    (run (.wrap (quietOrder true)) (syncSampled true (talkHigh (edge (highSync (atEnd (base .aligning))))))).sli.markerActive
      = false ∧
    (run (.wrap (quietOrder true)) (syncSampled true (talkHigh (edge (highSync (atEnd
      { hailingAt 4 with mbc := { (hailingAt 4).mbc with hailInterval := 15 } })))))).mbc.station = .detached ∧
    OnTick (falling (inView .member) 2048) (level false true) ∧ OnTick (falling (base .listening) 0) (level false true) ∧
    OnTick (falling (inView .member) 0) (level false true) ∧ OnTick (marking 2) (level true true) ∧
    TalkRests (marking 1) ∧ (marking 2).sli.stuckCount + 1 < (marking 2).cfg.fp.p ∧
    (acts [.talk, .fault, .sync, .cycle]).boundary.readout = none :=
  ⟨⟨⟨rfl, rfl⟩, by decide, by decide⟩, ⟨rfl, rfl, rfl⟩, by decide, by decide, by decide,
   ⟨⟨rfl, rfl⟩, by decide, by decide⟩, ⟨⟨rfl, rfl⟩, by decide, by decide⟩, ⟨⟨rfl, rfl⟩, by decide, by decide⟩,
   ⟨⟨rfl, rfl⟩, by decide, by decide⟩, ⟨rfl, rfl, rfl⟩, by decide, rfl⟩

/-- RECEIVING two cells, in the tick before the sample tick. -/
def sampling : State :=
  let s := onLine (base .listening) .receiving 6 2 3
  { s with tli := { s.tli with prevHigh := false, rx := { s.tli.rx with bits := [false, true] } } }

theorem wit_TickDoesTheRows_talk :
    OnTick sampling (level true false) ∧ sampling.tli.rx.tick + 1 = sampling.cfg.fp.tb / 2 ∧
    sampling.tli.idle + 1 < sampling.cfg.fp.tb ∧ sampling.tli.stuckCount + 1 < sampling.cfg.fp.tb ∧
    1 ≤ sampling.tli.rx.bits.length ∧ sampling.tli.rx.bits.length < 13 ∧ sampling.tli.rx.vetoing = false ∧
    sampling.cyt.position + 1 < sampling.cfg.fp.p ∧
    OnTick (onLine (base .listening) .waiting 8 0 0) (level true false) ∧
    TalkRests (onLine (base .listening) .waiting 8 0 0) ∧ 4 ≤ sampling.cfg.fp.tb :=
  ⟨⟨⟨rfl, rfl⟩, by decide, by decide⟩, by decide, by decide, by decide, by decide, by decide, by decide, by decide,
   ⟨⟨rfl, rfl⟩, by decide, by decide⟩, ⟨rfl, rfl, rfl⟩, by decide⟩

/-- A sender within a cell that it drives as 1, and as 0. -/
theorem wit_TickDrivesTheLines :
    OnTick (driving .receiving 60 4) (level true true) ∧ (driving .receiving 60 4).sli.markerActive = false ∧
    (driving .receiving 60 4).cyt.position + 1 < (driving .receiving 60 4).cfg.fp.p ∧
    (frameCells .claim 20 (claim 7 500))[1]? = some true ∧ (frameCells .claim 20 (claim 7 500))[9]? = some false ∧
    (driving .receiving 1 1).tli.rx.tick + 1 ≤ 8 / 4 ∧ (driving .receiving 9 5).tli.rx.tick + 1 ≤ 3 * (8 / 4) ∧
    (driving .receiving 9 6).tli.rx.tick + 1 ≠ 8 / 2 ∧ (driving .receiving 9 6).tli.rx.lastBit = none ∧
    (driving .receiving 125 8).cfg.fp.tb ≤ (driving .receiving 125 8).tli.rx.tick ∧
    (driving .receiving 125 8).tli.rx.cell < vetoCell (claim 7 500).length ∧ (level true true).transmits = true ∧
    (driving .receiving 125 8).tli.prevHigh = true :=
  ⟨⟨⟨rfl, rfl⟩, by decide, by decide⟩, by decide, by decide, by decide, by decide, by decide, by decide, by decide, by decide,
   by decide, by decide, by decide, by decide⟩

/-- A receiver that holds the veto, pulling and past its pull. -/
def holding (tick : Nat) : State :=
  let s := onLine (base .listening) .faulted 0 9 tick
  { s with tli := { s.tli with prevHigh := false, rx := { s.tli.rx with vetoing := true } } }

theorem wit_TickDrivesTheLines_rest :
    OnTick (holding 3) (level true true) ∧ (holding 3).tli.rx.vetoing = true ∧ (holding 5).tli.rx.tick + 1 ≤ 3 * (8 / 4) ∧
    3 * (8 / 4) < (holding 6).tli.rx.tick + 1 ∧ (holding 3).tli.stuckCount + 1 < 16 * 8 ∧
    TalkRests (inView .member) ∧ (inView .member).locked = true ∧ (inView .member).los.latch ≠ .asserted ∧
    (run .faultAsserted (inView .member)).los.latch = .asserted ∧ TalkRests (run .faultAsserted (inView .member)) ∧
    OnTick { inView .member with sli := { (inView .member).sli with stuckCount := 4095 } } (level false true) ∧
    (inView .member).sli.prevHigh = false ∧ 4095 + 1 = (inView .member).cfg.fp.p ∧
    OnTick { inView .member with tli := { (inView .member).tli with stuckCount := 127 } } (level true false) ∧
    (inView .member).tli.prevHigh = false ∧ 127 + 1 = 16 * (inView .member).cfg.fp.tb :=
  ⟨⟨⟨rfl, rfl⟩, by decide, by decide⟩, by decide, by decide, by decide, by decide, ⟨rfl, rfl, rfl⟩, by decide, by decide,
   by decide, ⟨rfl, rfl, rfl⟩, ⟨⟨rfl, rfl⟩, by decide, by decide⟩, by decide, by decide,
   ⟨⟨rfl, rfl⟩, by decide, by decide⟩, by decide, by decide⟩

/-- The part with a request set and the line idle. -/
def asking (s : State) (k : FrameKind) : State :=
  let t := onLine s .waiting 16 0 0
  { t with tli := { t.tli with requests := Requests.empty.setKind k true } }

/-- A MEMBER with a change to propose. -/
def proposing (ch : List ChangeEntry) : State :=
  let s := asking (inView .member) .recast
  { s with mbc := { s.mbc with changes := ch } }

theorem wit_FrameOriginateTaken :
    Runs (asking (inView .leaving) .leave) ∧
    Snapshot (asking (inView .leaving) .leave) (asking (inView .leaving) .leave) .leave [0, 7] ∧
    Snapshot (asking (base .hailing) .hail) (asking (base .hailing) .hail) .hail
      (encodeHail { legs := 2, fp := cfg.fp }) ∧
    (∃ payload, Snapshot (asking (inView .member) .claim) (asking (inView .member) .claim) .claim payload) ∧
    (∃ u payload, Snapshot (proposing oneChange) u .recast payload) ∧
    (buildRecast (proposing [])).2 = none ∧ (proposing []).tli.requests.recast = true ∧
    (buildRecast (proposing [])).1.tli.requests.claim = false ∧
    2 * (inView .member).cfg.fp.tb ≤ (proposing []).tli.idle ∧ (proposing []).tli.prevHigh = true ∧
    (inView .member).cfg.fp.tb ≤ (onLine (base .listening) .waiting 8 0 0).tli.idle := by
  refine ⟨⟨rfl, rfl⟩, .inr ⟨.inl ⟨rfl, rfl⟩, .inl ⟨rfl, rfl, view, rfl, by decide⟩⟩, ?_, ?_, ?_, by decide, by decide,
    by decide, by decide, by decide, by decide⟩
  · exact .inr ⟨.inl ⟨rfl, rfl⟩, .inr (.inl ⟨rfl, rfl, rfl, by decide⟩)⟩
  · exact ⟨_, .inr ⟨.inl ⟨rfl, rfl⟩, .inr (.inr ⟨rfl, rfl, rfl, rfl, view, rfl, rfl⟩)⟩⟩
  · exact ⟨_, _, .inl ⟨rfl, rfl, _, rfl, rfl⟩⟩

theorem wit_RecastBuilt :
    let s := { inView .member with mbc := { (inView .member).mbc with changes := oneChange } }
    baseView s = some view ∧ ((buildRecast s).2.map (fun r => r.members.map (fun m => (m.id, m.new)))) =
      some [(20, false), (30, false), (31, true)] := by decide

theorem wit_RecastBuilt_changes :
    baseView (proposing oneChange) = some view ∧ (view.members.map (·.id)).Pairwise (· < ·) ∧
    (oneChange.map (·.id)).Nodup ∧ lists view.members 31 = false ∧
    (buildRecast (proposing [{ id := 30, change := .remove .lost, trigger := 500 }])).2.isSome = true ∧
    (buildRecast (proposing [{ id := 30, change := .refresh 2, trigger := 500 }])).2.isSome = true ∧
    (buildRecast (proposing [{ id := 30, change := .add 2, trigger := 500 }])).2 = none ∧
    (buildRecast (proposing [{ id := 31, change := .remove .leave, trigger := 500 }])).2 = none := by decide

/-- R92, R93: a pending view of station 30 alone and a REMOVE of it leave no member, and the RECAST has 11 bytes (log 38), a
length that no receiver takes (R25). -/
theorem test_recast_of_no_member :
    let p := proposing [{ id := 30, change := .remove .lost, trigger := 500 }]
    let s := { p with mbc := { p.mbc with pending := pendingAt [{ id := 30, legs := 1, new := false }] 504 } }
    (buildRecast s).2.map (fun r => (r.members, (encodeRecast r).length)) = some ([], 11) ∧
    legalLength .recast 11 = false := by decide

/-- A view of sixteen legs: station 20 and fifteen others. -/
def fullView : List Member := (List.range 16).map (fun i => { id := 20 + i, legs := 1, new := false })

/-- The walk of an ADD with room, of an ADD without, and of a leg count that finds room or none. -/
theorem wit_RecastBuilt_walks :
    Walked view.members oneChange (view.members ++ [{ id := 31, legs := 1, new := false }]) oneChange [] false ∧
    Walked fullView [{ id := 40, change := .add 1, trigger := 500 }] fullView [] [40] false ∧
    Walked fullView [{ id := 21, change := .refresh 2, trigger := 500 }] fullView
      [{ id := 21, change := .refresh 2, trigger := 500 }] [] true ∧
    Walked view.members [{ id := 30, change := .refresh 2, trigger := 500 }]
      [{ id := 20, legs := 2, new := false }, { id := 30, legs := 2, new := false }]
      [{ id := 30, change := .refresh 2, trigger := 500 }] [] true := by
  refine ⟨.inserted .start (.inl rfl) (by decide) (by decide) (by decide),
    .noRoom .start (.inl rfl) (by decide) (by decide), ?_, ?_⟩
  · have h := Walked.refreshed (base := fullView) (e := { id := 21, change := .refresh 2, trigger := 500 }) .start rfl
      (by decide) rfl
    rw [if_neg (by decide)] at h
    exact h
  · have h := Walked.refreshed (base := view.members) (e := { id := 30, change := .refresh 2, trigger := 500 }) .start rfl
      (by decide) rfl
    rw [if_pos (by decide)] at h
    exact h

/-- An ADD dropped for want of room leaves the list, posts HAIL_REFUSED(FULL) and carries nothing. -/
theorem wit_RecastBuilt_drop :
    let s := { proposing [{ id := 40, change := .add 1, trigger := 500 }] with
      mbc := { (inView .member).mbc with
        current := some { view with members := fullView }, changes := [{ id := 40, change := .add 1, trigger := 500 }] } }
    baseView s = some { view with members := fullView } ∧ (fullView.map (·.id)).Pairwise (· < ·) ∧
    (buildRecast s).2 = none ∧ (buildRecast s).1.mbc.changes = [] ∧
    ((buildRecast s).1.evq.records.map (fun e => (e.kind, e.station, e.detail))) =
      [(.hailRefused, some 40, some { code := 1, value := 0 })] := by decide

/-- A sender of a CLAIM in a cell with the value read. -/
def inCell (cell : Nat) (b : Bool) (failures : Nat) : State :=
  let s := sending (onLine (inView .member) .receiving 0 cell 4) .claim (claim 7 500)
  { s with tli := { s.tli with rx := { s.tli.rx with lastBit := some b }, failures := failures } }

/-- The part with a whole frame whose veto cell read 0. -/
def vetoed (s : State) : State :=
  let t := withFrame s .claim 30 (claim 7 500)
  { t with tli := { t.tli with rx := { t.tli.rx with lastBit := some false } } }

theorem wit_TalkFaultsTaken :
    Runs (inCell 1 false 0) ∧ (frameCells .claim 20 (claim 7 500))[1]? = some true ∧
    (frameCells .claim 20 (claim 7 500))[4]? = some true ∧ (frameCells .claim 21 (claim 7 500))[8]? = some true ∧
    Runs (inCell 9 true 15) ∧ (frameCells .claim 20 (claim 7 500))[9]? = some false ∧
    (inCell 9 true 15).tli.failures = 15 ∧ 9 < vetoCell (claim 7 500).length ∧
    Runs (sending (vetoed (inView .member)) .claim (claim 7 500)) ∧ 14 ≤ (vetoed (inView .member)).tli.rx.bits.length ∧
    (vetoed (inView .member)).tli.rx.bits.length =
      vetoCell (readLength (vetoed (inView .member)).tli.rx.bits) + 1 :=
  ⟨⟨rfl, rfl⟩, by decide, by decide, by decide, ⟨rfl, rfl⟩, by decide, by decide, by decide, ⟨rfl, rfl⟩, by decide +kernel, by decide +kernel⟩

/-- A FAULTED sender of a CLAIM in a cell. -/
def failing (cell tick : Nat) (f : RxFault) : State :=
  let s := sending (onLine (inView .member) .faulted 8 cell tick) .claim (claim 7 500)
  { s with tli := { s.tli with rx := { s.tli.rx with fault := some f } } }

theorem wit_TalkFaultsTaken_faulted :
    Runs (inCell 0 true 0) ∧ (inCell 0 true 0).tli.rx.cell = 0 ∧ Runs (failing 125 3 .earlyMark) ∧
    125 < vetoCell (claim 7 500).length ∧ (failing 126 9 .badCheck).tli.rx.cell = vetoCell (claim 7 500).length ∧
    (failing 126 9 .badCheck).cfg.fp.tb < (failing 126 9 .badCheck).tli.rx.tick ∧
    (failing 9 9 .longLow).cfg.fp.tb ≤ (failing 9 9 .longLow).tli.idle ∧ (failing 9 9 .longLow).tli.failures < 15 :=
  ⟨⟨rfl, rfl⟩, by decide, ⟨rfl, rfl⟩, by decide, by decide, by decide, by decide, by decide⟩

/-- A long high of a sender still RECEIVING and of a receiver past its header, an early mark in the last check cell, and a
veto at the fifteenth failure. -/
theorem wit_TalkFaultsTaken_late :
    (driving .receiving 60 8).tli.rx.phase = .receiving ∧
    (driving .receiving 60 8).cfg.fp.tb ≤ (driving .receiving 60 8).tli.rx.tick ∧
    (driving .receiving 60 8).tli.rx.cell ≠ vetoCell (claim 7 500).length ∧
    (driving .faulted 126 1).tli.rx.cell = vetoCell (claim 7 500).length ∧
    { driving .faulted 126 1 with tli := { (driving .faulted 126 1).tli with rx := { (driving .faulted 126 1).tli.rx with
      bits := (frameCells .claim 20 (claim 7 500)).take 125 } } }.tli.rx.bits.length < vetoCell (claim 7 500).length ∧
    ¬ AtVeto (following .receiving 60 8) ∧ 14 ≤ (following .receiving 60 8).tli.rx.bits.length ∧
    Runs { sending (vetoed (inView .member)) .claim (claim 7 500) with
      tli := { (sending (vetoed (inView .member)) .claim (claim 7 500)).tli with failures := 15 } } := by
  refine ⟨by decide, by decide, by decide, by decide, by decide +kernel, ?_, by decide +kernel, ⟨rfl, rfl⟩⟩
  rw [← inVetoCell_iff]
  decide +kernel

theorem wit_TalkFaultsTaken_receiver :
    Runs (vetoed (inView .member)) ∧ (vetoed (inView .member)).tli.flight = none ∧
    (base .listening).cfg.fp.tb < (vetoed (inView .member)).tli.rx.tick ∧
    Runs (onLine (base .listening) .receiving 8 3 9) ∧ (base .listening).cfg.fp.tb ≤ (onLine (base .listening) .receiving 8 3 9).tli.rx.tick ∧
    (base .listening).cfg.fp.tb ≤ (onLine (base .listening) .faulted 8 3 9).tli.idle ∧
    16 * (base .listening).cfg.fp.tb ≤ 128 ∧ (base .listening).tli.stuck = false :=
  ⟨⟨rfl, rfl⟩, rfl, by decide, ⟨rfl, rfl⟩, by decide, by decide, by decide, by decide⟩

/-- R27, R35, R36: TB low ticks fault the assembler of a sender too, and the bit error is then its failure. -/
theorem wit_TalkFaultsTaken_longLow :
    let s := { driving .receiving 60 8 with tli := { (driving .receiving 60 8).tli with stuckCount := 8 } }
    let t := run .longLowFault s
    Runs s ∧ s.tli.rx.phase = .receiving ∧ s.cfg.fp.tb ≤ s.tli.stuckCount ∧ t.tli.rx.fault = some .longLow ∧
    t.tli.flight = s.tli.flight ∧ t.tli.failures = 0 ∧
    (run .bitError t).tli.flight = none ∧ (run .bitError t).tli.failures = 1 :=
  ⟨⟨rfl, rfl⟩, by decide, by decide, by decide +kernel, by decide +kernel, by decide +kernel, by decide +kernel, by decide +kernel⟩

/-- The part with fifteen failures in a row. -/
def fifteen (s : State) : State := { s with tli := { s.tli with failures := 15 } }

/-- R36, R38, R66: the sixteenth failure in a row detaches, whatever its form: a start cell, a framing fault, a long high,
the veto cell of a FAULTED sender, a veto. -/
theorem test_sixteenth_failure :
    (run .bitError (inCell 0 true 15)).mbc.reason = .muted ∧
    (run .bitError (fifteen (failing 125 3 .earlyMark))).mbc.reason = .muted ∧
    (run .longHighFault (fifteen (failing 9 9 .longLow))).mbc.reason = .muted ∧
    (run .frameVoided (fifteen (failing 126 9 .badCheck))).mbc.reason = .muted ∧
    (run .frameVoided (fifteen (sending (vetoed (inView .member)) .claim (claim 7 500)))).mbc.reason = .muted ∧
    (run .frameVoided (failing 126 9 .badCheck)).tli.failures = 1 := by decide +kernel

/-- A frame of the tests stands complete wherever its cells and fields read back. -/
theorem complete_of {s : State} {k : FrameKind} {sender : Nat} {payload : List Byte}
    (h : (s.resetAsserted = false ∧ s.mbc.station.running = true) ∧ s.cfg.fp.tb = 8)
    (b : (14 ≤ (frameCells k sender payload).length ∧
      (frameCells k sender payload).length = vetoCell (readLength (frameCells k sender payload)) + 1) ∧
      readKind (frameCells k sender payload) = k ∧ readSender (frameCells k sender payload) = sender ∧
      readPayload (frameCells k sender payload) = payload) : Complete (withFrame s k sender payload) k sender payload :=
  ⟨h.1, rfl, b.1, b.2.1, b.2.2.1, b.2.2.2, rfl, by show s.cfg.fp.tb < 9; rw [h.2]; decide⟩

theorem wit_ListeningHears :
    Complete (withFrame (base .listening) .hail 30 hail) .hail 30 hail ∧
    Complete (withFrame (base .listening) .claim 62 (claim 7 500)) .claim 62 (claim 7 500) ∧
    30 ≠ (base .listening).cfg.id ∧ findPeer (base .listening).peers 30 = none ∧
    findPeer [peer 30 9 .heard] 30 = some (peer 30 9 .heard) ∧ (peer 30 9 .heard).kind ≠ .lost :=
  ⟨complete_of (by decide) (by decide +kernel), complete_of (by decide) (by decide +kernel), by decide, by decide, by decide, by decide⟩

theorem wit_OwnIdFramesTaken :
    Complete (withFrame (inView .member) .leave 20 (encodeLeave 7)) .leave (inView .member).cfg.id (encodeLeave 7) ∧
    (withFrame (inView .member) .leave 20 (encodeLeave 7)).tli.flight = none :=
  ⟨complete_of (by decide) (by decide +kernel), rfl⟩

theorem wit_OwnIdFramesTaken_own :
    Complete (withFrame (sending (base .hailing) .hail hail) .hail 20 hail) .hail 20 hail ∧
    Complete (withFrame (sending (inView .leaving) .leave (encodeLeave 7)) .leave 20 (encodeLeave 7)) .leave 20 (encodeLeave 7) ∧
    Complete (withFrame (sending (inView .member) .claim (claim 7 500)) .claim 20 (claim 7 500)) .claim 20 (claim 7 500) ∧
    lists view.members 20 = true ∧ (decodeClaim (claim 7 500)).cycle = (inView .member).cyt.cycle ∧
    (decodeClaim (claim 7 499)).cycle + 1 = (inView .member).cyt.cycle ∧
    newer (decodeClaim (claim 7 500)).epoch view.epoch = false :=
  ⟨complete_of (by decide) (by decide +kernel), complete_of (by decide) (by decide +kernel), complete_of (by decide) (by decide +kernel),
   by decide, by decide, by decide, by decide⟩

/-- R36, R39, R49, R94: own frames in flight that complete in a state that does not permit their kind, and the own RECAST
in LEAVING, adopted and rejected. -/
theorem wit_OwnIdFramesTaken_states :
    Complete (withFrame (sending (base .listening) .claim (claim 7 500)) .claim 20 (claim 7 500)) .claim 20 (claim 7 500) ∧
    Complete (withFrame (sending (base .aligning) .claim (claim 7 500)) .claim 20 (claim 7 500)) .claim 20 (claim 7 500) ∧
    Complete (withFrame (sending (inView .member) .hail hail) .hail 20 hail) .hail 20 hail ∧
    Complete (withFrame (sending (inView .leaving) .recast (encodeRecast (recast 8))) .recast 20 (encodeRecast (recast 8))) .recast 20
      (encodeRecast (recast 8)) ∧
    lists view.members (inView .leaving).cfg.id = true ∧
    (run (.claimAccepted true) (withFrame (sending (inView .leaving) .claim (claim 7 500)) .claim 20 (claim 7 500))).plu =
      (inView .leaving).plu ∧
    (run (.recastAccepted true) (withFrame (sending (inView .leaving) .recast (encodeRecast (recast 8))) .recast 20
      (encodeRecast (recast 8)))).mbc.pending.isSome = true ∧
    (run (.recastAccepted true) (withFrame (sending (inView .leaving) .recast (encodeRecast (recast 7))) .recast 20
      (encodeRecast (recast 7)))).evq.records.map (·.kind) = [.recastRejected] ∧
    InViews (inView .member) 20 ∧ InStep (inView .member) 20 (decodeClaim (claim 7 500)) :=
  ⟨complete_of (by decide) (by decide +kernel), complete_of (by decide) (by decide +kernel),
   complete_of (by decide) (by decide +kernel), complete_of (by decide) (by decide +kernel), by decide, by decide +kernel,
   by decide +kernel, by decide +kernel, .inl ⟨view, rfl, by decide⟩,
   ⟨.inl (by decide +kernel), fun w hw _ => .inl (by cases hw; decide +kernel)⟩⟩

/-- The tests' member with a pending view that lists station 41 too. -/
def admitting : State := switching .member (view.members ++ [{ id := 41, legs := 1, new := true }]) 504

theorem inStep_of {s : State} {sender : Nat} {c : ClaimContent} {v : View} (h : s.mbc.current = some v)
    (b : (c.cycle = s.cyt.cycle ∨ c.cycle + 1 = s.cyt.cycle) ∧ newer c.epoch v.epoch = false) : InStep s sender c :=
  ⟨b.1, fun w hw _ => .inl (by cases h.symm.trans hw; exact b.2)⟩

/-- In step and out of step by each test: with no pending view, and with one whose epoch the CLAIM's is newer than, or
not. -/
theorem wit_ClaimOfMemberTaken :
    Complete (withFrame (inView .member) .claim 30 (claim 7 499)) .claim 30 (claim 7 499) ∧
    InStep (inView .member) 30 (decodeClaim (claim 7 499)) ∧
    Complete (withFrame (inView .member) .claim 30 (claim 7 498)) .claim 30 (claim 7 498) ∧
    ¬ InStep (inView .member) 30 (decodeClaim (claim 7 498)) ∧ ¬ InStep (inView .member) 30 (decodeClaim (claim 8 500)) ∧
    InStep admitting 30 (decodeClaim (claim 8 500)) ∧ ¬ InStep admitting 30 (decodeClaim (claim 9 500)) ∧
    InViews (inView .member) 30 ∧ TableLaw (inView .member) ∧
    findPeer (inView .member).peers 30 = some (peer 30 0 .member) := by
  refine ⟨complete_of (by decide) (by decide +kernel), inStep_of rfl (by decide +kernel),
    complete_of (by decide) (by decide +kernel), fun h => absurd h.1 (by decide +kernel), ?_,
    ⟨by decide +kernel, fun v _ _ => .inr ⟨_, rfl, by decide +kernel⟩⟩, ?_, .inl ⟨view, rfl, by decide⟩,
    by constructor <;> decide, by decide⟩
  · intro h
    obtain h | ⟨w, hw, -⟩ := h.2 view rfl (by decide)
    · exact absurd h (by decide +kernel)
    · cases hw
  · intro h
    obtain h | ⟨w, hw, h⟩ := h.2 view rfl (by decide)
    · exact absurd h (by decide +kernel)
    · cases hw
      exact absurd h (by decide +kernel)

/-- Station 41, which the pending view alone lists and which has no entry, in step at any epoch and out of step by the
count test. -/
theorem wit_ClaimOfMemberTaken_pendingOnly :
    Complete (withFrame admitting .claim 41 (claim 9 500)) .claim 41 (claim 9 500) ∧
    InStep admitting 41 (decodeClaim (claim 9 500)) ∧ ¬ InStep admitting 41 (decodeClaim (claim 7 498)) ∧
    InViews admitting 41 ∧ lists view.members 41 = false ∧ TableLaw admitting ∧ findPeer admitting.peers 41 = none ∧
    (run (.claimAccepted false) (withFrame admitting .claim 41 (claim 9 500))).evq.records.map (·.kind) = [.peerHeard] ∧
    (run (.claimAccepted false) (withFrame admitting .claim 41 (claim 9 500))).mbc = admitting.mbc ∧
    (run (.claimAccepted true) (withFrame admitting .claim 41 (claim 7 498))).evq.records.map (·.kind) =
      [.peerHeard, .outOfStep] := by
  refine ⟨complete_of (by decide) (by decide +kernel), ⟨by decide +kernel, fun v hv h => ?_⟩,
    fun h => absurd h.1 (by decide +kernel), .inr ⟨_, rfl, by decide⟩, by decide, by constructor <;> decide, by decide,
    by decide +kernel, by decide +kernel, by decide +kernel⟩
  cases hv
  exact absurd h (by decide)

/-- A follower that has heard station 30. -/
def follower (lock : Nat) : State :=
  { base .aligning with cyt := { (base .aligning).cyt with lockCount := lock }, peers := [peer 30 0 .heard] }

theorem wit_FollowerAdoptsClaim :
    Complete (withFrame (follower 4) .claim 30 (claim 7 500)) .claim 30 (claim 7 500) ∧
    Complete (withFrame (follower 3) .claim 30 (claim 7 500)) .claim 30 (claim 7 500) ∧
    (follower 4).mbc.observed = Observed.empty ∧ (follower 4).cyt.lockCount = 4 ∧
    findPeer (follower 4).peers 30 = some (peer 30 0 .heard) :=
  ⟨complete_of (by decide) (by decide +kernel), complete_of (by decide) (by decide +kernel), by decide, by decide, by decide⟩

/-- R71, R72, R78: the follower's table takes the CLAIM of a station with an entry and of one without. -/
theorem wit_FollowerAdoptsClaim_table :
    TableLaw (follower 4) ∧ TableLaw { follower 4 with peers := [] } ∧
    (run (.claimAccepted true) (withFrame { follower 4 with peers := [peer 30 9 .heard] } .claim 30 (claim 7 500))).peers =
      [{ peer 30 0 .heard with
         legs := some 2, lastEpoch := some 7
         leg0 := { current := 0, valid := false, pending := some { demand := 400, applyCycle := 502 } }
         leg1 := { current := 0, valid := false, pending := some { demand := 500, applyCycle := 502 } } }] ∧
    (run (.claimAccepted false) (withFrame { follower 4 with peers := [] } .claim 30 (claim 7 500))).evq.records =
      [about 0 .peerHeard 30 3] :=
  ⟨by constructor <;> decide, by constructor <;> decide, by decide +kernel, by decide +kernel⟩

theorem wit_HailAndLeaveTakenByMember :
    Complete (withFrame (inView .member) .hail 30 hail) .hail 30 hail ∧
    (decodeHail hail).fp = (inView .member).cfg.fp ∧
    (decodeHail (encodeHail { legs := 1, fp := { cfg.fp with k := 4 } })).fp ≠ (inView .member).cfg.fp ∧
    fits (setLegs view.members 30 2) = true ∧ (∀ m ∈ view.members, (inView .member).cfg.id ≤ m.id) ∧
    fits (insertMember fullView { id := 40, legs := 1, new := false }) = false ∧
    Complete (withFrame (inView .member) .leave 30 (encodeLeave 7)) .leave 30 (encodeLeave 7) ∧
    lists view.members 30 = true ∧ lists view.members 31 = false :=
  ⟨complete_of (by decide) (by decide +kernel), by decide, by decide, by decide, by decide, by decide,
   complete_of (by decide) (by decide +kernel), by decide, by decide⟩

theorem wit_RecastOfMemberTaken :
    Complete (withFrame (inView .member) .recast 30 (encodeRecast (recast 8))) .recast 30 (encodeRecast (recast 8)) ∧
    Complete (withFrame (inView .leaving) .recast 30 (encodeRecast (recast 8))) .recast 30 (encodeRecast (recast 8)) ∧
    (∀ n, n ≤ 3 → recastTest (inView .member) (recast 8) 13 n) ∧ (recast 8).count + 11 = (encodeRecast (recast 8)).length ∧
    ahead (recast 8).switchCycle 500 = 4 ∧ ahead 502 500 = 2 ∧ ahead 508 500 = 8 ∧
    ¬ recastTest (inView .member) (recast 8) 12 0 ∧
    ¬ recastTest (inView .member) { recast 8 with fp := { cfg.fp with k := 4 } } 13 1 ∧
    ¬ recastTest (inView .member) (recast 7) 13 2 ∧ ¬ recastTest (inView .member) { recast 8 with switchCycle := 509 } 13 3 := by
  refine ⟨complete_of (by decide) (by decide +kernel), complete_of (by decide) (by decide +kernel), ?_, by decide, by decide,
    by decide, by decide, by simp only [recastTest]; decide, by simp only [recastTest]; decide, ?_, by simp only [recastTest]; decide⟩
  · intro n hn
    have h : recastTest (inView .member) (recast 8) 13 2 :=
      ⟨by intro v hv; cases hv; decide, by intro w hw; cases hw⟩
    match n, hn with
    | 0, _ => simp only [recastTest]; decide
    | 1, _ => simp only [recastTest]; decide
    | 2, _ => exact h
    | 3, _ => simp only [recastTest]; decide
  · intro h
    exact absurd (h.1 view rfl) (by decide)

/-- R71: a RECAST passed and a RECAST rejected both end the sender's silence and give it the leg count of its own byte. -/
theorem test_recast_heard :
    let s := { inView .member with peers := [{ peer 30 9 .member with legs := some 2 }, peer 31 5 .heard] }
    (run (.recastAccepted true) (withFrame s .recast 30 (encodeRecast (recast 8)))).peers =
      [peer 30 0 .member, peer 31 5 .heard] ∧
    (run (.recastAccepted false) (withFrame s .recast 30 (encodeRecast (recast 7)))).peers =
      [peer 30 0 .member, peer 31 5 .heard] := by decide +kernel

/-- The tests' member with a lower station in its view, a change list and a pending view. -/
def crowded (ch : List ChangeEntry) (pending : Option PendingView) : State :=
  let v : View := { view with members := { id := 5, legs := 1, new := false } :: view.members }
  { inView .member with
    peers := [peer 5 0 .member, peer 30 0 .member, peer 40 0 .heard]
    mbc := { (inView .member).mbc with current := some v, changes := ch, pending := pending } }

/-- Sixteen REMOVEs of stations that no view of the tests lists. -/
def removes : List ChangeEntry :=
  (List.range 16).map (fun i => { id := 41 + i, change := .remove .lost, trigger := 499 })

/-- Fifteen REMOVEs, an ADD between them. -/
def mixed : List ChangeEntry :=
  removes.take 7 ++ { id := 60, change := .add 1, trigger := 499 } :: removes.drop 8

theorem walked_unlisted {base : List Member} (es : List ChangeEntry)
    (h : ∀ e ∈ es, (∃ cause, e.change = .remove cause) ∧ lists base e.id = false) : Walked base es base [] [] false := by
  induction es using List.reverseRecOn with
  | nil => exact .start
  | append_singleton es e ih =>
    obtain ⟨⟨cause, hc⟩, hl⟩ := h e (by simp)
    exact .removeUnlisted (ih (fun x hx => h x (by simp [hx]))) hc hl

theorem wit_ChangesPlaced :
    Complete (withFrame (crowded oneChange none) .leave 30 (encodeLeave 7)) .leave 30 (encodeLeave 7) ∧
    Complete (withFrame (crowded mixed (pendingAt view.members 504)) .leave 30 (encodeLeave 7)) .leave 30 (encodeLeave 7) ∧
    Complete (withFrame (crowded removes none) .hail 40 hail) .hail 40 hail ∧
    mixed.length = 16 ∧ (∃ x ∈ mixed, ∀ c, x.change ≠ .remove c) ∧
    (run (.leaveAccepted true) (withFrame (crowded mixed none) .leave 30 (encodeLeave 7))).mbc.changes =
      removes.take 7 ++ removes.drop 8 ++ [{ id := 30, change := .remove .leave, trigger := 500 }] ∧
    findPeer (crowded [] none).peers 40 = some (peer 40 0 .heard) ∧ (decodeHail hail).fp = (crowded [] none).cfg.fp ∧
    RankIs (crowded [] none) 1 ∧
    (run (.leaveAccepted true) (withFrame (crowded [] none) .leave 30 (encodeLeave 7))).mbc.backoff = some 2 :=
  ⟨complete_of (by decide) (by decide +kernel), complete_of (by decide) (by decide +kernel),
   complete_of (by decide) (by decide +kernel), by decide, ⟨{ id := 60, change := .add 1, trigger := 499 }, by decide, by simp⟩,
   by decide +kernel, by decide, by decide, ⟨_, rfl, by decide⟩, by decide +kernel⟩

/-- The projected view with room, with a full list beside it, and without room. -/
theorem wit_ChangesPlaced_room :
    Walked view.members ([].filter (fun e : ChangeEntry => !(e.id == 40))) view.members [] [] false ∧
    RoomFor view.members 40 1 false ∧ RoomFor view.members 30 2 true ∧
    Walked view.members (removes.filter (fun e => !(e.id == 40))) view.members [] [] false ∧ 16 ≤ removes.length ∧
    Walked fullView ([].filter (fun e : ChangeEntry => !(e.id == 40))) fullView [] [] false ∧
    ¬ RoomFor fullView 40 1 false ∧ ¬ RoomFor fullView 30 2 true := by
  refine ⟨.start, by unfold RoomFor; decide, by unfold RoomFor; decide, walked_unlisted _ ?_, by decide, .start,
    by unfold RoomFor; decide, by unfold RoomFor; decide⟩
  intro e he
  simp only [removes, List.mem_filter, List.mem_map, List.mem_range] at he
  obtain ⟨⟨i, hi, rfl⟩, -⟩ := he
  exact ⟨⟨_, rfl⟩, by simp only [lists, view]; simp; omega⟩

theorem wit_ChangesPlaced_lost :
    findPeer { crowded mixed none with peers := [peer 30 32 .member] }.peers 30 = some (peer 30 32 .member) ∧
    (crowded mixed none).mbc.station = .member ∧
    (run (.peerLost 30) { crowded mixed none with peers := [peer 30 32 .member] }).evq.records.map (·.kind) =
      [.peerLost, .hailRefused] := by decide

theorem wit_RecastRestartsBackoff :
    let covering := encodeRecast { recast 8 with count := 3, members := view.members ++ [{ id := 31, legs := 1, new := true }] }
    Complete (withFrame (crowded oneChange none) .recast 30 covering) .recast 30 covering ∧
    (run (.recastAccepted true) (withFrame (crowded oneChange none) .recast 30 covering)).mbc.changes = [] ∧
    Complete (withFrame (crowded mixed none) .recast 30 (encodeRecast (recast 8))) .recast 30 (encodeRecast (recast 8)) ∧
    (run (.recastAccepted true) (withFrame (crowded mixed none) .recast 30 (encodeRecast (recast 8)))).mbc.backoff =
      some 2 ∧
    (run (.recastAccepted true) (withFrame (crowded mixed none) .recast 30 (encodeRecast (recast 8)))).mbc.changes =
      [{ id := 60, change := .add 1, trigger := 499 }] ∧
    ¬ recastTest (crowded mixed none) (decodeRecast (encodeRecast (recast 7))) 13 2 ∧
    Complete (withFrame (sending (crowded mixed none) .recast (encodeRecast (recast 8))) .recast 20 (encodeRecast (recast 8)))
      .recast 20 (encodeRecast (recast 8)) := by
  refine ⟨complete_of (by decide) (by decide +kernel), by decide +kernel, complete_of (by decide) (by decide +kernel),
    by decide +kernel, by decide +kernel, ?_, complete_of (by decide) (by decide +kernel)⟩
  intro h
  exact absurd (h.1 _ rfl) (by decide +kernel)

/-- R36, R95, R97: the own RECAST posts nothing where it passes, and RECAST_REJECTED(SUPERSEDED) where it does not. -/
theorem wit_RecastRestartsBackoff_records :
    let sent := fun e => run (.recastAccepted true)
      (withFrame (sending (crowded mixed none) .recast (encodeRecast (recast e))) .recast 20 (encodeRecast (recast e)))
    Complete (withFrame (sending (crowded mixed none) .recast (encodeRecast (recast 7))) .recast 20 (encodeRecast (recast 7)))
      .recast 20 (encodeRecast (recast 7)) ∧
    (sent 8).evq.records = [] ∧
    (sent 7).evq.records = [{ kind := .recastRejected, cycle := some 500, station := some 20,
                              detail := some { code := 2, value := 7 } }] :=
  ⟨complete_of (by decide) (by decide +kernel), by decide +kernel, by decide +kernel⟩

/-- A CLAIM of a view of three stations, of which station 41 sends it. -/
def strange (n : Nat) : List Byte :=
  encodeClaim { epoch := 3, cycle := 90, identity := { size := n, anchor := 9, digest := 4 }, demand0 := 0, demand1 := none }

/-- The tests' member, which has heard station 41. -/
def hearing (foreign : Bool) : State :=
  { inView .member with peers := [peer 30 0 .member, { peer 41 5 .heard with foreign := foreign }] }

theorem wit_ForeignFramesTaken :
    Complete (withFrame (hearing false) .claim 41 (strange 3)) .claim 41 (strange 3) ∧
    ranksAbove (decodeClaim (strange 3)).identity (identityOf view.members) = true ∧
    ranksAbove (decodeClaim (strange 1)).identity (identityOf view.members) = false ∧
    Complete (withFrame (hearing true) .claim 41 (strange 1)) .claim 41 (strange 1) ∧
    lists view.members 41 = false ∧ (hearing true).mbc.pending = none ∧
    findPeer (hearing true).peers 41 = some { peer 41 5 .heard with foreign := true } ∧
    Complete (withFrame (inView .member) .claim 41 (strange 1)) .claim 41 (strange 1) ∧
    findPeer (inView .member).peers 41 = none ∧ TableLaw (hearing true) ∧ ¬ InViews (hearing true) 41 ∧
    Complete (withFrame (hearing false) .recast 41 (encodeRecast (recast 8))) .recast 41 (encodeRecast (recast 8)) ∧
    recastTest (hearing false) (decodeRecast (encodeRecast (recast 8))) (encodeRecast (recast 8)).length 0 := by
  refine ⟨complete_of (by decide) (by decide +kernel), by decide, by decide, complete_of (by decide) (by decide +kernel), by decide, by decide, by decide,
    complete_of (by decide) (by decide +kernel), by decide, by constructor <;> decide, ?_,
    complete_of (by decide) (by decide +kernel), by simp only [recastTest]; decide⟩
  rintro (⟨v, hv, h⟩ | ⟨w, hw, -⟩)
  · cases hv
    exact absurd h (by decide)
  · cases hw

/-- R72, R103: a malformed foreign RECAST leaves all but the table as it was, and the losing frame of a station without an
entry posts its two records in the order of the operand. -/
theorem wit_ForeignFramesTaken_stranger :
    Complete (withFrame (hearing false) .recast 41 (encodeRecast { recast 8 with count := 3 })) .recast 41
      (encodeRecast { recast 8 with count := 3 }) ∧
    ¬ recastTest (hearing false) (decodeRecast (encodeRecast { recast 8 with count := 3 }))
      (encodeRecast { recast 8 with count := 3 }).length 0 ∧
    (run (.recastAccepted true) (withFrame (hearing false) .recast 41 (encodeRecast { recast 8 with count := 3 }))).peers =
      [peer 30 0 .member, peer 41 0 .heard] ∧
    (run (.claimAccepted true) (withFrame (inView .member) .claim 41 (strange 3))).evq.records.map (·.kind) =
      [.peerHeard, .foreignView] ∧
    (run (.claimAccepted false) (withFrame (inView .member) .claim 41 (strange 3))).evq.records.map (·.kind) =
      [.foreignView, .peerHeard] ∧
    (run (.claimAccepted false) (withFrame (inView .member) .claim 41 (strange 3))).peers.map (·.id) = [30, 41] :=
  ⟨complete_of (by decide) (by decide +kernel), by simp only [recastTest]; decide +kernel, by decide +kernel,
   by decide +kernel, by decide +kernel, by decide +kernel⟩

/-- A follower with the tests' view as best identity, with station 30 as best sender. -/
def judging (pending : Option PendingView) : State :=
  let s := follower 4
  { s with
    cyt := { s.cyt with adopted := true, cycle := 500 }
    mbc := { s.mbc with observed :=
      { best := some { identity := identityOf view.members, epoch := 7 }, senders := [30], pending := pending } } }

theorem wit_FollowerJudgesFrames :
    Complete (withFrame (judging none) .claim 30 (claim 8 500)) .claim 30 (claim 8 500) ∧
    (decodeClaim (claim 8 500)).identity = identityOf view.members ∧
    Complete (withFrame (judging (pendingAt view.members 504)) .claim 30 (strange 3)) .claim 30 (strange 3) ∧
    (decodeClaim (strange 3)).identity ≠ identityOf view.members ∧ newer (decodeClaim (strange 3)).epoch 7 = false ∧
    ranksAbove (decodeClaim (strange 3)).identity (identityOf view.members) = true ∧
    ranksAbove (decodeClaim (strange 1)).identity (identityOf view.members) = false ∧ newer 3 2 = true ∧
    (judging none).mbc.observed.senders = [30] ∧ findPeer (judging none).peers 30 = some (peer 30 0 .heard) ∧
    Complete (withFrame (judging none) .recast 30 (encodeRecast (recast 8))) .recast 30 (encodeRecast (recast 8)) ∧
    ObservedEpochIs (judging none).mbc.observed 7 ∧ ObservedEpochIs (judging (pendingAt view.members 504)).mbc.observed 8 ∧
    recastTest (judging none) (recast 8) 13 0 ∧ newer (recast 8).epoch 7 = true ∧ newer (recast 8).epoch 8 = false ∧
    recastTest (judging none) (recast 8) 13 3 := by
  refine ⟨complete_of (by decide) (by decide +kernel), by decide +kernel, complete_of (by decide) (by decide +kernel),
    by decide, by decide, by decide, by decide, by decide, by decide, by decide,
    complete_of (by decide) (by decide +kernel), ?_, ?_, by simp only [recastTest]; decide,
    by decide, by decide, by simp only [recastTest]; decide⟩
  · exact .inl ⟨_, rfl, rfl, by intro p hp; cases hp⟩
  · exact .inr ⟨_, rfl, rfl, by intro b hb; cases hb; decide⟩

/-- R105, R107 (log 20): the observed pending view's epoch, 8 + 32768, is neither newer nor older than the best identity's
8, which counts: a RECAST of epoch 9 is taken, one of epoch 8 is not. -/
theorem wit_TableHearsLostAndFull_apart :
    let s := judging none
    let best : BestIdentity := { identity := identityOf view.members, epoch := 8 }
    let far : PendingView := { view := { view with epoch := 0x8008 }, switchCycle := 504 }
    let u := { s with mbc := { s.mbc with observed := { s.mbc.observed with best := some best, pending := some far } } }
    let heard := fun e => (run (.recastAccepted true) (withFrame u .recast 30 (encodeRecast (recast e)))).mbc.observed.pending
    ObservedEpochIs u.mbc.observed 8 ∧ (heard 9).map (·.view.epoch) = some 9 ∧ heard 8 = some far := by
  refine ⟨.inl ⟨_, rfl, rfl, ?_⟩, by decide +kernel, by decide +kernel⟩
  intro p hp
  cases hp
  decide

/-- A table of twenty HEARD stations, 31 to 50, of which 50 has been silent longest. -/
def twenty : List Peer := (List.range 20).map (fun i => peer (31 + i) i .heard)

/-- The tests' member with station 30 LOST, its REMOVE in the change list. -/
def oneLost (pending : Option PendingView) : State :=
  { inView .member with
    peers := [peer 30 33 .lost]
    mbc := { (inView .member).mbc with
      changes := [{ id := 30, change := .remove .lost, trigger := 499 }], pending := pending } }

/-- A LOST sender's frame of every kind in MEMBER and LEAVING, with no pending view, one that lists it and one that does
not. -/
theorem wit_TableHearsLostAndFull :
    Complete (withFrame (oneLost none) .claim 30 (claim 7 500)) .claim 30 (claim 7 500) ∧
    Complete (withFrame (oneLost none) .hail 30 hail) .hail 30 hail ∧
    Complete (withFrame (oneLost (pendingAt view.members 504)) .leave 30 (encodeLeave 7)) .leave 30 (encodeLeave 7) ∧
    Complete (withFrame (oneLost (pendingAt alone20 504)) .recast 30 (encodeRecast (recast 9))) .recast 30
      (encodeRecast (recast 9)) ∧
    Complete (withFrame { inView .leaving with peers := [peer 30 33 .lost] } .recast 30 (encodeRecast (recast 8))) .recast 30
      (encodeRecast (recast 8)) ∧
    TableLaw (oneLost none) ∧ findPeer (oneLost none).peers 30 = some (peer 30 33 .lost) ∧ lists alone20 30 = false ∧
    InStep (oneLost none) 30 (decodeClaim (claim 7 500)) ∧ InViews (oneLost none) 30 ∧
    (view.members.map (·.id)).Pairwise (· < ·) ∧ (oneLost none).mbc.changes.length < 16 :=
  ⟨complete_of (by decide) (by decide +kernel), complete_of (by decide) (by decide +kernel),
   complete_of (by decide) (by decide +kernel), complete_of (by decide) (by decide +kernel),
   complete_of (by decide) (by decide +kernel), by constructor <;> decide, by decide, by decide,
   inStep_of rfl (by decide +kernel), .inl ⟨view, rfl, by decide⟩, by decide, by decide⟩

/-- R76, R88, R89, R96: what a LOST sender's frame leaves in the change list, in either order, and the entry of one that a
pending view does not list. -/
theorem test_lost_sender :
    (run (.hailAccepted true) (withFrame (oneLost none) .hail 30 hail)).mbc.changes =
      [{ id := 30, change := .refresh 1, trigger := 500 }] ∧
    (run (.hailAccepted false) (withFrame (oneLost none) .hail 30 hail)).evq.records = [about 500 .peerReturned 30 33] ∧
    (run (.leaveAccepted false) (withFrame (oneLost none) .leave 30 (encodeLeave 7))).mbc.changes =
      [{ id := 30, change := .remove .leave, trigger := 500 }] ∧
    (run (.recastAccepted true) (withFrame (oneLost none) .recast 30 (encodeRecast (recast 8)))).mbc.changes = [] ∧
    (run (.claimAccepted true) (withFrame (oneLost (pendingAt alone20 504)) .claim 30 (claim 7 500))).peers.map (·.kind) =
      [.lost] := by decide +kernel

/-- Fourteen stations of the tests' view beside the own one, 31 to 36 LOST and 37 to 44 MEMBER, and six HEARD ones, 45 to
50: a full table. -/
def crowd : List Peer :=
  (List.range 6).map (fun i => peer (31 + i) 33 .lost) ++ (List.range 8).map (fun i => peer (37 + i) 1 .member) ++
  (List.range 6).map (fun i => peer (45 + i) i .heard)

/-- The view of 15 stations and 16 legs that the table is full beside. -/
def fifteenListed : List Member :=
  { id := 20, legs := 2, new := false } :: (List.range 14).map (fun i => { id := 31 + i, legs := 1, new := false })

/-- The view that has the six HEARD stations in the place of the six LOST. -/
def exchanged : List Member :=
  { id := 20, legs := 2, new := false } :: (List.range 14).map (fun i => { id := 37 + i, legs := 1, new := decide (8 ≤ i) })

/-- The change list that leads to that view. -/
def exchanges : List ChangeEntry :=
  (List.range 6).map (fun i => { id := 31 + i, change := .remove .lost, trigger := 499 }) ++
  (List.range 6).map (fun i => { id := 45 + i, change := .add 1, trigger := 499 })

/-- A member of the large view with a full table, a change list and a pending view. -/
def packed (ch : List ChangeEntry) (pending : Option PendingView) : State :=
  { inView .member with
    peers := crowd
    mbc := { (inView .member).mbc with
      current := some { view with members := fifteenListed }, changes := ch, pending := pending } }

/-- The six HEARD entries are held by their ADDs, then by the pending view, and then by neither. -/
theorem wit_TableHearsLostAndFull_full :
    crowd.length = 20 ∧ TableLaw (packed exchanges none) ∧ TableLaw (packed [] (pendingAt exchanged 504)) ∧
    legTotal fifteenListed = 16 ∧ legTotal exchanged = 16 ∧ (exchanged.map (·.id)).Pairwise (· < ·) ∧
    (walkChanges fifteenListed exchanges).members.map (fun m => (m.id, m.legs)) = exchanged.map (fun m => (m.id, m.legs)) ∧
    Complete (withFrame (packed exchanges none) .hail 51 hail) .hail 51 hail ∧ findPeer crowd 51 = none ∧
    (∀ q ∈ crowd, q.kind = .heard → ∃ e ∈ exchanges, e.id = q.id) ∧
    (∀ q ∈ crowd, q.kind = .heard → lists exchanged q.id = true) ∧
    (run (.hailAccepted true) (withFrame (packed exchanges none) .hail 51 hail)).evq.records =
      [about 500 .tableFull 51 2, about 500 .hailRefused 51 1] ∧
    (run (.leaveAccepted false) (withFrame (packed [] (pendingAt exchanged 504)) .leave 51 (encodeLeave 7))).evq.records =
      [about 500 .tableFull 51 1] ∧
    findPeer (run (.leaveAccepted true) (withFrame (packed [] none) .leave 51 (encodeLeave 7))).peers 50 = none := by
  refine ⟨by decide, by constructor <;> decide, by constructor <;> decide, by decide, by decide, by decide, by decide,
    complete_of (by decide) (by decide +kernel), by decide, by decide, by decide, by decide +kernel, by decide +kernel,
    by decide +kernel⟩

/-- A full table of HEARD stations in LISTENING, whose most silent goes, and in ALIGNING, where the observed pending view
holds it and the next one goes. -/
theorem wit_TableHearsLostAndFull_follower :
    Complete (withFrame { base .listening with peers := twenty } .hail 30 hail) .hail 30 hail ∧
    TableLaw { base .listening with peers := twenty } ∧ findPeer twenty 30 = none ∧ twenty.length = 20 ∧
    (∀ q ∈ twenty, q ≠ peer 50 19 .heard → q.silence < (peer 50 19 .heard).silence) ∧ peer 50 19 .heard ∈ twenty ∧
    TableLaw { judging (pendingAt [{ id := 50, legs := 1, new := false }] 504) with peers := twenty } ∧
    (run (.hailAccepted true) (withFrame { judging (pendingAt [{ id := 50, legs := 1, new := false }] 504) with
      peers := twenty } .hail 30 hail)).peers.map (·.id) = (List.range 19).map (30 + ·) ++ [50] :=
  ⟨complete_of (by decide) (by decide +kernel), by constructor <;> decide, by decide, by decide, by decide, by decide,
   by constructor <;> decide, by decide +kernel⟩

/-- R88, R94, R106, R107: a follower's controller makes nothing of a HAIL, of a LEAVE, of a RECAST heard with no best
identity and of a CLAIM of a lower view; a RECAST that passes the tests is observed. -/
theorem wit_TableHearsLostAndFull_ignores :
    let kept := fun c (s : State) k p => (run c (withFrame s k 30 p)).mbc
    Complete (withFrame (follower 3) .hail 30 hail) .hail 30 hail ∧
    Complete (withFrame (follower 3) .leave 30 (encodeLeave 7)) .leave 30 (encodeLeave 7) ∧
    Complete (withFrame (follower 3) .recast 30 (encodeRecast (recast 8))) .recast 30 (encodeRecast (recast 8)) ∧
    TableLaw (follower 3) ∧ TableLaw (judging none) ∧
    kept (.hailAccepted true) (follower 3) .hail hail = (follower 3).mbc ∧
    kept (.leaveAccepted false) (follower 3) .leave (encodeLeave 7) = (follower 3).mbc ∧
    kept (.recastAccepted true) (follower 3) .recast (encodeRecast (recast 8)) = (follower 3).mbc ∧
    kept (.claimAccepted false) (judging none) .claim (strange 1) = (judging none).mbc ∧
    (kept (.recastAccepted true) (judging none) .recast (encodeRecast (recast 8))).observed.pending =
      pendingAt view.members 504 :=
  ⟨complete_of (by decide) (by decide +kernel), complete_of (by decide) (by decide +kernel),
   complete_of (by decide) (by decide +kernel), by constructor <;> decide, by constructor <;> decide,
   by decide +kernel, by decide +kernel, by decide +kernel, by decide +kernel, by decide +kernel⟩

/-- The tests' member with one peer of this standing. -/
def withPeer (st : Station) (p : Peer) : State :=
  { inView st with cyt := { (inView st).cyt with position := 0, begun := true }, peers := [p] }

theorem wit_PeerLossTaken :
    findPeer (withPeer .member (peer 30 32 .member)).peers 30 = some (peer 30 32 .member) ∧
    (withPeer .leaving (peer 30 32 .member)).mbc.station = .leaving ∧
    (withPeer .member (peer 30 32 .member)).mbc.changes = [] ∧
    findPeer (withPeer .member (peer 31 64 .heard)).peers 31 = some (peer 31 64 .heard) ∧
    (withPeer .member (peer 31 64 .heard)).cyt.begun = true := by decide

theorem wit_BoundaryFindings :
    (∃ u, BeginsCycle (quietOrder true) (timed (inView .member) 0 1 1 7) (.wrap (quietOrder true)) u) ∧
    (timed (inView .member) 0 1 1 7).plu.claimed = true ∧ (timed (inView .member) 0 1 1 7).tli.flight = none ∧
    (∀ q ∈ (timed (inView .member) 0 1 1 7).peers, q.silence < 31) ∧
    (∃ u, BeginsCycle (quietOrder true) (atEnd (withPeer .member (peer 30 31 .member))) (.wrap (quietOrder true)) u) ∧
    TableLaw (atEnd (withPeer .member (peer 30 31 .member))) ∧
    (atEnd (withPeer .member (peer 30 31 .member))).peers = [peer 30 31 .member] ∧
    (atEnd (withPeer .member (peer 30 31 .member))).mbc.changes = [] ∧
    (run (.wrap (quietOrder true)) (atEnd (withPeer .member (peer 31 63 .heard)))).peers = [] :=
  ⟨⟨_, begins_wrap _ ⟨rfl, rfl⟩ (by decide)⟩, by decide, by decide, by decide, ⟨_, begins_wrap _ ⟨rfl, rfl⟩ (by decide)⟩,
   by constructor <;> decide, rfl, rfl, by decide⟩

/-- R47, R75, R84: at LEAVE_TIMEOUT a LOST entry of 64 and more stands, HEARD and invalid, in DETACHED; a HEARD one that
the boundary has aged to 64 is purged (R77). -/
theorem test_detach_keeps_lost :
    let s := timed { inView .leaving with peers := [peer 30 80 .lost, peer 31 63 .heard] } 31 0 0 0
    let t := run (.wrap (quietOrder true)) s
    (∃ u, BeginsCycle (quietOrder true) s (.wrap (quietOrder true)) u) ∧
    t.mbc.station = .detached ∧ s.mbc.pending = none ∧ t.peers = [demoted (peer 30 81 .lost)] :=
  ⟨⟨_, begins_wrap _ ⟨rfl, rfl⟩ (by decide)⟩, by decide, by decide, by decide⟩

/-- R81 (log 15): a HEARD entry aged to 64 at the boundary whose switch lists its station is seated, then found LOST. -/
theorem test_switch_lists_stale :
    let ms := view.members ++ [{ id := 31, legs := 1, new := true }]
    let s := atEnd { switching .member ms 501 with peers := [peer 30 0 .member, peer 31 63 .heard] }
    let t := run (.wrap (quietOrder true)) s
    (findPeer t.peers 31).map (fun p => (p.kind, p.silence)) = some (.lost, 64) ∧
    t.evq.records.map (·.kind) = [.viewChanged, .peerLost] := by decide

theorem wit_BoundaryFindings_lease :
    LastPut (boundaryCounted { timed (inView .member) 0 1 1 7 with
      cyt := { (inView .member).cyt with position := 0, cycle := 501, begun := true } }) 0 400 := by
  simp only [lastPut_spec]
  decide

theorem wit_WaitingDemandFates :
    newer 501 500 = true ∧ ahead 501 500 = 1 ∧ ahead 502 500 = 2 ∧ newer 500 503 = false ∧ 2 < ahead 503 500 := by decide

theorem wit_PlanCoversTheView :
    (viewLegs view.members)[2]? = some (30, 0) ∧ 20 = (inView .member).cfg.id ∧ 30 ≠ (inView .member).cfg.id ∧
    findPeer (inView .member).peers 30 = some (peer 30 0 .member) ∧ findPeer (inView .member).peers 31 = none ∧
    cfg.fp.placement = .spread ∧
    (planWindows { cfg.fp with placement := .pack } [4096, 3000])[1]? = some { grant := 3000, start := 0 } := by decide

theorem wit_SwitchSeatsTheMembers :
    TableLaw (inView .member) ∧ (view.members.map (·.id)).Pairwise (· < ·) ∧ view.members.length ≤ 16 ∧
    (∃ m ∈ view.members, m.id ≠ (inView .member).cfg.id) ∧ fullView.length ≤ 16 :=
  ⟨by constructor <;> decide, by decide, by decide, by decide, by decide⟩

/-- R80: a full table whose member 31, flagged, is listed anew, 32 is LOST and listed, 33 is not listed, and 60 has no entry:
of the unlisted ones 50, silent longest, makes room. -/
theorem wit_SwitchSeatsTheMembers_full :
    let ps := twenty.map (fun q =>
      if q.id = 31 then { q with kind := .member, foreign := true }
      else if q.id = 32 then { q with kind := .lost, silence := 40 }
      else if q.id = 33 then { q with kind := .member, leg0 := { current := 9, valid := true, pending := none } } else q)
    let s := { inView .member with peers := ps }
    let v := { view with members := [{ id := 20, legs := 2, new := false }, { id := 31, legs := 2, new := true },
      { id := 32, legs := 1, new := false }, { id := 60, legs := 1, new := false }] }
    let t := tableSwitch s v
    TableLaw s ∧ (v.members.map (·.id)).Pairwise (· < ·) ∧ s.peers.length = 20 ∧ t.peers.length = 20 ∧
    (findPeer t.peers 31).map (fun q => (q.kind, q.foreign, q.leg0.valid)) = some (.member, false, true) ∧
    (findPeer t.peers 32).map (fun q => (q.kind, q.silence)) = some (.lost, 40) ∧
    (findPeer t.peers 33).map (fun q => (q.kind, q.leg0.current, q.leg0.valid)) = some (.heard, 0, false) ∧
    (findPeer t.peers 60).map (fun q => (q.kind, q.silence)) = some (.member, 0) ∧
    findPeer t.peers 50 = none ∧ (findPeer t.peers 49).isSome = true := by
  refine ⟨by constructor <;> decide, ?_⟩
  decide +kernel

theorem wit_OutputStageTaken :
    16 ≤ (counted 16 0).plu.age ∧ currentWindow (inView .member) 0 = some { grant := 400, start := 0 } ∧
    (inView .member).plu.prev0 = none ∧ (inView .member).cyt.position < 0 + 400 ∧
    ((atEnd (inView .member)).cyt.position < 0 ∨ 0 + 400 ≤ (atEnd (inView .member)).cyt.position) ∧
    (inView .member).los.latch = .clear ∧ (inView .member).los.supp0 = false ∧
    (inView .member).cfg.fp.placement ≠ .pack := by decide

theorem wit_OutputStageTaken_fault :
    (base .detached).locked = true ∧ (base .detached).los.latch ≠ .asserted ∧
    (run .faultAsserted (inView .member)).los.latch = .asserted ∧
    ((run .faultAsserted (inView .member)).evq.records.map (·.detail)) = [some { code := 1, value := 0 }] := by decide

end Sys2Proof.Tests
end

/-! ## Serial comparison (R1) -/

namespace Sys2Proof.Machine

/-- How far ahead one value is, as a difference of natural numbers that wraps at 65536 (R1). -/
theorem ahead_eq_mod (a b : U16) : ahead a b = (a.toNat + 65536 - b.toNat) % 65536 := by
  have hb : b.toNat < 65536 := b.isLt
  have subtraction : ahead a b = (65536 - b.toNat + a.toNat) % 65536 := BitVec.toNat_sub a b
  have reordered : 65536 - b.toNat + a.toNat = a.toNat + 65536 - b.toNat := by omega
  rw [subtraction, reordered]

/-- A value is newer exactly when it is 1 to 32767 ahead (R1). -/
theorem newer_iff_ahead (a b : U16) : newer a b = true ↔ 1 ≤ ahead a b ∧ ahead a b ≤ 32767 := by
  simp [newer, ahead]

/-- Two values half the range apart are so in both directions. -/
theorem ahead_half_symm {a b : U16} (apart : ahead a b = 32768) : ahead b a = 32768 := by
  have ha : a.toNat < 65536 := a.isLt
  have hb : b.toNat < 65536 := b.isLt
  rw [ahead_eq_mod] at apart ⊢
  omega

/-- A value half the range ahead is not newer: the bound of R1 stops one short of it. -/
theorem not_newer_of_half {a b : U16} (apart : ahead a b = 32768) : newer a b = false := by
  rw [Bool.eq_false_iff, Ne, newer_iff_ahead, apart]
  decide

/-- Settles O10: every clause is read off the distance `ahead`, and the tie at 32768 off its symmetry. -/
theorem serialComparison : Obligations.SerialComparison := by
  intro a b n
  rw [← ahead_eq_mod]
  refine ⟨newer_iff_ahead a b, rfl, BitVec.toNat_add a n, fun apart => ?_⟩
  exact ⟨not_newer_of_half apart, not_newer_of_half (ahead_half_symm apart)⟩

end Sys2Proof.Machine

/-! ## The SPREAD slots (R122) -/

namespace Sys2Proof.Machine

/-- The slot width of R122: from a leg's slot offset to the next one. -/
def slotWidth (p n i : Nat) : Nat := slotOffset p n (i + 1) - slotOffset p n i

/-- Leg 0's slot begins the cycle. -/
@[simp] theorem slotOffset_zero (p n : Nat) : slotOffset p n 0 = 0 := by
  simp [slotOffset]

/-- The offset one past the last leg is the end of the cycle. -/
theorem slotOffset_self (p : Nat) {n : Nat} (legs : 1 ≤ n) : slotOffset p n n = p :=
  Nat.mul_div_cancel_left p legs

/-- One leg further the dividend of the offset has grown by the whole cycle. -/
theorem slotOffset_succ (p n i : Nat) : slotOffset p n (i + 1) = (i * p + p) / n := by
  rw [slotOffset, Nat.succ_mul]

theorem slotOffset_le_succ (p n i : Nat) : slotOffset p n i ≤ slotOffset p n (i + 1) := by
  rw [slotOffset_succ]
  exact Nat.div_le_div_right (Nat.le_add_right _ _)

/-- A slot runs to where the next one begins. -/
theorem slotOffset_add_slotWidth (p n i : Nat) :
    slotOffset p n i + slotWidth p n i = slotOffset p n (i + 1) :=
  Nat.add_sub_cancel' (slotOffset_le_succ p n i)

/-- A slot is `P / N` wide, and one tick more where the remainders of its offset and of the cycle carry. -/
theorem slotWidth_eq (p i : Nat) {n : Nat} (legs : 1 ≤ n) :
    slotWidth p n i = p / n + if n ≤ i * p % n + p % n then 1 else 0 := by
  have grown : slotOffset p n (i + 1) = slotOffset p n i + p / n + if n ≤ i * p % n + p % n then 1 else 0 := by
    rw [slotOffset_succ, Nat.add_div legs, slotOffset]
  rw [slotWidth, grown, Nat.add_assoc, Nat.add_sub_cancel_left]

/-- Any two slots differ by the one carried tick at most. -/
theorem slotWidth_le_slotWidth_add_one (p i j : Nat) {n : Nat} (legs : 1 ≤ n) :
    slotWidth p n i ≤ slotWidth p n j + 1 := by
  rw [slotWidth_eq p i legs, slotWidth_eq p j legs]
  split <;> omega

/-- The first `m` slots fill the positions below the offset of leg `m`. -/
theorem sum_slotWidth_range (p n m : Nat) : ((List.range m).map (slotWidth p n)).sum = slotOffset p n m := by
  induction m with
  | zero => simp
  | succ m ih => rw [List.sum_range_succ, ih, slotOffset_add_slotWidth]

/-- Settles O15: the widths are compared through the carry of `slotWidth_eq`, and their sum telescopes to the offset
of leg N. -/
theorem spreadSlotsTileTheCycle : Obligations.SpreadSlotsTileTheCycle := by
  intro p n k legs _
  have last : slotOffset p n n = p := slotOffset_self p legs
  have total : ((List.range n).map (slotWidth p n)).sum = p := (sum_slotWidth_range p n n).trans last
  exact ⟨fun _ => rfl, slotOffset_zero p n, last, slotOffset_le_succ p n,
    fun i j => slotWidth_le_slotWidth_add_one p i j legs, total, rfl⟩

end Sys2Proof.Machine

/-! ## A code that names no command (R168, R173) -/

namespace Sys2Proof.Machine

/-! ### The codes of R187 -/

/-- The codes of the thirteen commands (R187). -/
def namedCodes : List Byte :=
  [0x01#8, 0x02#8, 0x03#8, 0x04#8, 0x05#8, 0x06#8, 0x10#8, 0x11#8, 0x12#8, 0x13#8, 0x14#8, 0x20#8, 0x21#8]

/-- The codes without an operand count are those that name no command. -/
theorem operandCount_eq_none_iff (code : Byte) : operandCount code = none ↔ code ∉ namedCodes := by
  simp [operandCount, namedCodes, ite_eq_iff]

/-- A code that names no command is taken as UNKNOWN, whatever stands in the operands. -/
theorem takeCode_of_not_named {code : Byte} (unnamed : code ∉ namedCodes) (ops : List Byte) (s : State) :
    takeCode code ops s = takeUnknown s := by
  simp only [namedCodes, List.mem_cons, List.not_mem_nil, or_false, not_or] at unnamed
  simp [takeCode, unnamed]

/-- The answer to an unknown code is the status byte 4 over the state as it stood (R173, R189). -/
theorem respond_takeUnknown (s : State) : respond (takeUnknown s) = answered s 4 [] := respond_turnDown s .unknown

/-! ### A byte in each phase of the port -/

theorem exec_byteComplete {s : State} (released : s.resetAsserted = false) (sel : s.selLow = true) (b : Byte) :
    exec (.byteComplete b) s = .next (settle (byteComplete b s)) := happen_due released sel

theorem byteComplete_of_code {s : State} (phase : s.hpt.phase = .code) (b : Byte) :
    byteComplete b s = codeByte b s := by
  rw [byteComplete, phase]

theorem byteComplete_of_spent {s : State} (phase : s.hpt.phase = .spent) (b : Byte) : byteComplete b s = s := by
  rw [byteComplete, phase]

/-- The part with a transaction at its end: nothing stands at the port, and it is SPENT (R168). -/
def portSpent (s : State) : State :=
  { s with hpt := { phase := .spent, code := none, operands := [], response := [] } }

/-- The host port has no part in the outputs. -/
theorem settle_portSpent (s : State) : settle (portSpent s) = portSpent (settle s) := rfl

/-- The byte that shifts a bare status out leaves the port SPENT. -/
theorem byteComplete_answered_nil (s : State) (status b : Byte) :
    byteComplete b (answered s status []) = portSpent s := rfl

theorem codeByte_of_not_named {code : Byte} (unnamed : code ∉ namedCodes) (s : State) :
    codeByte code s = answered s 4 [] := by
  rw [codeByte, (operandCount_eq_none_iff code).mpr unnamed, takeCode_of_not_named unnamed]
  exact respond_takeUnknown s

/-- A response puts its status byte on SDO first. -/
theorem sdo_answered {s : State} (released : s.resetAsserted = false) (status : Byte) (results : List Byte) :
    sdo (answered s status results) = some status := by
  simp [sdo, answered, released]

/-! ### The row of the unknown code, and SEL -/

theorem portReady_of_awaitsCode {s : State} (awaits : AwaitsCode s) (code : Byte) : portReady s code [] = true := by
  simp [portReady, awaits.2]

/-- The row of a code that names no command does what the byte does. -/
theorem exec_unknownCode {s : State} (awaits : AwaitsCode s) {code : Byte} (unnamed : code ∉ namedCodes) :
    exec (.unknownCode code) s = .next (settle (answered s 4 [])) := by
  have due : (portReady s code [] && (operandCount code).isNone) = true := by
    rw [portReady_of_awaitsCode awaits, (operandCount_eq_none_iff code).mpr unnamed]
    rfl
  rw [← respond_takeUnknown]
  exact happen_due (f := fun s => respond (takeUnknown s)) awaits.1 due

theorem exec_selRise {s : State} (sel : s.selLow = true) : exec .selRise s = .next (selRise s) :=
  congrArg Host.Outcome.next (if_pos sel)

theorem exec_selFall {s : State} (sel : s.selLow = false) : exec .selFall s = .next (selFall s) :=
  congrArg Host.Outcome.next (if_neg (by simp [sel]))

/-- SEL rising and falling again, in any phase, moves the port alone: to IDLE, and to the code of a fresh transaction
(R168, R170). -/
theorem selFall_selRise {s : State} (released : s.resetAsserted = false) (sel : s.selLow = true) :
    selFall (selRise s) = { s with hpt := { phase := .code, code := none, operands := [], response := [] } } := by
  simp [selFall, selRise, released, sel]

/-- Settles O24: the row and the byte meet in `answered s 4 []`; the byte after it finds RESPONSE with nothing behind
the status, every later one SPENT, and SEL opens the next transaction. -/
theorem unknownCodeTaken : Obligations.UnknownCodeTaken := by
  intro s code x y awaits sel unnamed
  have released : s.resetAsserted = false := awaits.1
  have row : exec (.unknownCode code) s = .next (settle (answered s 4 [])) := exec_unknownCode awaits unnamed
  have asByte : exec (.byteComplete code) s = .next (settle (answered s 4 [])) := by
    rw [exec_byteComplete released sel, byteComplete_of_code awaits.2, codeByte_of_not_named unnamed]
  have shown : sdo (settle (answered s 4 [])) = some 4 := by
    rw [settle_answered]
    exact sdo_answered released 4 []
  have shifted : exec (.byteComplete x) (settle (answered s 4 [])) = .next (settle (portSpent s)) := by
    rw [settle_answered, exec_byteComplete (s := answered (settle s) 4 []) released sel, byteComplete_answered_nil,
      settle_portSpent, settle_idem, settle_portSpent]
  have ignored : exec (.byteComplete y) (settle (portSpent s)) = .next (settle (portSpent s)) := by
    rw [exec_byteComplete (s := settle (portSpent s)) released sel, byteComplete_of_spent rfl, settle_idem]
  have fresh := selFall_selRise (s := settle (portSpent s)) released sel
  refine ⟨row, asByte, shown, settle (portSpent s), shifted, rfl, ignored, _, _, exec_selRise sel, exec_selFall rfl, rfl,
    ?_, fresh⟩
  rw [fresh]
  exact ⟨released, rfl⟩

end Sys2Proof.Machine

/-! ## What one command can do to the part -/

namespace Sys2Proof.Machine

/-! ### Words and bytes (R182) -/

theorem wordOfBytes_extract (w : U16) : wordOfBytes (w.extractLsb' 8 8) (w.extractLsb' 0 8) = w := by
  apply BitVec.eq_of_toNat_eq
  have := w.isLt
  simp only [wordOfBytes, BitVec.toNat_ofNat, BitVec.extractLsb'_toNat, Nat.shiftRight_eq_div_pow]
  omega

@[simp] theorem wordAt_cons_wordBytes (b : Byte) (w : U16) : wordAt (b :: wordBytes w) 1 = w :=
  wordOfBytes_extract w

@[simp] theorem byteAt_cons_zero (b : Byte) (bs : List Byte) : byteAt (b :: bs) 0 = b := rfl

/-! ### Host commands by their code (R187) -/

theorem takeCode_setDemand (leg : Byte) (value : U16) (s : State) :
    takeCode 0x05#8 (leg :: wordBytes value) s = takeSetDemand leg value s := by
  show takeSetDemand (byteAt _ 0) (wordAt _ 1) s = _
  rw [wordAt_cons_wordBytes, byteAt_cons_zero]

/-- What a host command can leave of the part, beside its answer at the port (10.3 to 10.6). -/
inductive HostEffect (s : State) (code : Byte) : State → Prop
  | none : HostEffect s code s
  | configured (record : ConfigRecord) : code = 0x01#8 → s.locked = false → HostEffect s code (configured s record)
  | joined : s.mbc.station = .detached → HostEffect s code (joined s)
  | detached : s.mbc.station.running = true → s.mbc.station ≠ .leaving → HostEffect s code (detachLeft s .hostLeave)
  | leaving : s.mbc.station = .member → HostEffect s code (enterLeaving s)
  | restarted : s.mbc.station ≠ .unconfigured → HostEffect s code (restarted s)
  | demanded (leg value : Nat) : s.mbc.station ≠ .unconfigured → HostEffect s code (demanded leg value s)
  | enabled (e : Enables) : HostEffect s code { s with evq.enables := e }
  | popped (e : Event) : nextEvent s.evq.records = some e →
      HostEffect s code { s with evq.records := removeFirstOfRank s.evq.records (eventRank e) }

theorem readOut_after (s : State) (r : Option (List Byte)) : (readOut s r).after = s := by
  cases r <;> rfl

theorem takeConfigure_effect (record : List Byte) (s : State) :
    HostEffect s 0x01#8 (takeConfigure record s).after := by
  unfold takeConfigure
  split
  · exact .none
  next unlocked =>
    split
    · exact .none
    · exact .configured _ rfl (by simpa using unlocked)

theorem takeJoin_effect (code : Byte) (s : State) : HostEffect s code (takeJoin s).after := by
  unfold takeJoin
  split
  next h => exact .joined h
  · exact .none

theorem takeLeaveCommand_effect (code : Byte) (s : State) : HostEffect s code (takeLeaveCommand s).after := by
  have gone : ∀ st, s.mbc.station = st → st.running = true → st ≠ .leaving →
      HostEffect s code (detachLeft s .hostLeave) := by
    rintro st rfl runs stays
    exact .detached runs stays
  unfold takeLeaveCommand
  split
  · exact .none
  · exact .none
  · exact .none
  next h => exact gone _ h rfl (by decide)
  next h => exact gone _ h rfl (by decide)
  next h => exact gone _ h rfl (by decide)
  next h =>
    show HostEffect s code (if alone s then _ else _)
    split
    · exact gone _ h rfl (by decide)
    · exact .leaving h

theorem takeRestart_effect (code : Byte) (s : State) : HostEffect s code (takeRestart s).after := by
  unfold takeRestart
  split
  · exact .none
  next h => exact .restarted h

theorem takeSetDemand_effect (code leg : Byte) (value : U16) (s : State) :
    HostEffect s code (takeSetDemand leg value s).after := by
  unfold takeSetDemand
  split
  · exact .none
  next h =>
    split
    · exact .none
    · split
      · exact .none
      · exact .demanded _ _ h

theorem takeGetView_after (which index : Byte) (s : State) : (takeGetView which index s).after = s := by
  unfold takeGetView
  split
  · rfl
  · exact readOut_after s _

theorem HostEffect.of_getView (code which index : Byte) (s : State) :
    HostEffect s code (takeGetView which index s).after := by
  rw [takeGetView_after]
  exact .none

theorem takePopEvent_effect (code : Byte) (s : State) : HostEffect s code (takePopEvent s).after := by
  unfold takePopEvent
  split
  next e h => exact .popped e h
  · exact .none

theorem HostEffect.ite {s : State} {code : Byte} {q : Prop} [Decidable q] {a b : Answer}
    (yes : q → HostEffect s code a.after) (no : HostEffect s code b.after) :
    HostEffect s code (if q then a else b).after := by
  split
  next h => exact yes h
  · exact no

/-- A readout leaves the part as it stands. -/
theorem HostEffect.of_readOut (s : State) (code : Byte) (r : Option (List Byte)) :
    HostEffect s code (readOut s r).after := by
  rw [readOut_after]
  exact .none

/-- Every code and its operands do one of the effects that `HostEffect` lists. -/
theorem takeCode_effect (code : Byte) (ops : List Byte) (s : State) : HostEffect s code (takeCode code ops s).after := by
  unfold takeCode
  refine .ite (fun h => h ▸ takeConfigure_effect ops s) ?_
  refine .ite (fun _ => takeJoin_effect code s) ?_
  refine .ite (fun _ => takeLeaveCommand_effect code s) ?_
  refine .ite (fun _ => takeRestart_effect code s) ?_
  refine .ite (fun _ => takeSetDemand_effect code _ _ s) ?_
  refine .ite (fun _ => .enabled _) ?_
  refine .ite (fun _ => .none) ?_
  refine .ite (fun _ => .of_getView code _ _ s) ?_
  refine .ite (fun _ => .of_readOut s code _) ?_
  refine .ite (fun _ => .of_readOut s code _) ?_
  refine .ite (fun _ => .of_readOut s code _) ?_
  refine .ite (fun _ => .of_readOut s code _) ?_
  exact .ite (fun _ => takePopEvent_effect code s) .none

/-! ### A byte on SDI -/

/-- The port with a state's other blocks as they stand: what a byte changes that takes no command (R168). -/
def withPort (s : State) (port : HostPort) : State := { s with hpt := port }

theorem byteComplete_cases (b : Byte) (s : State) :
    (∃ port, byteComplete b s = withPort s port) ∨
    ∃ code ops, byteComplete b s = respond (takeCode code ops s) ∧ (code = 0x01#8 → s.hpt.code = some 0x01#8) := by
  unfold byteComplete
  split
  · unfold codeByte
    split
    next h => exact .inr ⟨b, [], rfl, fun hb => by rw [hb] at h; cases h⟩
    next n h =>
      split
      next hn => exact .inr ⟨b, [], rfl, fun hb => by rw [hb] at h; cases h; cases hn⟩
      · exact .inl ⟨_, rfl⟩
  · unfold operandByte
    dsimp only
    split
    · exact .inl ⟨s.hpt, rfl⟩
    next code h =>
      split
      · exact .inr ⟨code, _, rfl, fun hc => by rw [h, hc]⟩
      · exact .inl ⟨_, rfl⟩
  · exact .inl ⟨_, rfl⟩
  · exact .inl ⟨s.hpt, rfl⟩
  · exact .inl ⟨s.hpt, rfl⟩
  · exact .inl ⟨s.hpt, rfl⟩

/-! ### The rows of the happenings inside the part -/

/-- The happening inside the part that a row names: when it is due, and what it does (log 5). The rows of the host port
and of the pins RESET and SEL name none. -/
def innerRow : Instr → Option ((State → Bool) × (State → State))
  | .wrap order => some (wrapDue, fun s => wrap order s.sli.prevHigh s)
  | .syncFall lockFirst order =>
    some (fallSeen, fun s => takeFall lockFirst order s.cyt.position { s with sli.prevHigh := false })
  | .markerEnd => some (markerEndDue, stopMarker)
  | .syncStuck => some (syncStuckDue, syncStuck)
  | .talkMark => some (fun s => s.mbc.station.running && s.tli.prevHigh, talkMark)
  | .frameOriginate => some (originateDue, fun s => if startsFrame s then lowMark (originate s) else originate s)
  | .arbitrationLost => some (arbitrationLostDue, loseArbitration)
  | .bitError => some (bitErrorDue, countFailure)
  | .longHighFault => some (longHighDue, longHigh)
  | .longLowFault => some (longLowDue, longLow)
  | .frameVoided => some (frameVoidedDue, voidFrame)
  | .hailAccepted tableFirst => some (acceptedDue .hail, acceptFrame tableFirst)
  | .claimAccepted tableFirst => some (acceptedDue .claim, acceptFrame tableFirst)
  | .recastAccepted tableFirst => some (acceptedDue .recast, acceptFrame tableFirst)
  | .leaveAccepted tableFirst => some (acceptedDue .leave, acceptFrame tableFirst)
  | .talkStuck => some (talkStuckDue, talkStuck)
  | .foundGroup => some (fun s => foundDue s s.sli.prevHigh, fun s => finishBoundary (found s))
  | .alignTimeout => some (alignTimeoutDue, alignTimeout)
  | .hailInterval => some (hailIntervalDue, hailInterval)
  | .leaveTimeout => some (leaveTimeoutDue, fun s => detachLeft s .leaveTimeout)
  | .backoffExpiry => some (backoffExpiryDue, backoffExpiry)
  | .heartbeat => some (heartbeatDue, fun s => postRequest s .claim)
  | .quietHoldOn => some (quietHoldOnDue, holdQuiet)
  | .leaseExpiry => some (leaseExpiryDue, expireLease)
  | .peerLost id => some (fun s => peerLostDue s id, fun s => losePeer s id)
  | .peerPurge id => some (fun s => peerPurgeDue s id, fun s => { s with peers := removePeer s.peers id })
  | .viewSwitch => some (viewSwitchDue, fun s => finishBoundary (lossTest (switchView s)))
  | .observedSwitch => some (observedSwitchDue, fun s => finishBoundary (lossTest (switchObserved s)))
  | .windowEdge => some (fun s => s.locked, fun s => s)
  | .faultAsserted => some (faultAssertedDue, faultAsserted)
  | .faultReleased => some (faultReleasedDue, faultReleased)
  | .tick pins order => some (fun s => s.cyt.prescRunning, clockEdge pins order)
  | _ => none

/-- Such a row takes its happening, and that alone. -/
theorem exec_of_innerRow {c : Instr} {due : State → Bool} {f : State → State} (row : innerRow c = some (due, f))
    (s : State) : exec c s = happen s (due s) f := by
  cases c <;> cases row <;> rfl

theorem Inside.weaken {p q : Prop} {s t : State} (h : Inside p s t) (k : q → p) : Inside q s t :=
  { h with hpt := fun hq => h.hpt (k hq) }

/-- Whatever a row takes inside the part, it reaches no more than `Inside` lists. -/
theorem inside_of_innerRow {c : Instr} {due : State → Bool} {f : State → State} (row : innerRow c = some (due, f))
    (s : State) : Inside False s (f s) := by
  have finish : ∀ {v : State}, Inside False s v → Inside False s (finishBoundary v) :=
    fun k => k.trans (inside_finishBoundary _)
  cases c <;> cases row
  case wrap order => exact (inside_wrap order _ s).weaken False.elim
  case syncFall lockFirst order =>
    exact (Inside.trans Inside.plain (inside_takeFall lockFirst order _ _)).weaken False.elim
  case markerEnd => exact inside_stopMarker s
  case syncStuck => exact inside_syncStuck s
  case talkMark => exact inside_talkMark s
  case frameOriginate => exact .ite ((inside_originate s).trans (inside_lowMark _)) (inside_originate s)
  case arbitrationLost => exact inside_loseArbitration s
  case bitError => exact inside_countFailure s
  case longHighFault => exact inside_longHigh s
  case longLowFault => exact inside_longLow s
  case frameVoided => exact inside_voidFrame s
  case hailAccepted _ => exact inside_acceptFrame _ s
  case claimAccepted _ => exact inside_acceptFrame _ s
  case recastAccepted _ => exact inside_acceptFrame _ s
  case leaveAccepted _ => exact inside_acceptFrame _ s
  case talkStuck => exact inside_talkStuck s
  case foundGroup => exact finish (inside_found s)
  case alignTimeout => exact inside_alignTimeout s
  case hailInterval => exact inside_hailInterval s
  case leaveTimeout => exact inside_detachLeft s _
  case backoffExpiry => exact inside_backoffExpiry s
  case heartbeat => exact inside_postRequest s _
  case quietHoldOn => exact .plain
  case leaseExpiry => exact inside_expireLease s
  case peerLost id => exact inside_losePeer s id
  case peerPurge id => exact .plain
  case viewSwitch => exact finish ((inside_switchView s).trans (inside_lossTest _))
  case observedSwitch => exact finish ((inside_switchObserved s).trans (inside_lossTest _))
  case windowEdge => exact .refl s
  case faultAsserted => exact inside_faultAsserted s
  case faultReleased => exact inside_faultReleased s
  case tick pins order => exact (inside_clockEdge pins order s).weaken False.elim

/-! ### A tick of a part whose timer rests -/

theorem runStage_mbc_of_rest {pins : Pins} {order : TickOrder} {q : TickNote × State} (x : Stage)
    (rest : q.2.mbc.station.running = false) : (runStage pins order q x).2.mbc = q.2.mbc := by
  cases x with
  | cycle => simp [runStage, cycleStage, rest]
  | sync =>
    simp only [runStage, syncStage, sampleSync, endEpisode, rest]
    split <;> rfl
  | talk => simp [runStage, talkStage, rest]
  | fault =>
    simp only [runStage, faultStage, whenDue, faultReleased, faultAsserted]
    split <;> split <;> rfl

theorem runStages_mbc_of_rest {pins : Pins} {order : TickOrder} (xs : List Stage) {q : TickNote × State}
    (rest : q.2.mbc.station.running = false) : (xs.foldl (runStage pins order) q).2.mbc = q.2.mbc := by
  induction xs generalizing q with
  | nil => rfl
  | cons x xs ih =>
    have first := runStage_mbc_of_rest (pins := pins) (order := order) x rest
    rw [List.foldl_cons, ih (by rw [first]; exact rest), first]

theorem markerTick_mbc (s : State) : (markerTick s).mbc = s.mbc := by
  unfold markerTick whenDue
  split <;> rfl

theorem tickBody_mbc_of_rest {pins : Pins} {order : TickOrder} {s : State} (rest : s.mbc.station.running = false) :
    (tickBody pins order s).mbc = s.mbc := by
  have marked : (if s.sli.markerActive then markerTick s else s).mbc = s.mbc := by
    split
    · exact markerTick_mbc s
    · rfl
  unfold tickBody
  generalize (if s.sli.markerActive then markerTick s else s) = r at marked
  dsimp only
  have stages := runStages_mbc_of_rest (pins := pins) (order := order) (stageOrder order.stages)
    (q := ({ captured := r.cyt.position, moved := false, sampled := false, counted := false }, r))
    (by rw [marked]; exact rest)
  generalize (stageOrder order.stages).foldl _ _ = q at stages ⊢
  have stands : q.2.mbc = s.mbc := stages.trans marked
  split
  · exact stands
  · rw [sampleSync, if_neg (by simp [stands, rest])]
    exact stands

theorem clockEdge_mbc_of_rest {pins : Pins} {order : TickOrder} {s : State} (rest : s.mbc.station.running = false) :
    (clockEdge pins order s).mbc = s.mbc := by
  unfold clockEdge
  split
  · rfl
  · exact tickBody_mbc_of_rest (s := { s with cyt.presc := 0 }) rest

/-- The timer runs wherever a row's happening is due, but for those that leave the Membership Controller alone. -/
theorem innerRow_mbc_of_rest {c : Instr} {due : State → Bool} {f : State → State} {s : State}
    (row : innerRow c = some (due, f)) (rest : s.mbc.station.running = false) (isDue : due s = true) :
    (f s).mbc = s.mbc := by
  have running : s.mbc.station.running = true → (f s).mbc = s.mbc := fun h => by simp [rest] at h
  have inState : ∀ st : Station, s.mbc.station = st → st.running = true → (f s).mbc = s.mbc := by
    rintro st rfl h
    exact running h
  have grouped : s.mbc.station.inGroup = true → (f s).mbc = s.mbc := fun h => running (by
    cases hs : s.mbc.station <;> simp_all [Station.inGroup, Station.running])
  have following : s.mbc.station.following = true → (f s).mbc = s.mbc := fun h => running (by
    cases hs : s.mbc.station <;> simp_all [Station.following, Station.running])
  cases c <;> cases row
  case wrap order => exact running (by simp_all [wrapDue])
  case syncFall lockFirst order => exact running (by simp_all [fallSeen])
  case markerEnd => rfl
  case syncStuck => exact running (by simp_all [syncStuckDue])
  case talkMark => exact running (by simp_all)
  case frameOriginate => exact running (by simp_all [originateDue])
  case arbitrationLost => rfl
  case bitError => exact running (by simp_all [bitErrorDue])
  case longHighFault => exact running (by simp_all [longHighDue])
  case longLowFault => rfl
  case frameVoided => exact running (by simp_all [frameVoidedDue])
  case hailAccepted _ => exact running (by simp_all [acceptedDue])
  case claimAccepted _ => exact running (by simp_all [acceptedDue])
  case recastAccepted _ => exact running (by simp_all [acceptedDue])
  case leaveAccepted _ => exact running (by simp_all [acceptedDue])
  case talkStuck => rfl
  case foundGroup => exact inState .listening (by simp_all [foundDue]) rfl
  case alignTimeout => exact inState .aligning (by simp_all [alignTimeoutDue]) rfl
  case hailInterval => exact inState .hailing (by simp_all [hailIntervalDue]) rfl
  case leaveTimeout => exact inState .leaving (by simp_all [leaveTimeoutDue]) rfl
  case backoffExpiry => exact inState .member (by simp_all [backoffExpiryDue]) rfl
  case heartbeat => exact inState .member (by simp_all [heartbeatDue]) rfl
  case quietHoldOn => rfl
  case leaseExpiry => exact inState .member (by simp_all [leaseExpiryDue]) rfl
  case peerLost id => exact grouped (by simp_all [peerLostDue])
  case peerPurge id => rfl
  case viewSwitch => exact grouped (by simp_all [viewSwitchDue])
  case observedSwitch => exact following (by simp_all [observedSwitchDue])
  case windowEdge => rfl
  case faultAsserted => rfl
  case faultReleased => rfl
  case tick pins order => exact clockEdge_mbc_of_rest rest

/-! ### The inversion of every command -/

/-- What taking the command `c` can leave of the part: nothing done, a happening inside the part, a pin moved, a byte at
the port, or a host command taken. -/
inductive Effect (s : State) (c : Instr) : State → Prop
  | idle : Effect s c s
  | inside {due f} : innerRow c = some (due, f) → due s = true → Effect s c (settle (f s))
  | fullReset : c = .fullReset → Effect s c (settle (fullReset s))
  | released : s.resetAsserted = true → Effect s c (releaseReset s)
  | selFell : Effect s c (selFall s)
  | selRose : Effect s c (selRise s)
  | port (port : HostPort) : Effect s c (settle (withPort s port))
  | host (code : Byte) (ops : List Byte) :
      (code = 0x01#8 → (∃ record, c = .configure record) ∨ ∃ b, c = .byteComplete b ∧ s.hpt.code = some 0x01#8) →
      Effect s c (settle (respond (takeCode code ops s)))

theorem Effect.of_happen {s t : State} {c : Instr} {due : Bool} {f : State → State} (h : happen s due f = .next t)
    (done : Effect s c (settle (f s))) : Effect s c t := by
  obtain ⟨rfl, -⟩ | ⟨rfl, -, -⟩ := happen_cases h
  · exact .idle
  · exact done

/-- The row of a host command other than CONFIGURE. -/
theorem Effect.of_host {s t : State} {c : Instr} {due : Bool} {f : State → Answer} (code : Byte) (ops : List Byte)
    (h : happen s due (fun s => respond (f s)) = .next t) (spelt : f s = takeCode code ops s)
    (other : code ≠ 0x01#8) : Effect s c t :=
  .of_happen h (spelt ▸ .host code ops fun eq => absurd eq other)

/-- The rows of the pins RESET and SEL answer the state as it stood or with the pin moved. -/
theorem Effect.of_pin {s t u v : State} {c : Instr} {q : Prop} [Decidable q]
    (h : Host.Outcome.next (φ := Fault) (ρ := Refusal) (if q then u else v) = .next t)
    (yes : q → Effect s c u) (no : Effect s c v) : Effect s c t := by
  cases h
  split
  next hq => exact yes hq
  · exact no

/-- One inversion for every command: what is left is one of the effects that `Effect` lists. -/
theorem exec_effect {c : Instr} {s t : State} (h : exec c s = .next t) : Effect s c t := by
  have inner : ∀ {due f}, innerRow c = some (due, f) → Effect s c t := by
    intro due f row
    rw [exec_of_innerRow row] at h
    obtain ⟨rfl, -⟩ | ⟨rfl, -, isDue⟩ := happen_cases h
    · exact .idle
    · exact .inside row isDue
  cases c
  all_goals try exact inner rfl
  case fullReset => cases h; exact .fullReset rfl
  case resetRelease => exact .of_pin h .released .idle
  case selFall => exact .of_pin h (fun _ => .idle) .selFell
  case selRise => exact .of_pin h (fun _ => .selRose) .idle
  case configure record =>
    simp only [exec, execConfigure] at h
    exact .of_happen h (.host 0x01#8 record fun _ => .inl ⟨record, rfl⟩)
  case join => exact .of_host 0x02#8 [] h rfl (by decide)
  case leave => exact .of_host 0x03#8 [] h rfl (by decide)
  case restart => exact .of_host 0x04#8 [] h rfl (by decide)
  case setDemand leg value => exact .of_host 0x05#8 _ h (takeCode_setDemand leg value s).symm (by decide)
  case setEnables masks => exact .of_host 0x06#8 [masks] h rfl (by decide)
  case getStatus => exact .of_host 0x10#8 [] h rfl (by decide)
  case getView which index => exact .of_host 0x11#8 [which, index] h rfl (by decide)
  case getPeer index => exact .of_host 0x12#8 [index] h rfl (by decide)
  case getPlan index => exact .of_host 0x13#8 [index] h rfl (by decide)
  case getChange index => exact .of_host 0x14#8 [index] h rfl (by decide)
  case peekEvent => exact .of_host 0x20#8 [] h rfl (by decide)
  case popEvent => exact .of_host 0x21#8 [] h rfl (by decide)
  case unknownCode code => exact .of_host 0x00#8 [] h rfl (by decide)
  case byteComplete b =>
    refine .of_happen h ?_
    obtain ⟨port, hb⟩ | ⟨code, ops, hb, first⟩ := byteComplete_cases b s
    · exact hb ▸ .port port
    · exact hb ▸ .host code ops fun hc => .inr ⟨b, rfl, first hc⟩

/-- A step does nothing, or takes the command at the front of the queue. -/
theorem step_cases {s t : State} (h : step s = .next t) :
    t = s ∨ ∃ c rest, exec c (s.withPending rest) = .next t := by
  unfold step at h
  split at h
  · cases h
    exact .inl rfl
  next c rest _ => exact .inr ⟨c, rest, h⟩

end Sys2Proof.Machine

/-! ## The event queue (R151 to R154) -/

namespace Sys2Proof.Machine

/-! ### The law of the queue under an arrival -/

theorem hasOverrun_eq_false_iff (q : List Event) : hasOverrun q = false ↔ ∀ e ∈ q, e.kind ≠ .overrun := by
  simp [hasOverrun]

@[simp] theorem countDropped_kind (e : Event) : (countDropped e).kind = e.kind := by
  unfold countDropped
  split <;> rfl

theorem countDropped_of_ne {e : Event} (other : e.kind ≠ .overrun) : countDropped e = e := if_neg other

@[simp] theorem hasOverrun_map_countDropped (q : List Event) : hasOverrun (q.map countDropped) = hasOverrun q := by
  simp [hasOverrun, Function.comp_def]

/-- A queue without an OVERRUN record has no place for one that is followed by another. -/
theorem EventLaw.of_noOverrun {q : List Event} (none : hasOverrun q = false) (room : q.length ≤ 15) : EventLaw q where
  held := Nat.le_succ_of_le room
  newest older e newer split overran := by
    have inside : e ∈ q := split ▸ List.mem_append_right older List.mem_cons_self
    exact absurd overran ((hasOverrun_eq_false_iff q).mp none e inside)
  others _ := room

/-- The OVERRUN record that takes the 16th place is the newest (R151). -/
theorem EventLaw.append_overrun {q : List Event} (none : hasOverrun q = false) (full : q.length ≤ 15) (c : Option U16) :
    EventLaw (q ++ [overrunRecord c]) where
  held := by simpa using Nat.lt_succ_of_le full
  newest older e newer split overran := by
    rcases List.eq_nil_or_concat newer with rfl | ⟨front, last, rfl⟩
    · rfl
    · have parts : q = older ++ e :: front ∧ overrunRecord c = last := by
        rw [List.concat_eq_append, ← List.cons_append, ← List.append_assoc] at split
        simpa using List.append_inj' split rfl
      have inside : e ∈ q := parts.1 ▸ List.mem_append_right older List.mem_cons_self
      exact absurd overran ((hasOverrun_eq_false_iff q).mp none e inside)
  others h := by simp [hasOverrun, overrunRecord] at h

/-- Counting a dropped record moves no record of the queue. -/
theorem EventLaw.map_countDropped {q : List Event} (law : EventLaw q) : EventLaw (q.map countDropped) where
  held := by simpa using law.held
  newest older e newer split overran := by
    obtain ⟨older', rest, rfl, -, hrest⟩ := List.map_eq_append_iff.mp split
    obtain ⟨e', newer', rfl, rfl, rfl⟩ := List.map_eq_cons_iff.mp hrest
    rw [law.newest older' e' newer' rfl (by simpa using overran), List.map_nil]
  others h := by simpa using law.others (by simpa using h)

/-- An arrival keeps the law of the queue (R151, R152). -/
theorem EventLaw.arrive {q : List Event} (law : EventLaw q) {e : Event} (other : e.kind ≠ .overrun) :
    EventLaw (arrive q e) := by
  cases overran : hasOverrun q with
  | true => exact arrive_dropped overran ▸ law.map_countDropped
  | false =>
    have room : q.length ≤ 15 := law.others overran
    by_cases space : q.length ≤ 14
    · rw [arrive_room overran space]
      refine .of_noOverrun ?_ (by simpa using Nat.lt_succ_of_le space)
      simpa [hasOverrun, other] using overran
    · rw [arrive_full overran (by omega)]
      exact .append_overrun overran room _

theorem EventLaw.arrivals {q q' : List Event} (law : EventLaw q) (arrived : Arrivals q q') : EventLaw q' := by
  obtain ⟨es, others, rfl⟩ := arrived
  induction es generalizing q with
  | nil => exact law
  | cons e es ih =>
    exact ih (law.arrive (others e List.mem_cons_self)) fun x hx => others x (List.mem_cons_of_mem e hx)

/-- While an OVERRUN record is held, it is the last, and an arrival is counted there alone (R152). -/
theorem arrive_counted {q older : List Event} {o : Event} (law : EventLaw q) (last : q = older ++ [o])
    (overran : o.kind = .overrun) (e : Event) : arrive q e = older ++ [countDropped o] := by
  subst last
  have held : hasOverrun (older ++ [o]) = true := by simp [hasOverrun, overran]
  have front : ∀ x ∈ older, countDropped x = x := by
    intro x hx
    obtain ⟨a, b, rfl⟩ := List.append_of_mem hx
    refine countDropped_of_ne fun kind => ?_
    have := law.newest a x (b ++ [o]) (by simp) kind
    simp at this
  rw [arrive_dropped held, List.map_append, List.map_congr_left front, List.map_id']
  rfl

/-! ### Taking a record -/

/-- The records before the first of a rank stay before, those after it after. -/
theorem removeFirstOfRank_split {older newer : List Event} {e : Event} (before : ∀ x ∈ older, eventRank x ≠ eventRank e) :
    removeFirstOfRank (older ++ e :: newer) (eventRank e) = older ++ newer := by
  induction older with
  | nil => simp [removeFirstOfRank]
  | cons x older ih =>
    have other : eventRank x ≠ eventRank e := before x List.mem_cons_self
    rw [List.cons_append, removeFirstOfRank, if_neg other, ih fun y hy => before y (List.mem_cons_of_mem x hy),
      List.cons_append]

/-- A record between two others leaves the queue: what stood last stands last. -/
theorem EventLaw.erase {older newer : List Event} {e : Event} (law : EventLaw (older ++ e :: newer)) :
    EventLaw (older ++ newer) where
  held := by
    have := law.held
    simp only [List.length_append, List.length_cons] at this ⊢
    omega
  newest a x b split overran := by
    rcases List.append_eq_append_iff.mp split with ⟨m, rfl, hm⟩ | ⟨m, rfl, hm⟩
    · exact law.newest (older ++ e :: m) x b (by simp [hm]) overran
    · rcases m with _ | ⟨y, m⟩
      · exact law.newest (a ++ [e]) x b (by simpa using hm.symm) overran
      · obtain ⟨rfl, rfl⟩ : x = y ∧ b = m ++ newer := by simpa using hm
        have := law.newest a x (m ++ e :: newer) (by simp) overran
        simp at this
  others h := by
    have := law.held
    simp only [List.length_append, List.length_cons] at this ⊢
    omega

/-- The record that `nextEvent` picks from records begun with `b`, of which those before it rank after `b`. -/
theorem nextEvent_from (q pre mid : List Event) (b : Event) (before : ∀ x ∈ pre, eventRank b < eventRank x)
    (after : ∀ x ∈ mid, eventRank b ≤ eventRank x) :
    ∃ older e newer, pre ++ b :: mid ++ q = older ++ e :: newer ∧
      q.foldl (fun best e => match best with
        | none => some e
        | some b => if eventRank e < eventRank b then some e else some b) (some b) = some e ∧
      (∀ x ∈ older, eventRank e < eventRank x) ∧ (∀ x ∈ newer, eventRank e ≤ eventRank x) := by
  induction q generalizing pre mid b with
  | nil => exact ⟨pre, b, mid, by simp, rfl, before, after⟩
  | cons x q ih =>
    by_cases ahead : eventRank x < eventRank b
    · have earlier : ∀ y ∈ pre ++ b :: mid, eventRank x < eventRank y := by
        intro y hy
        rcases List.mem_append.mp hy with hy | hy
        · exact ahead.trans (before y hy)
        · rcases List.mem_cons.mp hy with rfl | hy
          · exact ahead
          · exact ahead.trans_le (after y hy)
      obtain ⟨older, e, newer, split, picked, ho, hn⟩ := ih (pre ++ b :: mid) [] x earlier (by simp)
      refine ⟨older, e, newer, by simpa using split, ?_, ho, hn⟩
      rw [List.foldl_cons]
      simpa only [ahead, if_true] using picked
    · have later : ∀ y ∈ mid ++ [x], eventRank b ≤ eventRank y := by
        intro y hy
        rcases List.mem_append.mp hy with hy | hy
        · exact after y hy
        · rw [List.mem_singleton.mp hy]
          exact Nat.le_of_not_lt ahead
      obtain ⟨older, e, newer, split, picked, ho, hn⟩ := ih pre (mid ++ [x]) b before later
      refine ⟨older, e, newer, by simpa using split, ?_, ho, hn⟩
      rw [List.foldl_cons]
      simpa only [ahead, if_false] using picked

/-- The record taken is the oldest of the highest-ranked class present (R153). -/
theorem nextEvent_split {q : List Event} (held : q ≠ []) :
    ∃ older e newer, q = older ++ e :: newer ∧ nextEvent q = some e ∧
      (∀ x ∈ older, eventRank e < eventRank x) ∧ (∀ x ∈ newer, eventRank e ≤ eventRank x) := by
  obtain ⟨b, rest, rfl⟩ := List.exists_cons_of_ne_nil held
  obtain ⟨older, e, newer, split, picked, ho, hn⟩ := nextEvent_from rest [] [] b (by simp) (by simp)
  exact ⟨older, e, newer, split, picked, ho, hn⟩

theorem removeFirstOfRank_oldest {older newer : List Event} {e : Event}
    (before : ∀ x ∈ older, eventRank e < eventRank x) :
    removeFirstOfRank (older ++ e :: newer) (eventRank e) = older ++ newer :=
  removeFirstOfRank_split fun x hx => (before x hx).ne'

/-- Taking the next record keeps the law of the queue. -/
theorem EventLaw.popped {q : List Event} {e : Event} (law : EventLaw q) (next : nextEvent q = some e) :
    EventLaw (removeFirstOfRank q (eventRank e)) := by
  have held : q ≠ [] := by
    rintro rfl
    cases next
  obtain ⟨older, e', newer, rfl, picked, before, -⟩ := nextEvent_split held
  obtain rfl : e' = e := Option.some.inj (picked.symm.trans next)
  rw [removeFirstOfRank_oldest before]
  exact law.erase

/-! ### Every effect of a command on the queue -/

theorem inside_enterLeaving {p : Prop} (s : State) : Inside p s (enterLeaving s) :=
  (inside_setStation s .leaving (by decide)).trans (Inside.trans Inside.plain (inside_postRequest _ .leave))

theorem inside_restarted {p : Prop} (s : State) : Inside p s (restarted s) :=
  (inside_enterDetached s .restarted).trans (Inside.trans Inside.plain (inside_postAt _ _ _ _ _ (by decide)))

theorem inside_demanded {p : Prop} (leg value : Nat) (s : State) : Inside p s (demanded leg value s) := by
  unfold demanded
  have asked := inside_setOwnLeg (p := p) s leg { ownLeg s leg with requested := value }
  generalize setOwnLeg s leg _ = t at asked ⊢
  refine asked.trans (Inside.trans ?_ (inside_claimDueTest _))
  exact Inside.ite (Inside.refl _) Inside.plain

theorem HostEffect.keeps_eventLaw {s t : State} {code : Byte} (effect : HostEffect s code t)
    (law : EventLaw s.evq.records) : EventLaw t.evq.records := by
  cases effect with
  | none => exact law
  | configured record _ _ => exact law
  | joined _ => exact law
  | detached _ _ => exact law.arrivals (inside_detachLeft (p := True) s _).records
  | leaving _ => exact law.arrivals (inside_enterLeaving (p := True) s).records
  | restarted _ => exact law.arrivals (inside_restarted (p := True) s).records
  | demanded leg value _ => exact law.arrivals (inside_demanded (p := True) leg value s).records
  | enabled e => exact law
  | popped e next => exact law.popped next

theorem Effect.keeps_eventLaw {s t : State} {c : Instr} (effect : Effect s c t) (law : EventLaw s.evq.records) :
    EventLaw t.evq.records := by
  cases effect with
  | idle => exact law
  | inside row _ => exact law.arrivals (inside_of_innerRow row s).records
  | fullReset _ => exact .of_noOverrun rfl (Nat.zero_le _)
  | released _ => exact law
  | selFell => exact law
  | selRose => exact law
  | port port => exact law
  | host code ops _ => exact (takeCode_effect code ops s).keeps_eventLaw law

/-- Settles O5: what a happening inside the part does to the queue is a run of arrivals, a host command makes one at
most, and POP EVENT takes one record out. -/
theorem stepKeepsEventLaw : Obligations.StepKeepsEventLaw := by
  intro s t law h
  obtain rfl | ⟨c, rest, taken⟩ := step_cases h
  · exact law
  · exact (exec_effect taken).keeps_eventLaw law

/-! ### PEEK EVENT and POP EVENT (R153, R154) -/

theorem exec_peekEvent {s : State} (awaits : AwaitsCode s) :
    exec .peekEvent s = .next (settle (respond (takePeekEvent s))) :=
  happen_due (f := fun s => respond (takePeekEvent s)) awaits.1 (portReady_of_awaitsCode awaits _)

theorem exec_popEvent {s : State} (awaits : AwaitsCode s) :
    exec .popEvent s = .next (settle (respond (takePopEvent s))) :=
  happen_due (f := fun s => respond (takePopEvent s)) awaits.1 (portReady_of_awaitsCode awaits _)

/-- Settles O17: the arrival's three cases, the split of the queue at the record taken, and the two rows that answer
it. -/
theorem eventQueueOrder : Obligations.EventQueueOrder := by
  refine ⟨fun q e law => ⟨fun other => law.arrive other, fun overran room => arrive_room overran room, fun overran full => ?_, ?_⟩,
    ⟨rfl, fun q held => ?_⟩, fun s awaits => ⟨fun empty => ?_, fun held => ?_⟩⟩
  · exact arrive_full overran full.ge
  · rintro older o d rfl overran detail
    rw [arrive_counted law rfl overran]
    simp [countDropped, overran, detail]
  · obtain ⟨older, e, newer, rfl, picked, before, after⟩ := nextEvent_split held
    exact ⟨older, e, newer, rfl, picked, before, after, removeFirstOfRank_oldest before⟩
  · have none : nextEvent s.evq.records = none := by rw [empty]; rfl
    rw [exec_peekEvent awaits, exec_popEvent awaits, takePeekEvent, takePopEvent, none]
    exact ⟨rfl, rfl⟩
  · obtain ⟨older, e, newer, split, picked, -, -⟩ := nextEvent_split held
    refine ⟨e, picked, split ▸ List.mem_append_right older List.mem_cons_self, rfl, ?_, ?_⟩
    · rw [exec_peekEvent awaits, takePeekEvent, picked]
      rfl
    · rw [exec_popEvent awaits, takePopEvent, picked]
      rfl

end Sys2Proof.Machine

/-! ## Every command and every step: answers, outputs in their place, the record and its lock -/

namespace Sys2Proof.Machine

/-! ### The queue of waiting commands -/

theorem exec_answers (c : Instr) (s : State) : ∃ t, exec c s = .next t := by
  cases c <;> exact ⟨_, rfl⟩

theorem HostEffect.keeps_pending {s t : State} {code : Byte} (effect : HostEffect s code t) : t.pending = s.pending := by
  cases effect with
  | none => rfl
  | configured record _ _ => rfl
  | joined _ => rfl
  | detached _ _ => rfl
  | leaving _ => exact (inside_enterLeaving (p := True) s).pending
  | restarted _ => rfl
  | demanded leg value _ => exact (inside_demanded (p := True) leg value s).pending
  | enabled e => rfl
  | popped e _ => rfl

theorem Effect.keeps_pending {s t : State} {c : Instr} (effect : Effect s c t) : t.pending = s.pending := by
  cases effect with
  | idle => rfl
  | inside row _ => exact (inside_of_innerRow row s).pending
  | fullReset _ => rfl
  | released _ => rfl
  | selFell => rfl
  | selRose => rfl
  | port port => rfl
  | host code ops _ => exact (takeCode_effect code ops s).keeps_pending

/-- Settles O2: every meaning answers, and none of the effects it can have reaches the queue. -/
theorem everyCommandAnswers : Obligations.EveryCommandAnswers := by
  intro c s
  obtain ⟨t, h⟩ := exec_answers c s
  exact ⟨t, h, (exec_effect h).keeps_pending⟩

/-- Settles O1: the two arms of `step`. -/
theorem stepTakesFrontCommand : Obligations.StepTakesFrontCommand := by
  refine ⟨fun c rest s => rfl, fun s empty => ?_⟩
  rw [step, empty]

/-! ### The outputs in their place -/

/-- The pins RESET and SEL and the host port have no part in the outputs. -/
theorem Settled.of_port {s t : State} (settled : Settled s) (plu : t.plu = s.plu) (los : t.los = s.los)
    (evq : t.evq = s.evq) (cyt : t.cyt = s.cyt) (mbc : t.mbc = s.mbc) (cfg : t.cfg = s.cfg)
    (locked : t.locked = s.locked) : Settled t := by
  have gate : ∀ leg, outLevel t leg = outLevel s leg := by
    intro leg
    simp [outLevel, legGate, quietHold, suppressed, positionOpen, tailUncut, currentWindow, previousWindow, State.P, plu,
      los, cyt, mbc, cfg, locked]
  exact ⟨by rw [los, settled.quiet, quietHold, quietHold, plu], by rw [los, settled.out0, gate],
    by rw [los, settled.out1, gate], by rw [evq, settled.irq, irqLevel, irqLevel, evq]⟩

theorem Effect.keeps_settled {s t : State} {c : Instr} (effect : Effect s c t) (settled : Settled s) : Settled t := by
  cases effect with
  | idle => exact settled
  | inside _ _ => exact .of_settle _
  | fullReset _ => exact .of_settle _
  | released _ => exact settled.of_port rfl rfl rfl rfl rfl rfl rfl
  | selFell => exact settled.of_port rfl rfl rfl rfl rfl rfl rfl
  | selRose => exact settled.of_port rfl rfl rfl rfl rfl rfl rfl
  | port port => exact .of_settle _
  | host code ops _ => exact .of_settle _

/-- Settles O4: every effect ends in `settle`, but for the pins RESET and SEL, which have no part in the outputs. -/
theorem stepKeepsSettled : Obligations.StepKeepsSettled := by
  intro s t settled h
  obtain rfl | ⟨c, rest, taken⟩ := step_cases h
  · exact settled
  · exact (exec_effect taken).keeps_settled (settled.of_port rfl rfl rfl rfl rfl rfl rfl)

/-! ### The gate of a leg (R134) -/

theorem inWindow_iff {p : Nat} {w : Window} {x : Nat} :
    inWindow p w x = true ↔ w.start ≤ x ∧ x < w.start + w.grant ∧ x < p := by
  simp [inWindow]

theorem inTail_iff {p : Nat} {w : Window} {x : Nat} : inTail p w x = true ↔ x + p < w.start + w.grant := by
  simp [inTail]

/-- The position is open to a leg in its window and in its uncut tail (R134 to R136). -/
theorem positionOpen_iff (s : State) (leg : Nat) :
    positionOpen s leg = true ↔
      (∃ w, currentWindow s leg = some w ∧ w.start ≤ s.cyt.position ∧ s.cyt.position < w.start + w.grant ∧
        s.cyt.position < s.cfg.fp.p) ∨
      (∃ w, previousWindow s leg = some w ∧ currentWindow s leg = some w ∧
        s.cyt.position + s.cfg.fp.p < w.start + w.grant) := by
  unfold positionOpen tailUncut
  cases hc : currentWindow s leg with
  | none => cases hp : previousWindow s leg <;> simp
  | some w =>
    cases hp : previousWindow s leg with
    | none => simp [inWindow_iff, State.P]
    | some v =>
      simp only [Bool.or_eq_true, Bool.and_eq_true, inWindow_iff, inTail_iff, State.P, beq_iff_eq, Option.some.injEq,
        exists_eq_left']
      constructor
      · rintro (h | ⟨rfl, h⟩)
        · exact .inl h
        · exact .inr ⟨rfl, h⟩
      · rintro (h | ⟨rfl, h⟩)
        · exact .inl h
        · exact .inr ⟨rfl, h⟩

/-- The six conditions of R134, for a configured leg. -/
theorem legGate_iff (s : State) (leg : Nat) :
    legGate s leg = true ↔
      leg < s.cfg.legs ∧ s.mbc.station = .member ∧ s.los.latch = .clear ∧
      (s.plu.claimed = true ∧ s.plu.age < 16) ∧ (s.cfg.fp.placement = .pack → s.plu.complete = true) ∧
      suppressed s leg = false ∧ positionOpen s leg = true := by
  have placed : (s.cfg.fp.placement = .spread ∨ s.plu.complete = true) ↔
      (s.cfg.fp.placement = .pack → s.plu.complete = true) := by
    cases s.cfg.fp.placement <;> simp
  simp only [legGate, quietHold, Bool.and_eq_true, decide_eq_true_eq, beq_iff_eq, Bool.or_eq_true, Bool.not_eq_true',
    Bool.or_eq_false_iff, Bool.not_eq_false', decide_eq_false_iff_not, not_le, and_assoc, ← placed]

theorem outLevel_active_iff (s : State) (leg : Nat) :
    outLevel s leg = .active ↔ s.locked = true ∧ legGate s leg = true := by
  unfold outLevel
  cases s.locked <;> cases legGate s leg <;> simp

theorem outLevel_of_unlocked {s : State} (leg : Nat) (unlocked : s.locked = false) : outLevel s leg = .highZ := by
  simp [outLevel, unlocked]

theorem outLevel_ne_highZ {s : State} (leg : Nat) (locked : s.locked = true) : outLevel s leg ≠ .highZ := by
  cases h : legGate s leg <;> simp [outLevel, locked, h]

theorem outLevel_of_not_member {s : State} (leg : Nat) (locked : s.locked = true) (other : s.mbc.station ≠ .member) :
    outLevel s leg = .inactive := by
  have shut : legGate s leg = false := by
    rw [Bool.eq_false_iff, Ne, legGate_iff]
    exact fun h => other h.2.1
  simp [outLevel, locked, shut]

/-- Settles O9: the pins stand where `settle` puts them (O4), and the gate spells the six conditions. -/
theorem legsMeetTheGate : Obligations.LegsMeetTheGate := by
  intro s t settled h
  obtain ⟨-, out0, out1, -⟩ := stepKeepsSettled s t settled h
  rw [out0, out1]
  refine ⟨fun u => ⟨outLevel_of_unlocked 0 u, outLevel_of_unlocked 1 u⟩,
    fun l m => ⟨outLevel_of_not_member 0 l m, outLevel_of_not_member 1 l m⟩,
    fun l => ⟨outLevel_ne_highZ 0 l, outLevel_ne_highZ 1 l⟩, ?_, ?_⟩
  · rw [outLevel_active_iff, legGate_iff, positionOpen_iff]
    rfl
  · rw [outLevel_active_iff, legGate_iff, positionOpen_iff]
    rfl

/-! ### The record, its lock and UNCONFIGURED (R46, R163) -/

theorem HostEffect.keeps_record {s t : State} {code : Byte} (effect : HostEffect s code t) (locked : s.locked = true) :
    t.cfg = s.cfg ∧ t.locked = true := by
  have inner : Inside True s t → t.cfg = s.cfg ∧ t.locked = true := fun i => ⟨i.cfg, i.locked.trans locked⟩
  cases effect with
  | none => exact ⟨rfl, locked⟩
  | configured record _ unlocked => rw [locked] at unlocked; cases unlocked
  | joined _ => exact ⟨rfl, locked⟩
  | detached _ _ => exact ⟨rfl, locked⟩
  | leaving _ => exact inner (inside_enterLeaving s)
  | restarted _ => exact ⟨rfl, locked⟩
  | demanded leg value _ => exact inner (inside_demanded leg value s)
  | enabled e => exact ⟨rfl, locked⟩
  | popped e _ => exact ⟨rfl, locked⟩

theorem Effect.keeps_record {s t : State} {c : Instr} (effect : Effect s c t) (locked : s.locked = true)
    (other : c ≠ .fullReset) : t.cfg = s.cfg ∧ t.locked = true := by
  cases effect with
  | idle => exact ⟨rfl, locked⟩
  | inside row _ => exact ⟨(inside_of_innerRow row s).cfg, (inside_of_innerRow row s).locked.trans locked⟩
  | fullReset is => exact absurd is other
  | released _ => exact ⟨rfl, locked⟩
  | selFell => exact ⟨rfl, locked⟩
  | selRose => exact ⟨rfl, locked⟩
  | port port => exact ⟨rfl, locked⟩
  | host code ops _ => exact (takeCode_effect code ops s).keeps_record locked

/-- A host command other than CONFIGURE finds an unconfigured station and leaves it so. -/
theorem HostEffect.stays_unconfigured {s t : State} {code : Byte} (effect : HostEffect s code t)
    (station : s.mbc.station = .unconfigured) : t.mbc.station = .unconfigured ∨ code = 0x01#8 := by
  cases effect with
  | none => exact .inl station
  | configured record is _ => exact .inr is
  | joined h => rw [station] at h; cases h
  | detached h _ => rw [station] at h; cases h
  | leaving h => rw [station] at h; cases h
  | restarted h => exact absurd station h
  | demanded leg value h => exact absurd station h
  | enabled e => exact .inl station
  | popped e _ => exact .inl station

theorem HostEffect.stays_configured {s t : State} {code : Byte} (effect : HostEffect s code t)
    (station : t.mbc.station = .unconfigured) : s.mbc.station = .unconfigured := by
  cases effect with
  | none => exact station
  | configured record _ _ => cases station
  | joined _ => cases station
  | detached _ _ => cases station
  | leaving _ => exact (inside_enterLeaving (p := True) s).configured station
  | restarted _ => cases station
  | demanded leg value _ => exact (inside_demanded (p := True) leg value s).configured station
  | enabled e => exact station
  | popped e _ => exact station

theorem Effect.leaves_unconfigured {s t : State} {c : Instr} (effect : Effect s c t)
    (station : s.mbc.station = .unconfigured) (left : t.mbc.station ≠ .unconfigured) :
    (∃ record, c = .configure record) ∨ ∃ b, c = .byteComplete b ∧ s.hpt.code = some 0x01#8 := by
  cases effect with
  | idle => exact absurd station left
  | inside row isDue =>
    refine absurd ?_ left
    rw [settle_mbc, innerRow_mbc_of_rest row (by rw [station]; rfl) isDue]
    exact station
  | fullReset _ => exact absurd rfl left
  | released _ => exact absurd station left
  | selFell => exact absurd station left
  | selRose => exact absurd station left
  | port port => exact absurd station left
  | host code ops row => exact row (((takeCode_effect code ops s).stays_unconfigured station).resolve_left left)

theorem Effect.enters_unconfigured {s t : State} {c : Instr} (effect : Effect s c t)
    (station : s.mbc.station ≠ .unconfigured) (entered : t.mbc.station = .unconfigured) : c = .fullReset := by
  cases effect with
  | idle => exact absurd entered station
  | inside row _ => exact absurd ((inside_of_innerRow row s).configured entered) station
  | fullReset is => exact is
  | released _ => exact absurd entered station
  | selFell => exact absurd entered station
  | selRose => exact absurd entered station
  | port port => exact absurd entered station
  | host code ops _ => exact absurd ((takeCode_effect code ops s).stays_configured entered) station

/-- Settles O8: CONFIGURE is the one effect that writes the record, and takes it unlocked alone; it and the full reset
are the two doors. -/
theorem recordAndDoors : Obligations.RecordAndDoors :=
  ⟨fun _ _ _ locked h other => (exec_effect h).keeps_record locked other,
   fun _ _ _ h => ⟨(exec_effect h).leaves_unconfigured, (exec_effect h).enters_unconfigured⟩⟩

end Sys2Proof.Machine

/-! ## The Peer Table as a list (R69, R70, R73) -/

namespace Sys2Proof.Machine

/-! ### Finding, inserting, removing, updating -/

theorem findPeer_eq_none_iff {t : List Peer} {id : Nat} : findPeer t id = none ↔ ∀ p ∈ t, p.id ≠ id := by
  simp [findPeer]

theorem findPeer_some {t : List Peer} {id : Nat} {p : Peer} (h : findPeer t id = some p) : p ∈ t ∧ p.id = id :=
  ⟨List.mem_of_find?_eq_some h, by simpa using List.find?_some h⟩

/-- In a table in ascending id an entry is the one found under its id. -/
theorem findPeer_of_mem {t : List Peer} {p : Peer} (ascending : (t.map (·.id)).Pairwise (· < ·)) (held : p ∈ t) :
    findPeer t p.id = some p := by
  induction t with
  | nil => cases held
  | cons q t ih =>
    obtain ⟨first, rest⟩ := List.pairwise_cons.mp (List.map_cons ▸ ascending)
    rcases List.mem_cons.mp held with rfl | held
    · simp [findPeer]
    · have before : q.id ≠ p.id := (first p.id (List.mem_map_of_mem held)).ne
      have found := ih rest held
      simpa [findPeer, before] using found

theorem findPeer_eq_some_iff {t : List Peer} {id : Nat} {p : Peer} (ascending : (t.map (·.id)).Pairwise (· < ·)) :
    findPeer t id = some p ↔ p ∈ t ∧ p.id = id := by
  refine ⟨findPeer_some, ?_⟩
  rintro ⟨held, rfl⟩
  exact findPeer_of_mem ascending held

theorem mem_insertPeer {t : List Peer} {p q : Peer} : q ∈ insertPeer t p ↔ q = p ∨ q ∈ t := by
  induction t with
  | nil => simp [insertPeer]
  | cons r t ih =>
    unfold insertPeer
    split <;> simp [ih, or_left_comm]

@[simp] theorem length_insertPeer (t : List Peer) (p : Peer) : (insertPeer t p).length = t.length + 1 := by
  induction t with
  | nil => rfl
  | cons r t ih =>
    unfold insertPeer
    split <;> simp [ih]

/-- A new entry takes the place between the lower and the higher ids. -/
theorem insertPeer_eq {t : List Peer} {p : Peer} (ascending : (t.map (·.id)).Pairwise (· < ·))
    (absent : ∀ q ∈ t, q.id ≠ p.id) :
    insertPeer t p = t.filter (fun q => decide (q.id < p.id)) ++ p :: t.filter (fun q => decide (p.id < q.id)) := by
  induction t with
  | nil => rfl
  | cons r t ih =>
    obtain ⟨first, rest⟩ := List.pairwise_cons.mp (List.map_cons ▸ ascending)
    have other : r.id ≠ p.id := absent r List.mem_cons_self
    unfold insertPeer
    split
    next before =>
      have higher : ∀ q ∈ r :: t, p.id < q.id := by
        intro q hq
        rcases List.mem_cons.mp hq with rfl | hq
        · exact before
        · exact before.trans (first q.id (List.mem_map_of_mem hq))
      rw [List.filter_eq_nil_iff.mpr (by simpa using fun q hq => (higher q hq).le),
        List.filter_eq_self.mpr (by simpa using higher), List.nil_append]
    next after =>
      have lower : r.id < p.id := by omega
      rw [ih rest fun q hq => absent q (List.mem_cons_of_mem r hq)]
      simp [lower, after]

theorem insertPeer_ascending {t : List Peer} {p : Peer} (ascending : (t.map (·.id)).Pairwise (· < ·))
    (absent : ∀ q ∈ t, q.id ≠ p.id) : ((insertPeer t p).map (·.id)).Pairwise (· < ·) := by
  rw [insertPeer_eq ascending absent]
  simp only [List.pairwise_map] at ascending ⊢
  refine List.pairwise_append.mpr ⟨ascending.filter _, List.pairwise_cons.mpr ⟨?_, ascending.filter _⟩, ?_⟩
  · intro q hq
    simpa using (List.mem_filter.mp hq).2
  · intro a ha b hb
    have lower : a.id < p.id := by simpa using (List.mem_filter.mp ha).2
    rcases List.mem_cons.mp hb with rfl | hb
    · exact lower
    · exact lower.trans (by simpa using (List.mem_filter.mp hb).2)

theorem mem_removePeer {t : List Peer} {id : Nat} {p : Peer} : p ∈ removePeer t id ↔ p ∈ t ∧ p.id ≠ id := by
  simp [removePeer]

theorem removePeer_ascending {t : List Peer} (id : Nat) (ascending : (t.map (·.id)).Pairwise (· < ·)) :
    ((removePeer t id).map (·.id)).Pairwise (· < ·) :=
  ascending.sublist (List.filter_sublist.map _)

theorem length_removePeer_lt {t : List Peer} {p : Peer} (held : p ∈ t) : (removePeer t p.id).length < t.length :=
  List.length_filter_lt_length_iff_exists.mpr ⟨p, held, by simp⟩

/-- An update that keeps every id keeps the list of ids. -/
theorem map_id_of_keeps {t : List Peer} {f : Peer → Peer} (keeps : ∀ p, (f p).id = p.id) :
    (t.map f).map (·.id) = t.map (·.id) := by
  simp [keeps]

theorem updatePeer_map_id {t : List Peer} {id : Nat} {f : Peer → Peer} (keeps : ∀ p, (f p).id = p.id) :
    (updatePeer t id f).map (·.id) = t.map (·.id) := by
  refine map_id_of_keeps fun p => ?_
  split
  · exact keeps p
  · rfl

@[simp] theorem length_updatePeer (t : List Peer) (id : Nat) (f : Peer → Peer) :
    (updatePeer t id f).length = t.length := List.length_map _

theorem mem_updatePeer {t : List Peer} {id : Nat} {f : Peer → Peer} {q : Peer} :
    q ∈ updatePeer t id f ↔ (∃ p ∈ t, p.id = id ∧ q = f p) ∨ (q ∈ t ∧ q.id ≠ id) := by
  simp only [updatePeer, List.mem_map]
  constructor
  · rintro ⟨p, held, rfl⟩
    split
    next h => exact .inl ⟨p, held, h, rfl⟩
    next h => exact .inr ⟨held, h⟩
  · rintro (⟨p, held, h, rfl⟩ | ⟨held, h⟩)
    · exact ⟨p, held, if_pos h⟩
    · exact ⟨q, held, if_neg h⟩

theorem updatePeer_of_absent {t : List Peer} {id : Nat} {f : Peer → Peer} (absent : ∀ p ∈ t, p.id ≠ id) :
    updatePeer t id f = t :=
  (List.map_congr_left fun p hp => if_neg (absent p hp)).trans (List.map_id' t)

theorem updatePeer_updatePeer {t : List Peer} {id : Nat} {f g : Peer → Peer} (keeps : ∀ p, (f p).id = p.id) :
    updatePeer (updatePeer t id f) id g = updatePeer t id (g ∘ f) := by
  simp only [updatePeer, List.map_map]
  refine List.map_congr_left fun p _ => ?_
  by_cases h : p.id = id <;> simp [h, keeps]

/-- Two updates that agree on the entry of the station do the same. -/
theorem updatePeer_congr {t : List Peer} {id : Nat} {f g : Peer → Peer} (agree : ∀ p ∈ t, p.id = id → f p = g p) :
    updatePeer t id f = updatePeer t id g := by
  refine List.map_congr_left fun p hp => ?_
  by_cases h : p.id = id
  · simp [h, agree p hp h]
  · simp [h]

theorem findPeer_updatePeer {t : List Peer} {id other : Nat} {f : Peer → Peer} (keeps : ∀ p, (f p).id = p.id) :
    findPeer (updatePeer t id f) other = (findPeer t other).map (fun p => if p.id = id then f p else p) := by
  have same : ((fun p : Peer => p.id == other) ∘ fun p => if p.id = id then f p else p) = fun p => p.id == other := by
    funext p
    simp only [Function.comp]
    split <;> simp [keeps]
  rw [findPeer, updatePeer, List.find?_map, same]
  rfl

/-! ### The most silent entry (R73) -/

/-- `p` goes before `q`: the larger silence, and on equal silence the higher id or the same (R73). -/
def SilentAs (q p : Peer) : Prop := q.silence < p.silence ∨ (q.silence = p.silence ∧ q.id ≤ p.id)

theorem SilentAs.refl (p : Peer) : SilentAs p p := .inr ⟨rfl, le_rfl⟩

theorem SilentAs.trans {a b c : Peer} (h : SilentAs a b) (k : SilentAs b c) : SilentAs a c := by
  unfold SilentAs at *
  omega

theorem mostSilent_from (t : List Peer) (b : Peer) :
    ∃ p, t.foldl (fun best p => match best with
        | none => some p
        | some b => if b.silence < p.silence ∨ (b.silence = p.silence ∧ b.id < p.id) then some p else some b)
        (some b) = some p ∧ (p = b ∨ p ∈ t) ∧ SilentAs b p ∧ ∀ q ∈ t, SilentAs q p := by
  induction t generalizing b with
  | nil => exact ⟨b, rfl, .inl rfl, .refl b, by simp⟩
  | cons x t ih =>
    by_cases more : b.silence < x.silence ∨ (b.silence = x.silence ∧ b.id < x.id)
    · obtain ⟨p, picked, place, best, rest⟩ := ih x
      have bx : SilentAs b x := by unfold SilentAs; omega
      refine ⟨p, by rw [List.foldl_cons]; simpa only [more, if_true] using picked, .inr ?_, bx.trans best, ?_⟩
      · rcases place with rfl | held
        · exact List.mem_cons_self
        · exact List.mem_cons_of_mem x held
      · exact List.forall_mem_cons.mpr ⟨best, rest⟩
    · obtain ⟨p, picked, place, best, rest⟩ := ih b
      have xb : SilentAs x b := by unfold SilentAs; omega
      refine ⟨p, by rw [List.foldl_cons]; simpa only [more, if_false] using picked,
        place.imp id (List.mem_cons_of_mem x), best, List.forall_mem_cons.mpr ⟨xb.trans best, rest⟩⟩

/-- The entry that `mostSilent` picks is one of the list, and none is more silent (R73). -/
theorem mostSilent_some {t : List Peer} {p : Peer} (h : mostSilent t = some p) : p ∈ t ∧ ∀ q ∈ t, SilentAs q p := by
  cases t with
  | nil => cases h
  | cons b t =>
    obtain ⟨p', picked, place, best, rest⟩ := mostSilent_from t b
    obtain rfl : p' = p := Option.some.inj (picked.symm.trans h)
    exact ⟨List.mem_cons.mpr place, List.forall_mem_cons.mpr ⟨best, rest⟩⟩

theorem mostSilent_eq_none_iff {t : List Peer} : mostSilent t = none ↔ t = [] := by
  cases t with
  | nil => simp [mostSilent]
  | cons b t =>
    obtain ⟨p, picked, -⟩ := mostSilent_from t b
    simp only [reduceCtorEq, iff_false]
    exact fun h => by cases picked.symm.trans h

/-! ### A table in its order, with room and without the station itself -/

/-- The part of the table's law that speaks of the entries' ids alone (R69, R70). -/
structure Seats (own : Nat) (t : List Peer) : Prop where
  ascending : (t.map (·.id)).Pairwise (· < ·)
  size : t.length ≤ 20
  notOwn : ∀ p ∈ t, p.id ≠ own

theorem Seats.nil (own : Nat) : Seats own [] := ⟨List.Pairwise.nil, Nat.zero_le _, by simp⟩

/-- Updates that keep every id keep the places. -/
theorem Seats.of_ids {own : Nat} {t u : List Peer} (seats : Seats own t) (ids : u.map (·.id) = t.map (·.id)) :
    Seats own u where
  ascending := ids ▸ seats.ascending
  size := by
    have := congrArg List.length ids
    simp only [List.length_map] at this
    exact this ▸ seats.size
  notOwn p hp := by
    have : p.id ∈ t.map (·.id) := ids ▸ List.mem_map_of_mem hp
    obtain ⟨q, hq, same⟩ := List.mem_map.mp this
    exact same ▸ seats.notOwn q hq

theorem Seats.map {own : Nat} {t : List Peer} {f : Peer → Peer} (seats : Seats own t) (keeps : ∀ p, (f p).id = p.id) :
    Seats own (t.map f) := seats.of_ids (map_id_of_keeps keeps)

theorem Seats.update {own : Nat} {t : List Peer} {id : Nat} {f : Peer → Peer} (seats : Seats own t)
    (keeps : ∀ p, (f p).id = p.id) : Seats own (updatePeer t id f) := seats.of_ids (updatePeer_map_id keeps)

theorem Seats.filter {own : Nat} {t : List Peer} (seats : Seats own t) (k : Peer → Bool) : Seats own (t.filter k) where
  ascending := seats.ascending.sublist (List.filter_sublist.map _)
  size := (List.length_filter_le k t).trans seats.size
  notOwn p hp := seats.notOwn p (List.mem_filter.mp hp).1

/-- An entry of another station with an id not yet held is seated where there is room. -/
theorem Seats.insert {own : Nat} {t : List Peer} {p : Peer} (seats : Seats own t) (room : t.length < 20)
    (absent : ∀ q ∈ t, q.id ≠ p.id) (other : p.id ≠ own) : Seats own (insertPeer t p) where
  ascending := insertPeer_ascending seats.ascending absent
  size := by simpa using room
  notOwn q hq := by
    rcases mem_insertPeer.mp hq with rfl | hq
    · exact other
    · exact seats.notOwn q hq

/-- An entry of another station takes the room of one that goes. -/
theorem Seats.replace {own : Nat} {t : List Peer} {p old : Peer} (seats : Seats own t) (held : old ∈ t)
    (absent : ∀ q ∈ t, q.id ≠ p.id) (other : p.id ≠ own) : Seats own (insertPeer (removePeer t old.id) p) :=
  (seats.filter _).insert ((length_removePeer_lt held).trans_le seats.size)
    (fun q hq => absent q (mem_removePeer.mp hq).1) other

/-! ### The table at a view switch -/

@[simp] theorem Peer.underView_id (ms : List Member) (p : Peer) : (p.underView ms).id = p.id := by
  unfold Peer.underView
  split
  · rfl
  · dsimp only
    split <;> rfl

/-- What `createMember` does: nothing, an entry with room, an entry for that of an unlisted station, or no entry. -/
theorem createMember_cases (ms : List Member) (t : List Peer) (m : Member) :
    (createMember ms t m = t) ∨
    ∃ entry : Peer, entry.id = m.id ∧ entry.kind = .member ∧ findPeer t m.id = none ∧
      ((t.length < 20 ∧ createMember ms t m = insertPeer t entry) ∨
       ∃ old ∈ t, createMember ms t m = insertPeer (removePeer t old.id) entry) := by
  unfold createMember
  split
  · exact .inl rfl
  next absent =>
    dsimp only
    have absent : findPeer t m.id = none := by simpa using absent
    generalize fresh : (if m.new then { newPeer m.id .member (some m.legs) with
      leg0 := LegRecord.listedNew, leg1 := LegRecord.listedNew } else newPeer m.id .member (some m.legs)) = entry
    have ids : entry.id = m.id ∧ entry.kind = .member := by
      rw [← fresh]
      split <;> exact ⟨rfl, rfl⟩
    split
    next room => exact .inr ⟨entry, ids.1, ids.2, absent, .inl ⟨room, rfl⟩⟩
    · split
      next old picked =>
        exact .inr ⟨entry, ids.1, ids.2, absent, .inr ⟨old, (List.mem_filter.mp (mostSilent_some picked).1).1, rfl⟩⟩
      · exact .inl rfl

theorem Seats.createMember {own : Nat} {t : List Peer} (seats : Seats own t) (ms : List Member) {m : Member}
    (other : m.id ≠ own) : Seats own (createMember ms t m) := by
  obtain same | ⟨entry, id, -, absent, ⟨room, h⟩ | ⟨old, held, h⟩⟩ := createMember_cases ms t m
  · rw [same]
    exact seats
  · rw [h]
    exact seats.insert room (id ▸ findPeer_eq_none_iff.mp absent) (id ▸ other)
  · rw [h]
    exact seats.replace held (id ▸ findPeer_eq_none_iff.mp absent) (id ▸ other)

theorem Seats.createMembers {own : Nat} {t : List Peer} (seats : Seats own t) (ms new : List Member)
    (others : ∀ m ∈ new, m.id ≠ own) : Seats own (new.foldl (Machine.createMember ms) t) := by
  induction new generalizing t with
  | nil => exact seats
  | cons m new ih =>
    exact ih (seats.createMember ms (others m List.mem_cons_self)) fun x hx => others x (List.mem_cons_of_mem m hx)

theorem Seats.tableSwitch {s : State} (seats : Seats s.cfg.id s.peers) (v : View) :
    Seats s.cfg.id (tableSwitch s v).peers :=
  (seats.map fun p => Peer.underView_id _ p).createMembers _ _ fun m hm => by simpa using (List.mem_filter.mp hm).2

end Sys2Proof.Machine

/-! ## Operations confined to the change list, the backoff timer, the requests and the event queue -/

namespace Sys2Proof.Machine

/-- The part `s` with the change list, the backoff timer, the requests, the frame in flight and the event records of
`t`. -/
def confine (s t : State) : State :=
  { s with
    mbc := { s.mbc with changes := t.mbc.changes, backoff := t.mbc.backoff }
    tli := { s.tli with requests := t.tli.requests, flight := t.tli.flight }
    evq := { s.evq with records := t.evq.records } }

/-- From `s` to `t` only the change list, the backoff timer, the requests, the frame in flight and the event records have
moved. -/
def Confined (s t : State) : Prop := t = confine s t

theorem Confined.refl (s : State) : Confined s s := rfl

theorem Confined.eq {s t : State} (h : Confined s t) : t = confine s t := h

theorem Confined.trans {a b c : State} (h : Confined a b) (k : Confined b c) : Confined a c :=
  calc c = confine b c := k
    _ = confine (confine a b) c := congrArg (confine · c) h.eq

theorem Confined.ite {s a b : State} {q : Prop} [Decidable q] (ha : Confined s a) (hb : Confined s b) :
    Confined s (if q then a else b) := by
  split
  · exact ha
  · exact hb

theorem Confined.foldl {α : Type} {f : State → α → State} (h : ∀ s x, Confined s (f s x)) (xs : List α) (s : State) :
    Confined s (xs.foldl f s) := by
  induction xs generalizing s with
  | nil => exact .refl s
  | cons x xs ih => exact (h s x).trans (ih (f s x))

section
variable {s t : State}

theorem Confined.cyt (h : Confined s t) : t.cyt = s.cyt := (congrArg State.cyt h.eq :)
theorem Confined.sli (h : Confined s t) : t.sli = s.sli := (congrArg State.sli h.eq :)
theorem Confined.peers (h : Confined s t) : t.peers = s.peers := (congrArg State.peers h.eq :)
theorem Confined.plu (h : Confined s t) : t.plu = s.plu := (congrArg State.plu h.eq :)
theorem Confined.los (h : Confined s t) : t.los = s.los := (congrArg State.los h.eq :)
theorem Confined.cfg (h : Confined s t) : t.cfg = s.cfg := (congrArg State.cfg h.eq :)
theorem Confined.hpt (h : Confined s t) : t.hpt = s.hpt := (congrArg State.hpt h.eq :)
theorem Confined.mbc (h : Confined s t) : t.mbc = { s.mbc with changes := t.mbc.changes, backoff := t.mbc.backoff } :=
  (congrArg State.mbc h.eq :)
theorem Confined.tli (h : Confined s t) : t.tli = { s.tli with requests := t.tli.requests, flight := t.tli.flight } :=
  (congrArg State.tli h.eq :)
theorem Confined.station (h : Confined s t) : t.mbc.station = s.mbc.station := (congrArg (·.mbc.station) h.eq :)
theorem Confined.current (h : Confined s t) : t.mbc.current = s.mbc.current := (congrArg (·.mbc.current) h.eq :)
theorem Confined.pendingView (h : Confined s t) : t.mbc.pending = s.mbc.pending := (congrArg (·.mbc.pending) h.eq :)
theorem Confined.rx (h : Confined s t) : t.tli.rx = s.tli.rx := (congrArg (·.tli.rx) h.eq :)

end

theorem confined_post (s : State) (kind : EventKind) (station : Option Nat) (detail : Option Detail) :
    Confined s (post s kind station detail) := rfl

theorem confined_postAt (s : State) (cycle : Option U16) (kind : EventKind) (station : Option Nat)
    (detail : Option Detail) : Confined s (postAt s cycle kind station detail) := rfl

theorem confined_postRequest (s : State) (k : FrameKind) : Confined s (postRequest s k) := .ite rfl (.refl s)

theorem confined_refuseHail (s : State) (id : Nat) (full : Bool) : Confined s (refuseHail s id full) := rfl

theorem confined_setBackoff (s : State) : Confined s (setBackoff s) :=
  .ite (Confined.trans (b := { s with mbc.backoff := none }) rfl (confined_postRequest _ _)) rfl

theorem confined_clearBackoffIfEmpty (s : State) : Confined s (clearBackoffIfEmpty s) := .ite rfl (.refl s)

theorem confined_appendChange (s : State) (changes : List ChangeEntry) (id : Nat) (change : Change) :
    Confined s (appendChange s changes id change) := by
  have placed : Confined s { s with mbc.changes := changes ++ [{ id := id, change := change, trigger := s.cyt.cycle }] } :=
    rfl
  exact .ite (placed.trans (confined_setBackoff _)) placed

theorem confined_placeChange (s : State) (id : Nat) (change : Change) : Confined s (placeChange s id change) := by
  unfold placeChange
  refine .ite (confined_appendChange _ _ _ _) (.ite (confined_appendChange _ _ _ _) ?_)
  split
  · split
    · exact (confined_refuseHail _ _ _).trans (confined_appendChange _ _ _ _)
    · exact confined_appendChange _ _ _ _
  · exact confined_refuseHail _ _ _

theorem confined_withdrawLost (s : State) (id : Nat) : Confined s (withdrawLost s id) :=
  .ite (.refl s) (Confined.trans (b := { s with
    mbc.changes := s.mbc.changes.filter (fun e => !(e.id == id && e.change == .remove .lost)) }) rfl
    (confined_clearBackoffIfEmpty _))

theorem confined_placeLost (s : State) (id : Nat) : Confined s (placeLost s id) :=
  .ite (confined_placeChange _ _ _) (.refl s)

theorem confined_coverChanges (s : State) (ms : List Member) : Confined s (coverChanges s ms) :=
  Confined.trans (b := { s with mbc.changes := s.mbc.changes.filter (fun e => !covered ms e) }) rfl
    (confined_clearBackoffIfEmpty _)

theorem confined_buildRecast (s : State) : Confined s (buildRecast s).1 := by
  unfold buildRecast
  split
  · rfl
  next base _ =>
    dsimp only
    have refused : Confined s ((walkChanges base.members s.mbc.changes).dropped.foldl (fun t id => refuseHail t id true) s) :=
      .foldl (fun t id => confined_refuseHail t id true) _ s
    generalize List.foldl (fun t id => refuseHail t id true) s _ = r at refused ⊢
    have walked : Confined s (clearBackoffIfEmpty
        { r with mbc.changes := (walkChanges base.members s.mbc.changes).kept }) :=
      refused.trans (Confined.trans (b := { r with
        mbc.changes := (walkChanges base.members s.mbc.changes).kept }) rfl (confined_clearBackoffIfEmpty _))
    generalize clearBackoffIfEmpty _ = t at walked ⊢
    split
    · exact walked.trans rfl
    · exact walked

theorem confined_takeSnapshot (s : State) : Confined s (takeSnapshot s).1 := by
  have built := confined_buildRecast s
  unfold takeSnapshot
  split
  · split
    next h => rw [h] at built; exact built
    next h => rw [h] at built; exact built
  · exact .refl s

theorem confined_restartBackoff (s : State) : Confined s (restartBackoff s) := .ite rfl (confined_setBackoff s)

theorem confined_judgeHail (s : State) (sender : Nat) (h : HailContent) : Confined s (judgeHail s sender h) :=
  .ite (confined_refuseHail _ _ _) (.ite (confined_placeChange _ _ _) (confined_refuseHail _ _ _))

theorem confined_takeLeave (s : State) (sender : Nat) : Confined s (takeLeave s sender) :=
  .ite (confined_placeChange _ _ _) (.refl s)

theorem confined_claimDueTest (s : State) : Confined s (claimDueTest s) := .ite (confined_postRequest _ _) (.refl s)

theorem confined_backoffExpiry (s : State) : Confined s (backoffExpiry s) :=
  Confined.trans (b := { s with mbc.backoff := none }) rfl (confined_postRequest _ _)

/-! ### Operations that leave the table, the record and the station state alone -/

/-- From `s` to `t` the Peer Table, the configuration and the station state stand. -/
structure Aside (s t : State) : Prop where
  peers : t.peers = s.peers
  cfg : t.cfg = s.cfg
  station : t.mbc.station = s.mbc.station

theorem Aside.refl (s : State) : Aside s s := ⟨rfl, rfl, rfl⟩

theorem Aside.trans {a b c : State} (h : Aside a b) (k : Aside b c) : Aside a c :=
  ⟨k.peers.trans h.peers, k.cfg.trans h.cfg, k.station.trans h.station⟩

theorem Aside.ite {s a b : State} {q : Prop} [Decidable q] (ha : Aside s a) (hb : Aside s b) :
    Aside s (if q then a else b) := by
  split
  · exact ha
  · exact hb

theorem Confined.aside {s t : State} (h : Confined s t) : Aside s t := ⟨h.peers, h.cfg, h.station⟩

theorem aside_setOwnLeg (s : State) (leg : Nat) (o : OwnLeg) : Aside s (setOwnLeg s leg o) :=
  .ite ⟨rfl, rfl, rfl⟩ ⟨rfl, rfl, rfl⟩

theorem aside_demanded (leg value : Nat) (s : State) : Aside s (demanded leg value s) := by
  unfold demanded
  have asked := aside_setOwnLeg s leg { ownLeg s leg with requested := value }
  generalize setOwnLeg s leg _ = t at asked ⊢
  have leased : Aside t (if t.cfg.lease = 0 then t else { t with plu.lease := t.cfg.lease * 8 }) :=
    .ite (.refl t) ⟨rfl, rfl, rfl⟩
  exact asked.trans (leased.trans (confined_claimDueTest _).aside)

theorem aside_expireLease (s : State) : Aside s (expireLease s) := by
  unfold expireLease
  dsimp only
  have := (confined_claimDueTest (post { s with plu := { s.plu with
    lease := 0, leg0 := { s.plu.leg0 with requested := 0 }, leg1 := { s.plu.leg1 with requested := 0 } } }
    .leaseExpired none (some { code := 0, value := s.cfg.lease }))).aside
  exact ⟨this.peers, this.cfg, this.station⟩

theorem aside_leaseStep (s : State) : Aside s (leaseStep s) := .ite (aside_expireLease s) ⟨rfl, rfl, rfl⟩

theorem aside_ageStep (s : State) : Aside s (ageStep s) := by
  have counted : Aside s { s with plu.age := min (s.plu.age + 1) 255 } := ⟨rfl, rfl, rfl⟩
  exact .ite (counted.trans (confined_postRequest _ _).aside) counted

theorem aside_planCount (s : State) : Aside s (planCount s) := by
  have made : Aside s { s with plu.counting := false } := ⟨rfl, rfl, rfl⟩
  exact .ite (made.trans ((aside_leaseStep _).trans (aside_ageStep _))) made

theorem aside_makePlan (s : State) : Aside s (makePlan s) := by
  unfold makePlan
  split
  · exact .refl s
  · exact ⟨rfl, rfl, rfl⟩

theorem aside_planBoundary (s : State) : Aside s (planBoundary s) :=
  .ite (Aside.trans (b := { s with plu.complete := tableComplete s }) ⟨rfl, rfl, rfl⟩ (aside_makePlan _)) (.refl s)

theorem aside_startMarker (s : State) : Aside s (startMarker s) := .ite ⟨rfl, rfl, rfl⟩ (.refl s)

theorem aside_finishBoundary (s : State) : Aside s (finishBoundary s) :=
  (aside_planBoundary s).trans (aside_startMarker _)

theorem aside_applyPublished (s : State) : Aside s (applyPublished s) := .ite ⟨rfl, rfl, rfl⟩ (.refl s)

theorem aside_takeLoopback (s : State) (c : ClaimContent) : Aside s (takeLoopback s c) := .ite ⟨rfl, rfl, rfl⟩ (.refl s)

theorem aside_planFrame (s : State) (k : FrameKind) (payload : List Byte) (own : Bool) :
    Aside s (planFrame s k payload own) := .ite (aside_takeLoopback _ _) (.refl s)

theorem aside_memberEntry (s : State) : Aside s (memberEntry s) := by
  unfold memberEntry
  have := (confined_postRequest { s with
    mbc := { s.mbc with changes := [], backoff := none }
    plu := { s.plu with age := 0, claimed := false, counting := false } } .claim).aside
  exact ⟨this.peers, this.cfg, this.station⟩

theorem aside_zeroIfNew (s : State) (v : View) : Aside s (zeroIfNew s v) := .ite ⟨rfl, rfl, rfl⟩ (.refl s)

theorem aside_markBoundary (s : State) : Aside s (markBoundary s) := .ite ⟨rfl, rfl, rfl⟩ (.refl s)

theorem aside_clearLatch (s : State) : Aside s (clearLatch s) := .ite ⟨rfl, rfl, rfl⟩ (.refl s)

theorem aside_readoutAt (order : BoundaryOrder) (k : Nat) (s : State) : Aside s (readoutAt order k s) := by
  unfold readoutAt
  split
  · split
    next h =>
      obtain ⟨port, hb⟩ := byteComplete_readout h.2
      exact hb ▸ ⟨rfl, rfl, rfl⟩
    · exact .refl s
  · exact .refl s

theorem aside_testRecast (s : State) (sender : Nat) (r : RecastContent) (bytes : Nat) :
    Aside s (testRecast s sender r bytes) := by
  unfold testRecast
  dsimp only
  have again : ∀ t, Aside s t → Aside s (if s.mbc.station = .member then restartBackoff t else t) :=
    fun t ht => .ite (ht.trans (confined_restartBackoff t).aside) ht
  apply again
  split
  · exact (confined_post _ _ _ _).aside
  · have adopted : Aside s { s with mbc.pending := some (pendingView r) } := ⟨rfl, rfl, rfl⟩
    exact .ite (adopted.trans (confined_coverChanges _ _).aside) adopted

theorem aside_markerTick (s : State) : Aside s (markerTick s) := .ite ⟨rfl, rfl, rfl⟩ ⟨rfl, rfl, rfl⟩

theorem aside_startFrame (s : State) : Aside s (startFrame s) := by
  have := (confined_takeSnapshot s).aside
  exact ⟨this.peers, this.cfg, this.station⟩

theorem aside_originate (s : State) : Aside s (originate s) := by
  unfold originate
  split
  · exact aside_startFrame s
  · exact (confined_takeSnapshot s).aside

theorem aside_lowMark (s : State) : Aside s (lowMark s) := ⟨rfl, rfl, rfl⟩

theorem aside_talkMark (s : State) : Aside s (talkMark s) := by
  unfold talkMark
  dsimp only
  split
  · exact .ite (.ite ((aside_startFrame s).trans (aside_lowMark _)) ⟨rfl, rfl, rfl⟩) ⟨rfl, rfl, rfl⟩
  · exact .ite ⟨rfl, rfl, rfl⟩ (.ite ⟨rfl, rfl, rfl⟩ ⟨rfl, rfl, rfl⟩)
  · exact .ite ⟨rfl, rfl, rfl⟩ ⟨rfl, rfl, rfl⟩

theorem aside_sampleCell (high : Bool) (s : State) : Aside s (sampleCell high s) := by
  unfold sampleCell
  dsimp only
  split
  · exact .refl s
  · exact ⟨rfl, rfl, rfl⟩
  · split <;> exact ⟨rfl, rfl, rfl⟩

theorem aside_sampleTick (high : Bool) (s : State) : Aside s (sampleTick high s) :=
  .ite (aside_sampleCell _ _) (.refl s)

theorem aside_cellTick (s : State) : Aside s (cellTick s) := .ite (.refl s) ⟨rfl, rfl, rfl⟩

theorem aside_followRecast (s : State) (sender : Nat) (r : RecastContent) (bytes : Nat) :
    Aside s (followRecast s sender r bytes) := .ite ⟨rfl, rfl, rfl⟩ (.refl s)

theorem aside_faultStage (pins : Pins) (s : State) : Aside s (faultStage pins s) :=
  .ite (.ite ⟨rfl, rfl, rfl⟩ (.refl s)) (.ite ⟨rfl, rfl, rfl⟩ (.refl s))

end Sys2Proof.Machine

/-! ## The law of the Peer Table under every operation (R69, R70, R82) -/

namespace Sys2Proof.Machine

variable {s t : State}

/-! ### The law by its parts -/

theorem TableLaw.seats (law : TableLaw s) : Seats s.cfg.id s.peers := ⟨law.ascending, law.size, law.notOwn⟩

theorem TableLaw.of_seats (seats : Seats s.cfg.id s.peers)
    (kinds : ∀ p ∈ s.peers, p.kind ≠ .heard → s.mbc.station.inGroup = true) : TableLaw s :=
  ⟨seats.ascending, seats.size, seats.notOwn, kinds⟩

/-- In MEMBER and LEAVING entries of every kind may stand. -/
theorem TableLaw.of_inGroup (seats : Seats s.cfg.id s.peers) (grouped : s.mbc.station.inGroup = true) : TableLaw s :=
  .of_seats seats fun _ _ _ => grouped

/-- Where every entry is HEARD the station may stand in any state. -/
theorem TableLaw.of_heard (seats : Seats s.cfg.id s.peers) (heard : ∀ p ∈ s.peers, p.kind = .heard) : TableLaw s :=
  .of_seats seats fun p hp other => absurd (heard p hp) other

theorem TableLaw.heard (law : TableLaw s) (alone : s.mbc.station.inGroup = false) : ∀ p ∈ s.peers, p.kind = .heard := by
  intro p hp
  by_contra other
  rw [law.kinds p hp other] at alone
  cases alone

theorem TableLaw.of_aside (law : TableLaw s) (h : Aside s t) : TableLaw t := by
  refine .of_seats ?_ ?_
  · rw [h.peers, h.cfg]
    exact law.seats
  · rw [h.peers, h.station]
    exact law.kinds

theorem TableLaw.confined (law : TableLaw s) (h : Confined s t) : TableLaw t := law.of_aside h.aside

/-- A change of state between states that hold HEARD entries alone, with the table as it stands. -/
theorem TableLaw.outside (law : TableLaw s) (alone : s.mbc.station.inGroup = false) (peers : t.peers = s.peers)
    (cfg : t.cfg = s.cfg) : TableLaw t := by
  refine .of_heard ?_ ?_
  · rw [peers, cfg]
    exact law.seats
  · rw [peers]
    exact law.heard alone

theorem table_ite {q : Prop} [Decidable q] (yes : q → TableLaw s) (no : ¬ q → TableLaw t) :
    TableLaw (if q then s else t) := by
  split
  next h => exact yes h
  next h => exact no h

theorem table_whenDue {due : State → Bool} {f : State → State} (law : TableLaw s)
    (done : due s = true → TableLaw (f s)) : TableLaw (whenDue due f s) := table_ite done fun _ => law

theorem table_map {f : Peer → Peer} (law : TableLaw s) (ids : ∀ p, (f p).id = p.id)
    (kinds : ∀ p, (f p).kind = p.kind) : TableLaw { s with peers := s.peers.map f } := by
  refine .of_seats (law.seats.map ids) fun p hp other => ?_
  obtain ⟨q, hq, rfl⟩ := List.mem_map.mp hp
  exact law.kinds q hq (by rwa [kinds] at other)

theorem table_update {id : Nat} {f : Peer → Peer} (law : TableLaw s) (ids : ∀ p, (f p).id = p.id)
    (kinds : ∀ p, (f p).kind = p.kind) : TableLaw { s with peers := updatePeer s.peers id f } := by
  refine table_map law (fun p => ?_) fun p => ?_ <;> split <;> simp [ids, kinds]

/-! ### Leaving the group -/

theorem heard_of_demoted (ps : List Peer) : ∀ p ∈ ps.map Peer.demote, p.kind = .heard := by
  intro p hp
  obtain ⟨q, -, rfl⟩ := List.mem_map.mp hp
  rfl

theorem seats_demoted {own : Nat} {ps : List Peer} (seats : Seats own ps) : Seats own (ps.map Peer.demote) :=
  seats.map fun _ => rfl

theorem table_memberToAligning (law : TableLaw s) : TableLaw (memberToAligning s) :=
  .of_heard (seats_demoted law.seats) (heard_of_demoted _)

theorem table_memberToListening (law : TableLaw s) : TableLaw (memberToListening s) :=
  .of_heard (seats_demoted law.seats) (heard_of_demoted _)

theorem table_enterDetached (law : TableLaw s) (reason : DetachReason) : TableLaw (enterDetached s reason) :=
  .of_heard (seats_demoted law.seats) (heard_of_demoted _)

theorem table_detachLeft (law : TableLaw s) (reason : DetachReason) : TableLaw (detachLeft s reason) :=
  table_enterDetached (law.confined (confined_post s _ _ _)) reason

theorem table_zeroPublished (law : TableLaw s) : TableLaw (zeroPublished s) := law.of_aside ⟨rfl, rfl, rfl⟩

theorem table_tryHail (law : TableLaw s) : TableLaw (tryHail s) := by
  refine table_ite (fun h => ?_) fun _ => law
  refine law.outside (by rw [h.1]; rfl) ?_ ?_
  · exact (confined_postRequest _ _).peers
  · exact (confined_postRequest _ _).cfg

/-! ### Frames at the Peer Table -/

@[simp] theorem newPeer_id (id : Nat) (kind : PeerKind) (legs : Option Nat) : (newPeer id kind legs).id = id := rfl

@[simp] theorem Peer.update_id (fp : Fingerprint) (k : FrameKind) (payload : List Byte) (p : Peer) :
    (p.update fp k payload).id = p.id := by
  unfold Peer.update
  split
  · rfl
  · dsimp only
    split <;> rfl
  · split <;> rfl
  · rfl

@[simp] theorem Peer.update_kind (fp : Fingerprint) (k : FrameKind) (payload : List Byte) (p : Peer) :
    (p.update fp k payload).kind = p.kind := by
  unfold Peer.update
  split
  · rfl
  · dsimp only
    split <;> rfl
  · split <;> rfl
  · rfl

theorem evictee_mem {old : Peer} (h : evictee s = some old) : old ∈ s.peers :=
  (List.mem_filter.mp (mostSilent_some h).1).1

/-- A new HEARD entry keeps the law wherever it finds a seat. -/
theorem table_seat {ps : List Peer} {id : Nat} (law : TableLaw s)
    (seats : Seats s.cfg.id (insertPeer ps (newPeer id .heard none))) (sub : ∀ p ∈ ps, p ∈ s.peers) :
    TableLaw { s with peers := insertPeer ps (newPeer id .heard none) } := by
  refine .of_seats seats fun p hp other => ?_
  rcases mem_insertPeer.mp hp with rfl | hp
  · exact absurd rfl other
  · exact law.kinds p (sub p hp) other

theorem table_enterSender (law : TableLaw s) (cycle : Option U16) {sender : Nat} (frame : FrameKind)
    (other : sender ≠ s.cfg.id) : TableLaw (enterSender cycle s sender frame) := by
  unfold enterSender
  split
  · exact law
  next unknown =>
    have absent : ∀ q ∈ s.peers, q.id ≠ sender := findPeer_eq_none_iff.mp (by simpa using unknown)
    split
    next room =>
      exact (table_seat law (law.seats.insert room absent other) fun _ h => h).confined (confined_postAt _ _ _ _ _)
    · split
      next old evicted =>
        have seats := law.seats.replace (p := newPeer sender .heard none) (evictee_mem evicted) absent other
        exact (table_seat law seats fun _ h => (mem_removePeer.mp h).1).confined (confined_postAt _ _ _ _ _)
      · exact law.confined (confined_postAt _ _ _ _ _)

theorem table_returnPeer (law : TableLaw s) (cycle : Option U16) (sender : Nat) :
    TableLaw (returnPeer cycle s sender) := by
  unfold returnPeer
  split
  next p found =>
    split
    next lost =>
      have grouped : s.mbc.station.inGroup = true := law.kinds p (findPeer_some found).1 (by rw [lost.1]; decide)
      have returned : TableLaw { s with
          peers := updatePeer s.peers sender (fun q => { q with kind := .member }) } :=
        .of_inGroup (law.seats.update fun _ => rfl) grouped
      have posted := returned.confined (confined_postAt _ cycle .peerReturned (some sender)
        (some { code := p.silence, value := 0 }))
      exact table_ite (fun _ => posted.confined (confined_withdrawLost _ _)) fun _ => posted
    · exact law
  · exact law

theorem table_hearFrame (law : TableLaw s) (cycle : Option U16) (k : FrameKind) {sender : Nat} (payload : List Byte)
    (other : sender ≠ s.cfg.id) : TableLaw (hearFrame cycle s k sender payload) := by
  have seated := table_returnPeer (table_enterSender law cycle k other) cycle sender
  exact table_update seated (fun p => by simp) (fun p => by simp)

theorem table_flagForeign (law : TableLaw s) (won : Bool) (sender : Nat) : TableLaw (flagForeign won s sender) :=
  table_ite (fun _ => table_update law (fun _ => rfl) fun _ => rfl) fun _ => law

/-! ### The table at a boundary -/

theorem table_agePeers (law : TableLaw s) : TableLaw (agePeers s) := table_map law (fun _ => rfl) fun _ => rfl

theorem table_applyPeerDemands (law : TableLaw s) : TableLaw (applyPeerDemands s) :=
  table_ite (fun _ => table_map law (fun _ => rfl) fun _ => rfl) fun _ => law

theorem table_filter (law : TableLaw s) (k : Peer → Bool) : TableLaw { s with peers := s.peers.filter k } :=
  .of_seats (law.seats.filter k) fun p hp => law.kinds p (List.mem_filter.mp hp).1

theorem table_purgeHeard (law : TableLaw s) : TableLaw (purgeHeard s) := table_filter law _

theorem table_purgeTest (law : TableLaw s) : TableLaw (purgeTest s) := table_ite (fun _ => table_purgeHeard law) fun _ => law

@[simp] theorem markLost_station (s : State) (p : Peer) : (markLost s p).mbc.station = s.mbc.station := rfl

theorem table_markLost (law : TableLaw s) (grouped : s.mbc.station.inGroup = true) (p : Peer) :
    TableLaw (markLost s p) :=
  .of_inGroup (law.seats.update (f := fun q => { q with kind := .lost }) fun _ => rfl) grouped

theorem table_foldl_markLost (law : TableLaw s) (grouped : s.mbc.station.inGroup = true) (ps : List Peer) :
    TableLaw (ps.foldl markLost s) := by
  induction ps generalizing s with
  | nil => exact law
  | cons p ps ih => exact ih (table_markLost law grouped p) (by simpa using grouped)

theorem table_lossTest (law : TableLaw s) : TableLaw (lossTest s) :=
  table_ite (fun h => (table_foldl_markLost law h _).confined (.foldl confined_placeLost _ _)) fun _ => law

theorem table_losePeer (law : TableLaw s) (grouped : s.mbc.station.inGroup = true) (id : Nat) :
    TableLaw (losePeer s id) := by
  unfold losePeer
  split
  · exact (table_markLost law grouped _).confined (confined_placeLost _ _)
  · exact law

/-! ### Switches and founding -/

theorem table_tableSwitch (law : TableLaw s) (grouped : s.mbc.station.inGroup = true) (v : View) :
    TableLaw (tableSwitch s v) := .of_inGroup (law.seats.tableSwitch v) grouped

theorem table_exclude (law : TableLaw s) (v : View) : TableLaw (exclude s v) :=
  table_zeroPublished (table_memberToAligning (law.confined (confined_post s _ _ _)))

theorem table_zeroIfNew (law : TableLaw s) (v : View) : TableLaw (zeroIfNew s v) := law.of_aside (aside_zeroIfNew s v)

theorem table_memberSwitch (law : TableLaw s) (grouped : s.mbc.station.inGroup = true) (v : View) :
    TableLaw (memberSwitch s v) := by
  have switched := table_zeroIfNew (table_tableSwitch (law.confined (confined_post s .viewChanged none
    (some { code := v.members.length, value := v.epoch.toNat }))) grouped v) v
  exact table_ite (fun _ => table_ite (fun _ => switched.confined (confined_postRequest _ _)) fun _ => switched)
    fun _ => table_exclude law v

theorem table_leavingSwitch (law : TableLaw s) (grouped : s.mbc.station.inGroup = true) (v : View) :
    TableLaw (leavingSwitch s v) :=
  table_ite (fun _ => (table_tableSwitch law grouped v).confined (confined_postRequest _ _))
    fun _ => table_detachLeft law _

theorem table_switchView (law : TableLaw s) (grouped : s.mbc.station.inGroup = true) : TableLaw (switchView s) := by
  unfold switchView
  split
  · exact law
  next p _ =>
    have taken : TableLaw { s with mbc := { s.mbc with current := some p.view, pending := none } } :=
      law.of_aside ⟨rfl, rfl, rfl⟩
    exact table_ite (fun _ => table_memberSwitch taken grouped _) fun _ => table_leavingSwitch taken grouped _

theorem table_admitTo (law : TableLaw s) (v : View) : TableLaw (admitTo s v) := by
  unfold admitTo
  dsimp only
  refine TableLaw.of_aside ?_ (aside_memberEntry _)
  refine table_zeroIfNew (table_tableSwitch ?_ rfl v) v
  exact .of_inGroup law.seats rfl

theorem table_switchObserved (law : TableLaw s) : TableLaw (switchObserved s) := by
  unfold switchObserved
  split
  · exact law
  · exact table_ite (fun _ => table_ite (fun _ => table_admitTo law _) fun _ => law.of_aside ⟨rfl, rfl, rfl⟩)
      fun _ => law.of_aside ⟨rfl, rfl, rfl⟩

theorem table_found (law : TableLaw s) : TableLaw (found s) := by
  unfold found
  dsimp only
  refine TableLaw.of_aside ?_ (aside_memberEntry _)
  exact .of_inGroup law.seats rfl

/-! ### Frames at the Membership Controller -/

theorem table_foreignWon (law : TableLaw s) (sender : Nat) : TableLaw (foreignWon s sender) := by
  unfold foreignWon
  split
  · refine table_ite (fun _ => law) fun _ => ?_
    have flagged : TableLaw { s with
        peers := updatePeer s.peers sender (fun q => { q with foreign := true }) } :=
      table_update law (fun _ => rfl) fun _ => rfl
    exact flagged.confined (confined_post _ _ _ _)
  · exact law.confined (confined_post _ _ _ _)

theorem table_compareForeign (law : TableLaw s) (sender : Nat) (i : Identity) :
    TableLaw (compareForeign s sender i) :=
  table_ite
    (fun _ => table_zeroPublished (table_memberToAligning (law.confined (confined_post s _ _ _))))
    fun _ => table_foreignWon law sender

theorem table_memberRecast (law : TableLaw s) (sender : Nat) (r : RecastContent) (bytes : Nat) :
    TableLaw (memberRecast s sender r bytes) :=
  table_ite (fun _ => law.of_aside (aside_testRecast s sender r bytes)) fun _ =>
    table_ite (fun _ => table_ite (fun _ => law) fun _ => table_compareForeign law _ _) fun _ => law

theorem table_memberClaim (law : TableLaw s) (sender : Nat) (c : ClaimContent) : TableLaw (memberClaim s sender c) :=
  table_ite
    (fun _ => table_ite (fun _ => table_memberToAligning (law.confined (confined_post s _ _ _))) fun _ => law)
    fun _ => table_compareForeign law _ _

theorem table_followClaim (law : TableLaw s) (sender : Nat) (c : ClaimContent) (boundary : Bool) :
    TableLaw (followClaim s sender c boundary) :=
  table_ite (fun _ => law) fun _ => table_tryHail (law.of_aside ⟨rfl, rfl, rfl⟩)

theorem table_follow (law : TableLaw s) (k : FrameKind) (sender : Nat) (payload : List Byte) (own boundary : Bool) :
    TableLaw (controllerFrame.follow s k sender payload own boundary) := by
  unfold controllerFrame.follow
  split
  · exact law
  · split
    · exact table_followClaim law _ _ _
    · exact law.of_aside (aside_followRecast _ _ _ _)
    · exact law

theorem table_controllerFrame (law : TableLaw s) (k : FrameKind) (sender : Nat) (payload : List Byte)
    (own boundary : Bool) : TableLaw (controllerFrame s k sender payload own boundary) := by
  unfold controllerFrame
  split
  · exact law.of_aside ⟨rfl, rfl, rfl⟩
  · exact table_follow law _ _ _ _ _
  · exact table_follow law _ _ _ _ _
  · split
    · exact table_ite (fun _ => law) fun _ => law.confined (confined_judgeHail _ _ _)
    · exact table_memberClaim law _ _
    · exact table_memberRecast law _ _ _
    · exact table_ite (fun _ => law) fun _ => law.confined (confined_takeLeave _ _)
  · split
    · exact table_memberRecast law _ _ _
    · exact law
  · exact law

theorem table_tableFrame (law : TableLaw s) (cycle : Option U16) (k : FrameKind) {sender : Nat} (payload : List Byte)
    {own : Bool} (other : own = false → sender ≠ s.cfg.id) : TableLaw (tableFrame cycle s k sender payload own) :=
  table_ite (fun _ => law) fun h => table_hearFrame law cycle k payload (other (by simpa using h))

theorem table_deliver (law : TableLaw s) (tableFirst : Bool) (k : FrameKind) {sender : Nat} (payload : List Byte)
    {own : Bool} (boundary : Bool) (other : own = false → sender ≠ s.cfg.id) :
    TableLaw (deliver tableFirst s k sender payload own boundary) := by
  have planned := law.of_aside (aside_planFrame s k payload own)
  have cfg := (aside_planFrame s k payload own).cfg
  unfold deliver
  dsimp only
  generalize planFrame s k payload own = p at planned cfg ⊢
  refine table_ite (fun _ => ?_) fun _ => ?_
  · exact table_controllerFrame (table_tableFrame planned _ _ _ (cfg ▸ other)) _ _ _ _ _
  · have judged := table_controllerFrame planned k sender payload own boundary
    have same := (inside_controllerFrame (p := True) p k sender payload own boundary).cfg
    exact table_flagForeign (table_tableFrame judged _ _ _ (same ▸ cfg ▸ other)) _ _

theorem table_acceptFrame (law : TableLaw s) (tableFirst : Bool) : TableLaw (acceptFrame tableFirst s) := by
  unfold acceptFrame
  dsimp only
  have idle : TableLaw { s with tli.rx := Rx.idle } := law.of_aside ⟨rfl, rfl, rfl⟩
  split
  next f _ =>
    have sent : TableLaw (completeSender { s with tli.rx := Rx.idle } f) := idle.of_aside ⟨rfl, rfl, rfl⟩
    exact table_deliver sent tableFirst _ _ _ (by simp)
  · refine table_ite (fun _ => ?_) fun other => table_deliver idle tableFirst _ _ _ fun _ => other
    exact table_enterDetached (idle.confined (confined_post _ _ _ _)) _

/-! ### Boundaries and falls -/

theorem table_alignTimeout (law : TableLaw s) (alone : s.mbc.station.inGroup = false) : TableLaw (alignTimeout s) :=
  law.outside alone rfl rfl

theorem table_hailInterval (law : TableLaw s) : TableLaw (hailInterval s) := by
  refine table_ite (fun _ => ?_) fun _ => table_enterDetached (law.confined (confined_post _ _ _ _)) _
  have counted : TableLaw { s with mbc := { s.mbc with hailCount := s.mbc.hailCount + 1, hailInterval := 0 } } :=
    law.of_aside ⟨rfl, rfl, rfl⟩
  exact counted.confined (confined_postRequest _ _)

theorem table_purgeBefore {f : State → State} (law : TableLaw s)
    (keeps : ∀ u : State, TableLaw u → u.mbc.station = s.mbc.station → TableLaw (f u)) : TableLaw (purgeBefore f s) :=
  table_ite (fun _ => keeps _ (table_purgeHeard law) rfl) fun _ => keeps _ law rfl

theorem inGroup_of_viewSwitchDue (h : viewSwitchDue s = true) : s.mbc.station.inGroup = true := by
  simp only [viewSwitchDue, Bool.and_eq_true] at h
  exact h.1.1

theorem station_of_alignTimeoutDue (h : alignTimeoutDue s = true) : s.mbc.station = .aligning := by
  simp only [alignTimeoutDue, Bool.and_eq_true, beq_iff_eq] at h
  exact h.1

theorem table_viewSwitch (law : TableLaw s) : TableLaw (whenDue viewSwitchDue switchView s) :=
  table_whenDue law fun due => table_switchView law (inGroup_of_viewSwitchDue due)

theorem table_observedSwitch (law : TableLaw s) : TableLaw (whenDue observedSwitchDue switchObserved s) :=
  table_whenDue law fun _ => table_switchObserved law

theorem table_controllerBoundary (law : TableLaw s) (syncHigh : Bool) : TableLaw (controllerBoundary syncHigh s) := by
  unfold controllerBoundary
  split
  · have counted : TableLaw { s with mbc.listenCount := min (s.mbc.listenCount + 1) (listenWindow s) } :=
      law.of_aside ⟨rfl, rfl, rfl⟩
    exact table_whenDue counted fun _ => table_found counted
  · have counted : TableLaw { whenDue observedSwitchDue switchObserved s with
        mbc.alignCount := (whenDue observedSwitchDue switchObserved s).mbc.alignCount + 1 } :=
      (table_observedSwitch law).of_aside ⟨rfl, rfl, rfl⟩
    exact table_whenDue counted fun due =>
      table_alignTimeout counted (by rw [station_of_alignTimeoutDue due]; rfl)
  · refine table_ite (fun _ => ?_) fun _ => table_observedSwitch law
    have counted : TableLaw { whenDue observedSwitchDue switchObserved s with
        mbc.hailInterval := (whenDue observedSwitchDue switchObserved s).mbc.hailInterval + 1 } :=
      (table_observedSwitch law).of_aside ⟨rfl, rfl, rfl⟩
    exact table_whenDue counted fun _ => table_purgeBefore counted fun u hu _ => table_hailInterval hu
  · have counted : TableLaw { s with mbc.backoff := s.mbc.backoff.map (· - 1) } := law.of_aside ⟨rfl, rfl, rfl⟩
    exact table_viewSwitch (table_whenDue counted fun _ => counted.confined (confined_backoffExpiry _))
  · have counted : TableLaw { s with mbc.leaveCount := s.mbc.leaveCount + 1 } := law.of_aside ⟨rfl, rfl, rfl⟩
    have switched : TableLaw (whenDue viewSwitchDue (purgeBefore switchView)
        { s with mbc.leaveCount := s.mbc.leaveCount + 1 }) :=
      table_whenDue counted fun due => table_purgeBefore counted fun u hu same =>
        table_switchView hu (same ▸ inGroup_of_viewSwitchDue due)
    exact table_whenDue switched fun _ => table_purgeBefore switched fun u hu _ => table_detachLeft hu _
  · exact law

theorem table_boundary (law : TableLaw s) (order : BoundaryOrder) (syncHigh : Bool) :
    TableLaw (boundary order syncHigh s) := by
  have read : ∀ k {u : State}, TableLaw u → TableLaw (readoutAt order k u) :=
    fun k u hu => hu.of_aside (aside_readoutAt order k u)
  have count : ∀ {u : State}, TableLaw u → TableLaw (planCount u) := fun hu => hu.of_aside (aside_planCount _)
  unfold boundary
  dsimp only
  have marked := (read 0 law).of_aside ((aside_markBoundary _).trans (aside_clearLatch _))
  have applied := (table_applyPeerDemands (table_agePeers marked)).of_aside (aside_applyPublished _)
  have begun := read 2 (table_ite (q := order.leaseFirst = true) (fun _ => count (read 1 applied)) fun _ => read 1 applied)
  have tested := read 4 (table_purgeTest (table_lossTest (read 3 (table_controllerBoundary begun syncHigh))))
  have done := read 5 (tested.of_aside (aside_finishBoundary _))
  exact table_ite (fun _ => done) fun _ => count done

theorem table_wrap (law : TableLaw s) (order : BoundaryOrder) (syncHigh : Bool) : TableLaw (wrap order syncHigh s) :=
  table_boundary (law.of_aside (t := nextCycle s) ⟨rfl, rfl, rfl⟩) order syncHigh

theorem table_lockRule (law : TableLaw s) (amount : Nat) : TableLaw (lockRule amount s) :=
  table_tryHail (law.of_aside ⟨rfl, rfl, rfl⟩)

theorem table_snap (law : TableLaw s) (lockFirst : Bool) (order : BoundaryOrder) (c : Nat) :
    TableLaw (snap lockFirst order c s) := by
  unfold snap
  dsimp only
  have begun : TableLaw { nextCycle s with cyt.lastSnap := s.P - c } := law.of_aside ⟨rfl, rfl, rfl⟩
  have slipped : TableLaw (slipRule (s.P - c) { nextCycle s with cyt.lastSnap := s.P - c }) :=
    table_ite (fun _ => begun.of_aside ⟨rfl, rfl, rfl⟩) fun _ => begun
  refine table_ite (fun _ => table_boundary (table_lockRule slipped _) _ _) fun _ => ?_
  have counted := table_boundary slipped order false
  exact table_ite (fun _ => table_lockRule counted _) fun _ => counted

theorem table_firstFall (law : TableLaw s) (alone : s.mbc.station.inGroup = false) (c : Nat) :
    TableLaw (firstFall c s) := by
  have stands := aside_markBoundary { s with cyt := { s.cyt with position := 0, lastSnap := c, begun := false } }
  exact law.outside alone stands.peers stands.cfg

theorem table_lateRestart (law : TableLaw s) (c : Nat) : TableLaw (lateRestart c s) := by
  have stands : TableLaw { s with cyt := { s.cyt with position := 0, lastSnap := c, begun := false } } :=
    law.of_aside ⟨rfl, rfl, rfl⟩
  exact table_lockRule (stands.of_aside (aside_markBoundary _)) c

theorem fallKind_first {st : Station} {c p : Nat} (h : fallKind st c p = .first) : st = .listening := by
  unfold fallKind at h
  split at h
  · rfl
  all_goals repeat' split at h
  all_goals cases h

theorem table_takeFall (law : TableLaw s) (lockFirst : Bool) (order : BoundaryOrder) (c : Nat) :
    TableLaw (takeFall lockFirst order c s) := by
  unfold takeFall
  split
  · exact law
  next h => exact table_firstFall law (by rw [fallKind_first h]; rfl) c
  · exact table_snap law _ _ _
  · exact table_lateRestart law c
  · have stored : TableLaw { s with cyt.lastSnap := 0 } := law.of_aside ⟨rfl, rfl, rfl⟩
    exact table_lockRule stored 0
  · exact law

theorem table_syncStuck (law : TableLaw s) : TableLaw (syncStuck s) := by
  have posted : TableLaw (post { s with sli.stuck := true } .syncFault none none) := law.of_aside ⟨rfl, rfl, rfl⟩
  unfold syncStuck
  dsimp only
  split
  · exact table_memberToListening posted
  · exact table_detachLeft posted _
  next h => exact law.outside (by rw [h]; rfl) rfl rfl
  next h => exact law.outside (by rw [h]; rfl) rfl rfl
  · exact posted

/-! ### Failures and the end of a frame -/

theorem table_countFailure (law : TableLaw s) : TableLaw (countFailure s) :=
  table_ite (fun _ => .of_heard (seats_demoted law.seats) (heard_of_demoted _)) fun _ => law.of_aside ⟨rfl, rfl, rfl⟩

theorem table_longHigh (law : TableLaw s) : TableLaw (longHigh s) := by
  have ended : TableLaw { s with
      tli.rx := (if s.tli.rx.phase = .receiving then s.tli.rx.fail .longHigh else s.tli.rx).ended } :=
    law.of_aside ⟨rfl, rfl, rfl⟩
  exact table_ite (fun _ => table_countFailure ended) fun _ => ended

theorem table_voidFrame (law : TableLaw s) : TableLaw (voidFrame s) := by
  unfold voidFrame
  have idle : TableLaw (if s.tli.rx.phase = .receiving then { s with tli.rx := Rx.idle } else s) :=
    table_ite (fun _ => law.of_aside ⟨rfl, rfl, rfl⟩) fun _ => law
  exact table_ite (fun _ => table_countFailure idle) fun _ => idle

/-! ### The tick -/

theorem table_talkFindings (law : TableLaw s) (tableFirst : Bool) : TableLaw (talkFindings tableFirst s) := by
  have accept : ∀ k {u : State}, TableLaw u → TableLaw (acceptDue tableFirst k u) :=
    fun k u hu => table_whenDue hu fun _ => table_acceptFrame hu tableFirst
  have low : TableLaw (whenDue longLowDue longLow s) := table_whenDue law fun _ => law.of_aside ⟨rfl, rfl, rfl⟩
  have high := table_whenDue (due := longHighDue) low fun _ => table_longHigh low
  have stuck := table_whenDue (due := talkStuckDue) (f := talkStuck) high fun _ => high.of_aside ⟨rfl, rfl, rfl⟩
  have lost := table_whenDue (due := arbitrationLostDue) (f := loseArbitration) stuck fun _ =>
    stuck.of_aside ⟨rfl, rfl, rfl⟩
  have failed := table_whenDue (due := bitErrorDue) lost fun _ => table_countFailure lost
  have voided := table_whenDue (due := frameVoidedDue) failed fun _ => table_voidFrame failed
  exact accept _ (accept _ (accept _ (accept _ voided)))

theorem table_talkStage (law : TableLaw s) (pins : Pins) (order : TickOrder) : TableLaw (talkStage pins order s) := by
  unfold talkStage
  refine table_ite (fun _ => ?_) fun _ => law
  have begun : TableLaw (whenDue originateDue originate s) :=
    table_whenDue law fun _ => law.of_aside (aside_originate s)
  generalize whenDue originateDue originate s = r at begun
  dsimp only
  refine table_talkFindings ?_ _
  refine TableLaw.of_aside ?_ (aside_sampleTick _ _)
  have counters : ∀ {u : State} {low : Bool}, TableLaw u →
      TableLaw (if low = true then talkLowSample u else talkHighSample u) := fun hu =>
    table_ite (fun _ => hu.of_aside ⟨rfl, rfl, rfl⟩) fun _ => hu.of_aside ⟨rfl, rfl, rfl⟩
  refine counters (table_ite (fun _ => begun) fun _ => table_ite (fun _ => ?_) fun _ => ?_)
  · exact begun.of_aside (aside_talkMark _)
  · exact begun.of_aside (aside_cellTick _)

theorem table_cycleStage (law : TableLaw s) (pins : Pins) (order : TickOrder) (n : TickNote) :
    TableLaw (cycleStage pins order n s).2 := by
  unfold cycleStage
  split
  · split
    · exact table_wrap law _ _
    · exact law.of_aside ⟨rfl, rfl, rfl⟩
  · exact law

theorem table_sampleSync (law : TableLaw s) (pins : Pins) (order : TickOrder) (n : TickNote) :
    TableLaw (sampleSync pins order n s).2 := by
  unfold sampleSync
  dsimp only
  split
  · split
    · exact law.of_aside ⟨rfl, rfl, rfl⟩
    · have low : TableLaw (syncLowSample s) := law.of_aside ⟨rfl, rfl, rfl⟩
      have taken := table_ite (q := fallSeen s = true)
        (fun _ => table_takeFall low order.lockFirst order.boundary n.captured) fun _ => low
      exact table_whenDue taken fun _ => table_syncStuck taken
  · exact law

theorem table_syncStage (law : TableLaw s) (pins : Pins) (order : TickOrder) (n : TickNote) :
    TableLaw (syncStage pins order n s).2 := by
  unfold syncStage
  split
  · exact table_ite (fun _ => law.of_aside ⟨rfl, rfl, rfl⟩) fun _ => law
  · exact table_sampleSync law _ _ _

theorem table_runStage {q : TickNote × State} (law : TableLaw q.2) (pins : Pins) (order : TickOrder) (x : Stage) :
    TableLaw (runStage pins order q x).2 := by
  cases x with
  | cycle => exact table_cycleStage law _ _ _
  | sync => exact table_syncStage law _ _ _
  | talk => exact table_talkStage law _ _
  | fault => exact law.of_aside (aside_faultStage _ _)

theorem table_runStages {q : TickNote × State} (law : TableLaw q.2) (pins : Pins) (order : TickOrder)
    (xs : List Stage) : TableLaw (xs.foldl (runStage pins order) q).2 := by
  induction xs generalizing q with
  | nil => exact law
  | cons x xs ih => exact ih (table_runStage law pins order x)

theorem table_tickBody (law : TableLaw s) (pins : Pins) (order : TickOrder) : TableLaw (tickBody pins order s) := by
  have marked : TableLaw (if s.sli.markerActive then markerTick s else s) :=
    table_ite (fun _ => law.of_aside (aside_markerTick s)) fun _ => law
  unfold tickBody
  generalize (if s.sli.markerActive then markerTick s else s) = r at marked
  dsimp only
  have staged : ∀ n : TickNote, TableLaw ((stageOrder order.stages).foldl (runStage pins order) (n, r)).2 :=
    fun n => table_runStages (q := (n, r)) marked pins order _
  exact table_ite (fun _ => staged _) fun _ => table_sampleSync (staged _) _ _ _

theorem table_clockEdge (law : TableLaw s) (pins : Pins) (order : TickOrder) : TableLaw (clockEdge pins order s) :=
  table_ite (fun _ => law.of_aside ⟨rfl, rfl, rfl⟩) fun _ =>
    table_tickBody (s := { s with cyt.presc := 0 }) (law.of_aside ⟨rfl, rfl, rfl⟩) _ _

/-! ### Every command -/

theorem HostEffect.keeps_table {code : Byte} (effect : HostEffect s code t) (law : TableLaw s) : TableLaw t := by
  cases effect with
  | none => exact law
  | configured record _ _ => exact .of_heard (.nil _) (by simp [Machine.configured, State.reset])
  | joined _ => exact .of_heard (.nil _) (by simp [Machine.joined])
  | detached _ _ => exact table_detachLeft law _
  | leaving _ =>
    refine .of_inGroup ?_ ?_
    · rw [enterLeaving, (confined_postRequest _ _).peers, (confined_postRequest _ _).cfg]
      exact law.seats
    · rw [enterLeaving, (confined_postRequest _ _).station]
      rfl
  | restarted _ => exact .of_heard (.nil _) (by simp [Machine.restarted, restartRecords])
  | demanded leg value _ => exact law.of_aside (aside_demanded leg value s)
  | enabled e => exact law.of_aside ⟨rfl, rfl, rfl⟩
  | popped e _ => exact law.of_aside ⟨rfl, rfl, rfl⟩

theorem inGroup_of_peerLostDue {id : Nat} (h : peerLostDue s id = true) : s.mbc.station.inGroup = true := by
  simp only [peerLostDue, Bool.and_eq_true] at h
  exact h.1

theorem table_of_innerRow {c : Instr} {due : State → Bool} {f : State → State} (law : TableLaw s)
    (row : innerRow c = some (due, f)) (isDue : due s = true) : TableLaw (f s) := by
  have stands : ∀ {u : State}, Aside s u → TableLaw u := fun h => law.of_aside h
  have finish : ∀ {u : State}, TableLaw u → TableLaw (finishBoundary u) := fun h => h.of_aside (aside_finishBoundary _)
  cases c <;> cases row
  case wrap order => exact table_wrap law order _
  case syncFall lockFirst order =>
    exact table_takeFall (s := { s with sli.prevHigh := false }) (stands ⟨rfl, rfl, rfl⟩) lockFirst order _
  case markerEnd => exact stands ⟨rfl, rfl, rfl⟩
  case syncStuck => exact table_syncStuck law
  case talkMark => exact stands (aside_talkMark s)
  case frameOriginate =>
    exact table_ite (fun _ => stands ((aside_originate s).trans (aside_lowMark _))) fun _ => stands (aside_originate s)
  case arbitrationLost => exact stands ⟨rfl, rfl, rfl⟩
  case bitError => exact table_countFailure law
  case longHighFault => exact table_longHigh law
  case longLowFault => exact stands ⟨rfl, rfl, rfl⟩
  case frameVoided => exact table_voidFrame law
  case hailAccepted _ => exact table_acceptFrame law _
  case claimAccepted _ => exact table_acceptFrame law _
  case recastAccepted _ => exact table_acceptFrame law _
  case leaveAccepted _ => exact table_acceptFrame law _
  case talkStuck => exact stands ⟨rfl, rfl, rfl⟩
  case foundGroup => exact finish (table_found law)
  case alignTimeout => exact table_alignTimeout law (by rw [station_of_alignTimeoutDue isDue]; rfl)
  case hailInterval => exact table_hailInterval law
  case leaveTimeout => exact table_detachLeft law _
  case backoffExpiry => exact law.confined (confined_backoffExpiry s)
  case heartbeat => exact law.confined (confined_postRequest s _)
  case quietHoldOn => exact stands ⟨rfl, rfl, rfl⟩
  case leaseExpiry => exact stands (aside_expireLease s)
  case peerLost id => exact table_losePeer law (inGroup_of_peerLostDue isDue) id
  case peerPurge id => exact table_filter law _
  case viewSwitch => exact finish (table_lossTest (table_switchView law (inGroup_of_viewSwitchDue isDue)))
  case observedSwitch => exact finish (table_lossTest (table_switchObserved law))
  case windowEdge => exact law
  case faultAsserted => exact stands ⟨rfl, rfl, rfl⟩
  case faultReleased => exact stands ⟨rfl, rfl, rfl⟩
  case tick pins order => exact table_clockEdge law pins order

theorem Effect.keeps_table {c : Instr} (effect : Effect s c t) (law : TableLaw s) : TableLaw t := by
  have reset : ∀ u : State, u.peers = [] → TableLaw u := fun u h => .of_heard (h ▸ .nil _) (by simp [h])
  cases effect with
  | idle => exact law
  | inside row isDue => exact (table_of_innerRow law row isDue).of_aside ⟨rfl, rfl, rfl⟩
  | fullReset _ => exact reset _ rfl
  | released _ => exact law.of_aside ⟨rfl, rfl, rfl⟩
  | selFell => exact law.of_aside ⟨rfl, rfl, rfl⟩
  | selRose => exact law.of_aside ⟨rfl, rfl, rfl⟩
  | port port => exact law.of_aside ⟨rfl, rfl, rfl⟩
  | host code ops _ => exact ((takeCode_effect code ops s).keeps_table law).of_aside ⟨rfl, rfl, rfl⟩

/-- Settles O7: every operation keeps the places by id, and whatever leaves MEMBER and LEAVING demotes every entry. -/
theorem stepKeepsTable : Obligations.StepKeepsTable := by
  intro s t law h
  obtain rfl | ⟨c, rest, taken⟩ := step_cases h
  · exact law
  · exact (exec_effect taken).keeps_table (law.of_aside ⟨rfl, rfl, rfl⟩)

end Sys2Proof.Machine

/-! ## What each station state holds, under every operation (`Coherent`) -/

namespace Sys2Proof.Machine

/-! ### Requests under the operations -/

theorem hasKind_setKind (r : Requests) (k j : FrameKind) (v : Bool) :
    (r.setKind k v).hasKind j = if j = k then v else r.hasKind j := by
  cases k <;> cases j <;> rfl

theorem hasKind_withdraw (r : Requests) (st : Station) (k : FrameKind) :
    (r.withdraw st).hasKind k = (r.hasKind k && permitted st k) := by
  cases k <;> rfl

theorem hasKind_empty (k : FrameKind) : Requests.empty.hasKind k = false := by
  cases k <;> rfl

/-! ### Confined operations in order -/

/-- A confined operation in order: change list and backoff stand in MEMBER alone, the list holds one entry for a station,
the requests grow by permitted kinds, and no frame in flight appears (R31, R57, R87, R91). -/
structure Orderly (s t : State) : Prop where
  confined : Confined s t
  changes : t.mbc.changes ≠ [] → s.mbc.changes ≠ [] ∨ s.mbc.station = .member
  ids : (s.mbc.changes.map (·.id)).Nodup → (t.mbc.changes.map (·.id)).Nodup
  backoff : t.mbc.backoff.isSome = true → s.mbc.backoff.isSome = true ∨ s.mbc.station = .member
  requests : ∀ k, t.tli.requests.hasKind k = true →
    s.tli.requests.hasKind k = true ∨ permitted s.mbc.station k = true
  flight : s.tli.flight = none → t.tli.flight = none

theorem Orderly.refl (s : State) : Orderly s s := ⟨.refl s, .inl, id, .inl, fun _ => .inl, id⟩

theorem Orderly.trans {a b c : State} (h : Orderly a b) (k : Orderly b c) : Orderly a c where
  confined := h.confined.trans k.confined
  changes hc := (k.changes hc).elim h.changes fun m => .inr (h.confined.station ▸ m)
  ids := k.ids ∘ h.ids
  backoff hc := (k.backoff hc).elim h.backoff fun m => .inr (h.confined.station ▸ m)
  requests j hj := (k.requests j hj).elim (h.requests j) fun m => .inr (h.confined.station ▸ m)
  flight := k.flight ∘ h.flight

theorem Orderly.ite {s a b : State} {q : Prop} [Decidable q] (ha : q → Orderly s a) (hb : ¬ q → Orderly s b) :
    Orderly s (if q then a else b) := by
  split
  next h => exact ha h
  next h => exact hb h

theorem Orderly.foldl {α : Type} {f : State → α → State} (h : ∀ s x, Orderly s (f s x)) (xs : List α) (s : State) :
    Orderly s (xs.foldl f s) := by
  induction xs generalizing s with
  | nil => exact .refl s
  | cons x xs ih => exact (h s x).trans (ih (f s x))

theorem orderly_postAt (s : State) (cycle : Option U16) (kind : EventKind) (station : Option Nat)
    (detail : Option Detail) : Orderly s (postAt s cycle kind station detail) :=
  ⟨rfl, .inl, id, .inl, fun _ => .inl, id⟩

theorem orderly_post (s : State) (kind : EventKind) (station : Option Nat) (detail : Option Detail) :
    Orderly s (post s kind station detail) := orderly_postAt s _ _ _ _

theorem orderly_postRequest (s : State) (k : FrameKind) : Orderly s (postRequest s k) := by
  refine .ite (fun allowed => ⟨rfl, .inl, id, .inl, fun j hj => ?_, fun none => ?_⟩) fun _ => .refl s
  · rw [hasKind_setKind] at hj
    split at hj
    next same => exact .inr (same ▸ allowed)
    · exact .inl hj
  · simp [renew, none]

/-- The backoff timer taken away. -/
theorem orderly_noBackoff (s : State) : Orderly s { s with mbc.backoff := none } :=
  ⟨rfl, .inl, id, fun h => absurd h (by simp), fun _ => .inl, id⟩

theorem orderly_setBackoff {s : State} (member : s.mbc.station = .member) : Orderly s (setBackoff s) :=
  .ite (fun _ => (orderly_noBackoff s).trans (orderly_postRequest _ _))
    fun _ => ⟨rfl, .inl, id, fun _ => .inr member, fun _ => .inl, id⟩

/-- Entries taken out of the change list. -/
theorem orderly_sublist {s : State} {kept : List ChangeEntry} (sub : kept.Sublist s.mbc.changes) :
    Orderly s { s with mbc.changes := kept } :=
  ⟨rfl, fun h => .inl fun none => h (List.sublist_nil.mp (none ▸ sub)),
   fun nodup => nodup.sublist (sub.map _), .inl, fun _ => .inl, id⟩

theorem orderly_clearBackoffIfEmpty (s : State) : Orderly s (clearBackoffIfEmpty s) :=
  .ite (fun _ => orderly_noBackoff s) fun _ => .refl s

theorem orderly_refuseHail (s : State) (id : Nat) (full : Bool) : Orderly s (refuseHail s id full) :=
  orderly_post _ _ _ _

theorem orderly_appendChange {s : State} (member : s.mbc.station = .member) {kept : List ChangeEntry} {id : Nat}
    (sub : kept.Sublist s.mbc.changes) (absent : ∀ e ∈ kept, e.id ≠ id) (change : Change) :
    Orderly s (appendChange s kept id change) := by
  have placed : Orderly s
      { s with mbc.changes := kept ++ [{ id := id, change := change, trigger := s.cyt.cycle }] } := by
    refine ⟨rfl, fun _ => .inr member, fun nodup => ?_, .inl, fun _ => .inl, fun h => h⟩
    rw [List.map_append, List.nodup_append]
    refine ⟨nodup.sublist (sub.map _), List.nodup_singleton _, ?_⟩
    intro a ha b hb
    obtain ⟨e, he, rfl⟩ := List.mem_map.mp ha
    rw [List.mem_singleton.mp hb]
    exact absent e he
  exact .ite (fun _ => placed.trans (orderly_setBackoff member)) fun _ => placed

theorem dropOldestAdd_sublist (es : List ChangeEntry) : (dropOldestAdd es).Sublist es := by
  induction es with
  | nil => exact .refl _
  | cons e es ih =>
    unfold dropOldestAdd
    split
    · exact List.sublist_cons_self e es
    · exact ih.cons_cons e

theorem orderly_placeChange {s : State} (member : s.mbc.station = .member) (id : Nat) (change : Change) :
    Orderly s (placeChange s id change) := by
  unfold placeChange
  refine .ite (fun _ => ?_) fun absent => ?_
  · exact orderly_appendChange member List.filter_sublist (by simp) change
  · have absent : ∀ e ∈ s.mbc.changes, e.id ≠ id := by simpa using absent
    refine .ite (fun _ => orderly_appendChange member (.refl _) absent change) fun _ => ?_
    split
    · split
      · exact (orderly_refuseHail s _ true).trans (orderly_appendChange (s := refuseHail s _ true) member
          (dropOldestAdd_sublist _) (fun e he => absent e ((dropOldestAdd_sublist _).subset he)) _)
      · exact orderly_appendChange member (.refl _) absent _
    · exact orderly_refuseHail s _ _

theorem orderly_withdrawLost (s : State) (id : Nat) : Orderly s (withdrawLost s id) :=
  .ite (fun _ => .refl s) fun _ => (orderly_sublist List.filter_sublist).trans (orderly_clearBackoffIfEmpty _)

theorem orderly_placeLost (s : State) (id : Nat) : Orderly s (placeLost s id) :=
  .ite (fun member => orderly_placeChange member _ _) fun _ => .refl s

theorem orderly_coverChanges (s : State) (ms : List Member) : Orderly s (coverChanges s ms) :=
  (orderly_sublist List.filter_sublist).trans (orderly_clearBackoffIfEmpty _)

theorem walkAdd_kept (w : Walk) (e : ChangeEntry) (legs : Nat) :
    (walkAdd w e legs).kept = w.kept ∨ (walkAdd w e legs).kept = w.kept ++ [e] := by
  unfold walkAdd
  dsimp only
  split
  · exact .inr rfl
  · exact .inl rfl

theorem walkEntry_kept (w : Walk) (e : ChangeEntry) :
    (walkEntry w e).kept = w.kept ∨ (walkEntry w e).kept = w.kept ++ [e] := by
  unfold walkEntry
  split
  · split
    · exact .inl rfl
    · exact walkAdd_kept w e _
  · split
    · exact .inr rfl
    · exact .inl rfl
  · split
    · exact .inr rfl
    · exact walkAdd_kept w e _

/-- What a walk keeps it takes from the list walked, in its order (R92). -/
theorem walkChanges_kept_sublist (base : List Member) (es : List ChangeEntry) :
    (walkChanges base es).kept.Sublist es := by
  have all : ∀ (es done : List ChangeEntry) (w : Walk), w.kept.Sublist done →
      (es.foldl walkEntry w).kept.Sublist (done ++ es) := by
    intro es
    induction es with
    | nil => simp
    | cons e es ih =>
      intro done w sub
      rw [List.foldl_cons, List.append_cons]
      refine ih (done ++ [e]) _ ?_
      rcases walkEntry_kept w e with h | h <;> rw [h]
      · exact sub.trans (List.sublist_append_left done [e])
      · exact sub.append (.refl [e])
  exact all es [] _ (.refl _)

/-- A request withdrawn. -/
theorem orderly_withdrawKind (s : State) (k : FrameKind) :
    Orderly s { s with tli.requests := s.tli.requests.setKind k false } := by
  refine ⟨rfl, .inl, id, .inl, fun j hj => .inl ?_, id⟩
  rw [hasKind_setKind] at hj
  split at hj
  · cases hj
  · exact hj

theorem foldl_refuseHail_mbc (ids : List Nat) (s : State) :
    (ids.foldl (fun t id => refuseHail t id true) s).mbc = s.mbc := by
  induction ids generalizing s with
  | nil => rfl
  | cons id ids ih => exact ih _

theorem orderly_buildRecast (s : State) : Orderly s (buildRecast s).1 := by
  unfold buildRecast
  split
  · exact orderly_withdrawKind s _
  next base _ =>
    dsimp only
    have refused : Orderly s ((walkChanges base.members s.mbc.changes).dropped.foldl
        (fun t id => refuseHail t id true) s) := .foldl (fun t id => orderly_refuseHail t id true) _ s
    have stands := foldl_refuseHail_mbc (walkChanges base.members s.mbc.changes).dropped s
    generalize List.foldl (fun t id => refuseHail t id true) s _ = r at refused stands ⊢
    have walked : Orderly s (clearBackoffIfEmpty
        { r with mbc.changes := (walkChanges base.members s.mbc.changes).kept }) :=
      refused.trans ((orderly_sublist (by rw [stands]; exact walkChanges_kept_sublist _ _)).trans
        (orderly_clearBackoffIfEmpty _))
    generalize clearBackoffIfEmpty _ = t at walked ⊢
    split
    · exact walked.trans (orderly_withdrawKind t _)
    · exact walked

theorem orderly_takeSnapshot (s : State) : Orderly s (takeSnapshot s).1 := by
  have built := orderly_buildRecast s
  unfold takeSnapshot
  split
  · split
    next h => rw [h] at built; exact built
    next h => rw [h] at built; exact built
  · exact .refl s

theorem orderly_restartBackoff {s : State} (member : s.mbc.station = .member) : Orderly s (restartBackoff s) :=
  .ite (fun _ => orderly_noBackoff s) fun _ => orderly_setBackoff member

theorem orderly_judgeHail {s : State} (member : s.mbc.station = .member) (sender : Nat) (h : HailContent) :
    Orderly s (judgeHail s sender h) :=
  .ite (fun _ => orderly_refuseHail _ _ _) fun _ =>
    .ite (fun _ => orderly_placeChange member _ _) fun _ => orderly_refuseHail _ _ _

theorem orderly_takeLeave {s : State} (member : s.mbc.station = .member) (sender : Nat) :
    Orderly s (takeLeave s sender) := .ite (fun _ => orderly_placeChange member _ _) fun _ => .refl s

theorem orderly_claimDueTest (s : State) : Orderly s (claimDueTest s) :=
  .ite (fun _ => orderly_postRequest _ _) fun _ => .refl s

theorem orderly_backoffExpiry (s : State) : Orderly s (backoffExpiry s) :=
  (orderly_noBackoff s).trans (orderly_postRequest _ _)

end Sys2Proof.Machine

/-! ## `Coherent` under every operation (R15, R31, R43, R86, R87, R91, R105, R117, R127, R163) -/

namespace Sys2Proof.Machine

/-! ### The records of a state, and whether its plan is made -/

/-- `Coherent`, but that a station in MEMBER or LEAVING has its plan only where `p` holds: within a boundary, a station
that has just founded or been admitted has none yet. -/
structure Sound (p : Prop) (s : State) : Prop where
  current : s.mbc.current.isSome = s.mbc.station.inGroup
  pendingView : s.mbc.pending.isSome = true → s.mbc.station.inGroup = true
  observed : s.mbc.observed ≠ Observed.empty → s.mbc.station.following = true
  changes : s.mbc.changes ≠ [] → s.mbc.station = .member
  changeIds : (s.mbc.changes.map (·.id)).Nodup
  backoff : s.mbc.backoff.isSome = true → s.mbc.station = .member
  plan : s.plu.plan.isSome = true → s.mbc.station.inGroup = true
  planned : p → s.mbc.station.inGroup = true → s.plu.plan.isSome = true
  complete : s.plu.complete = true → s.mbc.station.inGroup = true
  marker : s.sli.markerActive = true → s.mbc.station.inGroup = true
  requests : ∀ k, s.tli.requests.hasKind k = true → permitted s.mbc.station k = true
  adopted : s.mbc.station = .hailing ∨ s.mbc.station.inGroup = true → s.cyt.adopted = true
  held : s.mbc.station.running = false →
    s.cyt.position = 0 ∧ s.cyt.cycle = 0 ∧ s.cyt.adopted = false ∧ s.cyt.lockCount = 0 ∧
    s.tli.rx = Rx.idle ∧ s.tli.flight = none ∧ s.tli.failures = 0
  begun : s.cyt.begun = true → s.cyt.position = 0 ∧ s.mbc.station.running = true
  locked : s.locked = (s.mbc.station != .unconfigured)
  prescaler : s.cyt.prescRunning = (s.mbc.station != .unconfigured)

theorem Coherent.sound {s : State} (h : Coherent s) : Sound True s :=
  { h with plan := fun k => h.plan ▸ k, planned := fun _ k => h.plan.trans k }

theorem Sound.coherent {s : State} (h : Sound True s) : Coherent s :=
  { h with plan := Bool.eq_iff_iff.mpr ⟨h.plan, h.planned trivial⟩ }

variable {p : Prop} {s t : State}

theorem Sound.weaken (h : Sound p s) : Sound False s := { h with planned := False.elim }

theorem Sound.orderly (h : Sound p s) (k : Orderly s t) : Sound p t := by
  have cyt := k.confined.cyt
  have station := k.confined.station
  have observed : t.mbc.observed = s.mbc.observed := (congrArg (·.mbc.observed) k.confined.eq :)
  have locked : t.locked = s.locked := (congrArg State.locked k.confined.eq :)
  have failures : t.tli.failures = s.tli.failures := (congrArg (·.tli.failures) k.confined.eq :)
  exact {
    current := by rw [k.confined.current, station]; exact h.current
    pendingView := by rw [k.confined.pendingView, station]; exact h.pendingView
    observed := by rw [observed, station]; exact h.observed
    changes := fun c => station.trans ((k.changes c).elim h.changes fun m => m)
    changeIds := k.ids h.changeIds
    backoff := fun c => station.trans ((k.backoff c).elim h.backoff fun m => m)
    plan := by rw [k.confined.plu, station]; exact h.plan
    planned := by rw [k.confined.plu, station]; exact h.planned
    complete := by rw [k.confined.plu, station]; exact h.complete
    marker := by rw [k.confined.sli, station]; exact h.marker
    requests := fun j hj => station ▸ (k.requests j hj).elim (h.requests j) fun m => m
    adopted := by rw [cyt, station]; exact h.adopted
    held := fun rest => by
      obtain ⟨position, cycle, adopted, lock, rx, flight, none⟩ := h.held (station ▸ rest)
      rw [cyt, k.confined.rx, failures]
      exact ⟨position, cycle, adopted, lock, rx, k.flight flight, none⟩
    begun := by rw [cyt, station]; exact h.begun
    locked := by rw [locked, station]; exact h.locked
    prescaler := by rw [cyt, station]; exact h.prescaler }

theorem sound_ite {q : Prop} [Decidable q] (yes : q → Sound p s) (no : ¬ q → Sound p t) :
    Sound p (if q then s else t) := by
  split
  next h => exact yes h
  next h => exact no h

theorem sound_whenDue {due : State → Bool} {f : State → State} (h : Sound p s) (done : due s = true → Sound p (f s)) :
    Sound p (whenDue due f s) := sound_ite done fun _ => h

/-! ### What a state says of its records -/

theorem Sound.configured (h : Sound p s) (runs : s.mbc.station.running = true) :
    s.locked = true ∧ s.cyt.prescRunning = true := by
  have : s.mbc.station ≠ .unconfigured := by
    rintro is
    rw [is] at runs
    cases runs
  rw [h.locked, h.prescaler]
  simp [this]

theorem Sound.noPlan (h : Sound p s) (alone : s.mbc.station.inGroup = false) :
    s.plu.plan = none ∧ s.plu.complete = false ∧ s.sli.markerActive = false := by
  refine ⟨?_, ?_, ?_⟩
  · by_contra held
    have := h.plan (Option.isSome_iff_ne_none.mpr held)
    simp [alone] at this
  · by_contra set
    have := h.complete (by simpa using set)
    simp [alone] at this
  · by_contra driven
    have := h.marker (by simpa using driven)
    simp [alone] at this

theorem Sound.noChanges (h : Sound p s) (other : s.mbc.station ≠ .member) : s.mbc.changes = [] := by
  by_contra held
  exact other (h.changes held)

theorem Sound.noBackoff (h : Sound p s) (other : s.mbc.station ≠ .member) : s.mbc.backoff = none := by
  by_contra held
  exact other (h.backoff (Option.isSome_iff_ne_none.mpr held))

theorem Sound.notObserving (h : Sound p s) (other : s.mbc.station.following = false) :
    s.mbc.observed = Observed.empty := by
  by_contra held
  have := h.observed held
  simp [other] at this

theorem Sound.noPending (h : Sound p s) (alone : s.mbc.station.inGroup = false) : s.mbc.pending = none := by
  by_contra held
  have := h.pendingView (Option.isSome_iff_ne_none.mpr held)
  simp [alone] at this

theorem Sound.running_of_receiving (h : Sound p s) (phase : s.tli.rx.phase ≠ .waiting) :
    s.mbc.station.running = true := by
  by_contra rest
  obtain ⟨-, -, -, -, rx, -⟩ := h.held (by simpa using rest)
  exact phase (by rw [rx]; rfl)

/-- A running part's TALK records may take any value but in the requests. -/
theorem sound_talk (h : Sound p s) (runs : s.mbc.station.running = true) (line : TalkLine)
    (requests : line.requests = s.tli.requests) : Sound p { s with tli := line } :=
  { h with
    requests := fun k hk => h.requests k (requests ▸ hk)
    held := fun rest => by simp [runs] at rest }

/-- A running part's timer may take any position that is 0 where a cycle has just begun, with the adopted flag kept. -/
theorem sound_timer (h : Sound p s) (runs : s.mbc.station.running = true) (timer : CycleTimer)
    (adopted : s.cyt.adopted = true → timer.adopted = true) (begun : timer.begun = true → timer.position = 0)
    (prescaler : timer.prescRunning = s.cyt.prescRunning) : Sound p { s with cyt := timer } :=
  { h with
    adopted := fun k => adopted (h.adopted k)
    held := fun rest => by simp [runs] at rest
    begun := fun k => ⟨begun k, runs⟩
    prescaler := prescaler.trans h.prescaler }

theorem running_of_inGroup {st : Station} (h : st.inGroup = true) : st.running = true := by
  cases st <;> simp_all [Station.inGroup, Station.running]

theorem running_of_following {st : Station} (h : st.following = true) : st.running = true := by
  cases st <;> simp_all [Station.following, Station.running]

theorem withdraw_permitted (r : Requests) (st : Station) (k : FrameKind) (h : (r.withdraw st).hasKind k = true) :
    permitted st k = true := by
  rw [hasKind_withdraw] at h
  simp only [Bool.and_eq_true] at h
  exact h.2

/-! ### Changes of station state -/

theorem sound_enterListening (h : Sound p s) (runs : s.mbc.station.running = true) (plan : s.plu.plan = none)
    (complete : s.plu.complete = false) : Sound p (enterListening s) where
  current := rfl
  pendingView k := by cases k
  observed k := absurd rfl k
  changes k := absurd rfl k
  changeIds := List.nodup_nil
  backoff k := by cases k
  plan k := by rw [show (enterListening s).plu.plan = none from plan] at k; cases k
  planned _ k := by cases k
  complete k := by rw [show (enterListening s).plu.complete = false from complete] at k; cases k
  marker k := by cases k
  requests := withdraw_permitted _ _
  adopted k := by rcases k with k | k <;> cases k
  held k := by cases k
  begun k := ⟨(h.begun k).1, rfl⟩
  locked := (h.configured runs).1
  prescaler := (h.configured runs).2

theorem sound_enterAligning (h : Sound p s) (runs : s.mbc.station.running = true) (plan : s.plu.plan = none)
    (complete : s.plu.complete = false) : Sound p (enterAligning s) where
  current := rfl
  pendingView k := by cases k
  observed k := absurd rfl k
  changes k := absurd rfl k
  changeIds := List.nodup_nil
  backoff k := by cases k
  plan k := by rw [show (enterAligning s).plu.plan = none from plan] at k; cases k
  planned _ k := by cases k
  complete k := by rw [show (enterAligning s).plu.complete = false from complete] at k; cases k
  marker k := by cases k
  requests := withdraw_permitted _ _
  adopted k := by rcases k with k | k <;> cases k
  held k := by cases k
  begun k := ⟨(h.begun k).1, rfl⟩
  locked := (h.configured runs).1
  prescaler := (h.configured runs).2

/-- A state that holds no plan goes to LISTENING as it stands. -/
theorem sound_toListening (h : Sound p s) (runs : s.mbc.station.running = true) (alone : s.mbc.station.inGroup = false) :
    Sound p (enterListening s) :=
  sound_enterListening h runs (h.noPlan alone).1 (h.noPlan alone).2.1

theorem sound_toAligning (h : Sound p s) (runs : s.mbc.station.running = true) (alone : s.mbc.station.inGroup = false) :
    Sound p (enterAligning s) :=
  sound_enterAligning h runs (h.noPlan alone).1 (h.noPlan alone).2.1

/-- A plan cleared, and the entries demoted. -/
theorem sound_unplanned (h : Sound p s) : Sound False (demotePeers (clearPlan s)) :=
  { h with
    plan := fun k => by cases k
    planned := False.elim
    complete := fun k => by cases k }

theorem Sound.of_alone (h : Sound False s) (alone : s.mbc.station.inGroup = false) : Sound p s :=
  { h with planned := fun _ k => by simp [alone] at k }

theorem sound_memberToAligning (h : Sound p s) (runs : s.mbc.station.running = true) : Sound p (memberToAligning s) :=
  (sound_enterAligning (sound_unplanned h) runs rfl rfl).of_alone rfl

theorem sound_memberToListening (h : Sound p s) (runs : s.mbc.station.running = true) : Sound p (memberToListening s) :=
  (sound_enterListening (sound_unplanned h) runs rfl rfl).of_alone rfl

theorem sound_enterDetached (locked : s.locked = true) (prescaler : s.cyt.prescRunning = true) (reason : DetachReason) :
    Sound p (enterDetached s reason) where
  current := rfl
  pendingView k := by cases k
  observed k := absurd rfl k
  changes k := absurd rfl k
  changeIds := List.nodup_nil
  backoff k := by cases k
  plan k := by cases k
  planned _ k := by cases k
  complete k := by cases k
  marker k := by cases k
  requests k hk := by rw [show (enterDetached s reason).tli.requests = Requests.empty from rfl, hasKind_empty] at hk; cases hk
  adopted k := by rcases k with k | k <;> cases k
  held _ := ⟨rfl, rfl, rfl, rfl, rfl, rfl, rfl⟩
  begun k := by cases k
  locked := locked
  prescaler := prescaler

theorem sound_detach (h : Sound p s) (runs : s.mbc.station.running = true) (reason : DetachReason) :
    Sound p (enterDetached s reason) := sound_enterDetached (h.configured runs).1 (h.configured runs).2 reason

theorem sound_detachLeft (h : Sound p s) (runs : s.mbc.station.running = true) (reason : DetachReason) :
    Sound p (detachLeft s reason) :=
  sound_detach (h.orderly (orderly_post s .left none (some { code := reasonCode reason, value := 0 }))) runs reason

theorem sound_tryHail (h : Sound p s) : Sound p (tryHail s) := by
  refine sound_ite (fun ⟨aligning, _, adopted⟩ => ?_) fun _ => h
  have alone : s.mbc.station.inGroup = false := by rw [aligning]; rfl
  have runs : s.mbc.station.running = true := by rw [aligning]; rfl
  obtain ⟨plan, complete, marker⟩ := h.noPlan alone
  refine Sound.orderly ?_ (orderly_postRequest _ _)
  exact {
    current := h.current.trans alone
    pendingView := fun k => absurd (h.pendingView k) (by simp [alone])
    observed := fun _ => rfl
    changes := fun k => absurd (h.noChanges (by simp [aligning])) k
    changeIds := h.changeIds
    backoff := fun k => absurd (h.backoff k) (by simp [aligning])
    plan := fun k => absurd (h.plan k) (by simp [alone])
    planned := fun _ k => by cases k
    complete := fun k => absurd (h.complete k) (by simp [alone])
    marker := fun k => absurd (h.marker k) (by simp [alone])
    requests := withdraw_permitted _ _
    adopted := fun _ => adopted
    held := fun k => by cases k
    begun := fun k => ⟨(h.begun k).1, rfl⟩
    locked := (h.configured runs).1
    prescaler := (h.configured runs).2 }

/-- MEMBER, with a current view and the adopted flag set, whatever stood before in a state that follows or listens. -/
theorem sound_becomeMember (h : Sound p s) (runs : s.mbc.station.running = true) {m : Membership} {timer : CycleTimer}
    (station : m.station = .member) (current : m.current.isSome = true) (observed : m.observed = Observed.empty)
    (changes : m.changes = s.mbc.changes) (adopted : timer.adopted = true)
    (begun : timer.begun = true → timer.position = 0) (prescaler : timer.prescRunning = s.cyt.prescRunning) :
    Sound False { s with
      mbc := m, cyt := timer, tli := { s.tli with requests := s.tli.requests.withdraw .member } } where
  current := by rw [station]; exact current
  pendingView _ := by rw [station]; rfl
  observed k := absurd observed k
  changes _ := station
  changeIds := changes ▸ h.changeIds
  backoff _ := station
  plan _ := by rw [station]; rfl
  planned := False.elim
  complete _ := by rw [station]; rfl
  marker _ := by rw [station]; rfl
  requests := by rw [station]; exact withdraw_permitted _ _
  adopted _ := adopted
  held k := by rw [station] at k; cases k
  begun k := ⟨begun k, by rw [station]; rfl⟩
  locked := by rw [station]; exact (h.configured runs).1
  prescaler := by rw [station]; exact prescaler.trans (h.configured runs).2

/-! ### The Plan Unit -/

theorem sound_zeroPublished (h : Sound p s) : Sound p (zeroPublished s) := { h with }

theorem sound_setOwnLeg (h : Sound p s) (leg : Nat) (o : OwnLeg) : Sound p (setOwnLeg s leg o) :=
  sound_ite (fun _ => { h with }) fun _ => { h with }

theorem sound_demanded (h : Sound p s) (leg value : Nat) : Sound p (demanded leg value s) := by
  unfold demanded
  have asked := sound_setOwnLeg h leg { ownLeg s leg with requested := value }
  generalize setOwnLeg s leg _ = t at asked ⊢
  have leased : Sound p (if t.cfg.lease = 0 then t else { t with plu.lease := t.cfg.lease * 8 }) :=
    sound_ite (fun _ => asked) fun _ => { asked with }
  exact leased.orderly (orderly_claimDueTest _)

theorem sound_expireLease (h : Sound p s) : Sound p (expireLease s) := by
  have ended : Sound p { s with plu := { s.plu with
      lease := 0, leg0 := { s.plu.leg0 with requested := 0 }, leg1 := { s.plu.leg1 with requested := 0 } } } := { h with }
  exact ended.orderly ((orderly_post _ _ _ _).trans (orderly_claimDueTest _))

theorem sound_leaseStep (h : Sound p s) : Sound p (leaseStep s) :=
  sound_ite (fun _ => sound_expireLease h) fun _ => { h with }

theorem sound_ageStep (h : Sound p s) : Sound p (ageStep s) := by
  have counted : Sound p { s with plu.age := min (s.plu.age + 1) 255 } := { h with }
  exact sound_ite (fun _ => counted.orderly (orderly_postRequest _ _)) fun _ => counted

theorem sound_planCount (h : Sound p s) : Sound p (planCount s) := by
  have made : Sound p { s with plu.counting := false } := { h with }
  exact sound_ite (fun _ => sound_ageStep (sound_leaseStep made)) fun _ => made

theorem sound_applyPublished (h : Sound p s) : Sound p (applyPublished s) :=
  sound_ite (fun _ => { h with }) fun _ => h

theorem sound_takeLoopback (h : Sound p s) (c : ClaimContent) : Sound p (takeLoopback s c) :=
  sound_ite (fun _ => { h with }) fun _ => h

theorem sound_planFrame (h : Sound p s) (k : FrameKind) (payload : List Byte) (own : Bool) :
    Sound p (planFrame s k payload own) := sound_ite (fun _ => sound_takeLoopback h _) fun _ => h

theorem sound_zeroIfNew (h : Sound p s) (v : View) : Sound p (zeroIfNew s v) :=
  sound_ite (fun _ => sound_zeroPublished h) fun _ => h

theorem sound_memberEntry (h : Sound p s) (member : s.mbc.station = .member) : Sound p (memberEntry s) := by
  have entered : Sound p { s with
      mbc := { s.mbc with changes := [], backoff := none }
      plu := { s.plu with age := 0, claimed := false, counting := false } } :=
    { h with changes := fun _ => member, changeIds := List.nodup_nil, backoff := fun _ => member }
  exact entered.orderly (orderly_postRequest _ _)

/-- The end of a boundary makes the plan where the station holds a current view (R127). -/
theorem sound_planBoundary (h : Sound False s) : Sound p (planBoundary s) := by
  unfold planBoundary
  split
  next grouped =>
    unfold makePlan
    cases hv : s.mbc.current with
    | none =>
      have := h.current
      simp [hv, grouped] at this
    | some v =>
      exact { h with
        plan := fun _ => grouped
        planned := fun _ _ => rfl
        complete := fun _ => grouped
        current := by rw [hv]; exact grouped.symm }
  next other => exact h.of_alone (by simpa using other)

theorem sound_startMarker (h : Sound p s) : Sound p (startMarker s) :=
  sound_ite (fun grouped => { h with marker := fun _ => grouped }) fun _ => h

theorem sound_finishBoundary (h : Sound False s) : Sound p (finishBoundary s) :=
  sound_startMarker (sound_planBoundary h)

/-! ### The Peer Table -/

theorem sound_withPeers (h : Sound p s) (peers : List Peer) : Sound p { s with peers := peers } := { h with }

theorem sound_enterSender (h : Sound p s) (cycle : Option U16) (sender : Nat) (frame : FrameKind) :
    Sound p (enterSender cycle s sender frame) := by
  unfold enterSender
  split
  · exact h
  · split
    · exact (sound_withPeers h _).orderly (orderly_postAt _ _ _ _ _)
    · split
      · exact (sound_withPeers h _).orderly (orderly_postAt _ _ _ _ _)
      · exact h.orderly (orderly_postAt _ _ _ _ _)

theorem sound_returnPeer (h : Sound p s) (cycle : Option U16) (sender : Nat) : Sound p (returnPeer cycle s sender) := by
  unfold returnPeer
  split
  next q _ =>
    refine sound_ite (fun _ => ?_) fun _ => h
    have posted := (sound_withPeers h (updatePeer s.peers sender (fun q => { q with kind := .member }))).orderly
      (orderly_postAt _ cycle .peerReturned (some sender) (some { code := q.silence, value := 0 }))
    exact sound_ite (fun _ => posted.orderly (orderly_withdrawLost _ _)) fun _ => posted
  · exact h

theorem sound_hearFrame (h : Sound p s) (cycle : Option U16) (k : FrameKind) (sender : Nat) (payload : List Byte) :
    Sound p (hearFrame cycle s k sender payload) :=
  sound_withPeers (sound_returnPeer (sound_enterSender h cycle sender k) cycle sender) _

theorem sound_agePeers (h : Sound p s) : Sound p (agePeers s) := sound_withPeers h _

theorem sound_applyPeerDemands (h : Sound p s) : Sound p (applyPeerDemands s) :=
  sound_ite (fun _ => sound_withPeers h _) fun _ => h

theorem sound_markLost (h : Sound p s) (q : Peer) : Sound p (markLost s q) :=
  (sound_withPeers h _).orderly (orderly_post _ _ _ _)

theorem sound_markLosts (h : Sound p s) (overdue : List Peer) : Sound p (overdue.foldl markLost s) := by
  induction overdue generalizing s with
  | nil => exact h
  | cons q overdue ih => exact ih (sound_markLost h q)

theorem sound_lossTest (h : Sound p s) : Sound p (lossTest s) :=
  sound_ite (fun _ => (sound_markLosts h _).orderly (.foldl orderly_placeLost _ _)) fun _ => h

theorem sound_purgeHeard (h : Sound p s) : Sound p (purgeHeard s) := sound_withPeers h _

theorem sound_purgeTest (h : Sound p s) : Sound p (purgeTest s) :=
  sound_ite (fun _ => sound_purgeHeard h) fun _ => h

theorem sound_losePeer (h : Sound p s) (id : Nat) : Sound p (losePeer s id) := by
  unfold losePeer
  split
  · exact (sound_markLost h _).orderly (orderly_placeLost _ _)
  · exact h

theorem sound_tableSwitch (h : Sound p s) (v : View) : Sound p (tableSwitch s v) := sound_withPeers h _

/-! ### Switches and founding -/

theorem sound_exclude (h : Sound p s) (runs : s.mbc.station.running = true) (v : View) : Sound p (exclude s v) :=
  sound_zeroPublished (sound_memberToAligning (h.orderly (orderly_post s _ _ _)) runs)

theorem sound_memberSwitch (h : Sound p s) (runs : s.mbc.station.running = true) (v : View) :
    Sound p (memberSwitch s v) := by
  have switched := sound_zeroIfNew (sound_tableSwitch (h.orderly (orderly_post s .viewChanged none
    (some { code := v.members.length, value := v.epoch.toNat }))) v) v
  exact sound_ite (fun _ => sound_ite (fun _ => switched.orderly (orderly_postRequest _ _)) fun _ => switched)
    fun _ => sound_exclude h runs v

theorem sound_leavingSwitch (h : Sound p s) (runs : s.mbc.station.running = true) (v : View) :
    Sound p (leavingSwitch s v) :=
  sound_ite (fun _ => (sound_tableSwitch h v).orderly (orderly_postRequest _ _)) fun _ => sound_detachLeft h runs _

theorem sound_switchView (h : Sound p s) (grouped : s.mbc.station.inGroup = true) : Sound p (switchView s) := by
  have runs := running_of_inGroup grouped
  unfold switchView
  split
  · exact h
  next w _ =>
    have taken : Sound p { s with mbc := { s.mbc with current := some w.view, pending := none } } :=
      { h with current := grouped.symm, pendingView := fun k => by cases k }
    exact sound_ite (fun _ => sound_memberSwitch taken runs _) fun _ => sound_leavingSwitch taken runs _

theorem sound_admitTo (h : Sound p s) (hailing : s.mbc.station = .hailing) (v : View) : Sound False (admitTo s v) := by
  have runs : s.mbc.station.running = true := by rw [hailing]; rfl
  have entered := sound_becomeMember h runs
    (m := { s.mbc with station := .member, current := some v, pending := none, observed := Observed.empty })
    (timer := s.cyt) rfl rfl rfl rfl (h.adopted (.inl hailing)) (fun k => (h.begun k).1) rfl
  have switched := sound_zeroIfNew (sound_tableSwitch (entered.orderly
    (orderly_post _ .joined none (some { code := 0, value := v.epoch.toNat }))) v) v
  exact sound_memberEntry switched (by unfold zeroIfNew; split <;> rfl)

theorem sound_switchObserved (h : Sound p s) (following : s.mbc.station.following = true) :
    Sound False (switchObserved s) := by
  unfold switchObserved
  split
  · exact h.weaken
  · refine sound_ite (fun _ => sound_ite (fun admitted => sound_admitTo h admitted.1 _) fun _ => ?_) fun _ => ?_
    · exact { h.weaken with observed := fun _ => following }
    · exact { h.weaken with observed := fun _ => following }

/-- The view that a founding station becomes MEMBER of (R50). -/
def foundedView (s : State) : View :=
  { epoch := 1, members := [{ id := s.cfg.id, legs := s.cfg.legs, new := false }], fp := s.cfg.fp }

theorem sound_found (h : Sound p s) (listening : s.mbc.station = .listening) : Sound False (found s) := by
  have runs : s.mbc.station.running = true := by rw [listening]; rfl
  have entered := sound_becomeMember h runs
    (m := { s.mbc with station := .member, current := some (foundedView s), pending := none })
    (timer := { s.cyt with adopted := true }) rfl rfl (h.notObserving (by rw [listening]; rfl)) rfl rfl
    (fun k => (h.begun k).1) rfl
  exact sound_memberEntry (entered.orderly ((orderly_post _ .founded none (some { code := 0, value := 1 })).trans
    (orderly_post _ .joined none (some { code := 0, value := 1 })))) rfl

/-! ### Frames at the Membership Controller -/

theorem sound_compareForeign (h : Sound p s) (runs : s.mbc.station.running = true) (sender : Nat) (i : Identity) :
    Sound p (compareForeign s sender i) := by
  refine sound_ite (fun _ => ?_) fun _ => ?_
  · exact sound_zeroPublished (sound_memberToAligning (h.orderly (orderly_post s _ _ _)) runs)
  · unfold foreignWon
    split
    · exact sound_ite (fun _ => h) fun _ => (sound_withPeers h _).orderly (orderly_post _ _ _ _)
    · exact h.orderly (orderly_post _ _ _ _)

theorem sound_testRecast (h : Sound p s) (grouped : s.mbc.station.inGroup = true) (sender : Nat) (r : RecastContent)
    (bytes : Nat) : Sound p (testRecast s sender r bytes) := by
  unfold testRecast
  dsimp only
  have again : ∀ {t}, Sound p t → t.mbc.station = s.mbc.station →
      Sound p (if s.mbc.station = .member then restartBackoff t else t) := fun ht same =>
    sound_ite (fun member => ht.orderly (orderly_restartBackoff (same.trans member))) fun _ => ht
  refine again ?_ ?_
  · split
    · exact h.orderly (orderly_post s _ _ _)
    · have adopted : Sound p { s with mbc.pending := some (pendingView r) } :=
        { h with pendingView := fun _ => grouped }
      exact sound_ite (fun _ => adopted.orderly (orderly_coverChanges _ _)) fun _ => adopted
  · split
    · rfl
    · split
      · exact (confined_coverChanges _ _).station
      · rfl

theorem sound_memberRecast (h : Sound p s) (grouped : s.mbc.station.inGroup = true) (sender : Nat) (r : RecastContent)
    (bytes : Nat) : Sound p (memberRecast s sender r bytes) :=
  sound_ite (fun _ => sound_testRecast h grouped _ _ _) fun _ =>
    sound_ite (fun _ => sound_ite (fun _ => h) fun _ => sound_compareForeign h (running_of_inGroup grouped) _ _)
      fun _ => h

theorem sound_memberClaim (h : Sound p s) (runs : s.mbc.station.running = true) (sender : Nat) (c : ClaimContent) :
    Sound p (memberClaim s sender c) :=
  sound_ite
    (fun _ => sound_ite (fun _ => sound_memberToAligning (h.orderly (orderly_post s _ _ _)) runs) fun _ => h)
    fun _ => sound_compareForeign h runs _ _

theorem sound_followClaim (h : Sound p s) (following : s.mbc.station.following = true) (sender : Nat)
    (c : ClaimContent) (boundary : Bool) : Sound p (followClaim s sender c boundary) := by
  refine sound_ite (fun _ => h) fun _ => sound_tryHail ?_
  have observing : Sound p { s with mbc.observed := observeClaim s.mbc.observed sender c } :=
    { h with observed := fun _ => following }
  exact sound_timer observing (running_of_following following) _ (fun _ => rfl) (fun k => by cases k) rfl

theorem sound_followRecast (h : Sound p s) (following : s.mbc.station.following = true) (sender : Nat)
    (r : RecastContent) (bytes : Nat) : Sound p (followRecast s sender r bytes) :=
  sound_ite (fun _ => { h with observed := fun _ => following }) fun _ => h

theorem sound_follow (h : Sound p s) (following : s.mbc.station.following = true) (k : FrameKind) (sender : Nat)
    (payload : List Byte) (own boundary : Bool) : Sound p (controllerFrame.follow s k sender payload own boundary) := by
  unfold controllerFrame.follow
  split
  · exact h
  · split
    · exact sound_followClaim h following _ _ _
    · exact sound_followRecast h following _ _ _
    · exact h

theorem sound_controllerFrame (h : Sound p s) (k : FrameKind) (sender : Nat) (payload : List Byte)
    (own boundary : Bool) : Sound p (controllerFrame s k sender payload own boundary) := by
  unfold controllerFrame
  split
  · exact { h with }
  next st => exact sound_follow h (by rw [st]; rfl) _ _ _ _ _
  next st => exact sound_follow h (by rw [st]; rfl) _ _ _ _ _
  next st =>
    split
    · exact sound_ite (fun _ => h) fun _ => h.orderly (orderly_judgeHail st _ _)
    · exact sound_memberClaim h (by rw [st]; rfl) _ _
    · exact sound_memberRecast h (by rw [st]; rfl) _ _ _
    · exact sound_ite (fun _ => h) fun _ => h.orderly (orderly_takeLeave st _)
  next st =>
    split
    · exact sound_memberRecast h (by rw [st]; rfl) _ _ _
    · exact h
  · exact h

theorem sound_tableFrame (h : Sound p s) (cycle : Option U16) (k : FrameKind) (sender : Nat) (payload : List Byte)
    (own : Bool) : Sound p (tableFrame cycle s k sender payload own) :=
  sound_ite (fun _ => h) fun _ => sound_hearFrame h _ _ _ _

theorem sound_flagForeign (h : Sound p s) (won : Bool) (sender : Nat) : Sound p (flagForeign won s sender) :=
  sound_ite (fun _ => sound_withPeers h _) fun _ => h

theorem sound_deliver (h : Sound p s) (tableFirst : Bool) (k : FrameKind) (sender : Nat) (payload : List Byte)
    (own boundary : Bool) : Sound p (deliver tableFirst s k sender payload own boundary) := by
  have planned := sound_planFrame h k payload own
  exact sound_ite (fun _ => sound_controllerFrame (sound_tableFrame planned _ _ _ _ _) _ _ _ _ _)
    fun _ => sound_flagForeign (sound_tableFrame (sound_controllerFrame planned _ _ _ _ _) _ _ _ _ _) _ _

theorem sound_completeSender (h : Sound p s) (runs : s.mbc.station.running = true) (f : Flight) :
    Sound p (completeSender s f) :=
  { h with
    requests := fun k hk => by
      refine h.requests k ?_
      unfold completeSender at hk
      dsimp only at hk
      split at hk
      · exact hk
      · rw [hasKind_setKind] at hk
        split at hk
        · cases hk
        · exact hk
    held := fun rest => by
      rw [show (completeSender s f).mbc = s.mbc from rfl, runs] at rest
      cases rest }

theorem sound_acceptFrame (h : Sound p s) (runs : s.mbc.station.running = true) (tableFirst : Bool) :
    Sound p (acceptFrame tableFirst s) := by
  unfold acceptFrame
  dsimp only
  have idle : Sound p { s with tli.rx := Rx.idle } := sound_talk h runs _ rfl
  split
  · exact sound_deliver (sound_completeSender idle runs _) _ _ _ _ _ _
  · exact sound_ite (fun _ => sound_detach (idle.orderly (orderly_post _ _ _ _)) runs _)
      fun _ => sound_deliver idle _ _ _ _ _ _

end Sys2Proof.Machine

/-! ## `Coherent` at boundaries, falls, marks and ticks, and over every step -/

namespace Sys2Proof.Machine

variable {p : Prop} {s t : State}

/-! ### The Membership Controller at a boundary -/

theorem sound_alignTimeout (h : Sound p s) (aligning : s.mbc.station = .aligning) : Sound p (alignTimeout s) :=
  sound_toListening (h.orderly (orderly_post s _ _ _)) (by rw [post_mbc, aligning]; rfl) (by rw [post_mbc, aligning]; rfl)

theorem sound_hailInterval (h : Sound p s) (runs : s.mbc.station.running = true) : Sound p (hailInterval s) := by
  refine sound_ite (fun _ => ?_) fun _ => sound_detach (h.orderly (orderly_post s _ _ _)) runs _
  have counted : Sound p { s with mbc := { s.mbc with hailCount := s.mbc.hailCount + 1, hailInterval := 0 } } :=
    { h with }
  exact counted.orderly (orderly_postRequest _ _)

theorem sound_purgeBefore {f : State → State} (h : Sound p s)
    (keeps : ∀ u : State, Sound p u → u.mbc.station = s.mbc.station → Sound p (f u)) : Sound p (purgeBefore f s) :=
  sound_ite (fun _ => keeps _ (sound_purgeHeard h) rfl) fun _ => keeps _ h rfl

theorem station_of_hailIntervalDue (h : hailIntervalDue s = true) : s.mbc.station = .hailing := by
  simp only [hailIntervalDue, Bool.and_eq_true, beq_iff_eq] at h
  exact h.1

theorem station_of_leaveTimeoutDue (h : leaveTimeoutDue s = true) : s.mbc.station = .leaving := by
  simp only [leaveTimeoutDue, Bool.and_eq_true, beq_iff_eq] at h
  exact h.1

theorem following_of_observedSwitchDue (h : observedSwitchDue s = true) : s.mbc.station.following = true := by
  simp only [observedSwitchDue, Bool.and_eq_true] at h
  exact h.1.1

theorem station_of_foundDue {high : Bool} (h : foundDue s high = true) : s.mbc.station = .listening := by
  simp only [foundDue, Bool.and_eq_true, beq_iff_eq] at h
  exact h.1.1.1.1

theorem sound_observedSwitch (h : Sound False s) : Sound False (whenDue observedSwitchDue switchObserved s) :=
  sound_whenDue h fun due => sound_switchObserved h (following_of_observedSwitchDue due)

theorem sound_viewSwitch (h : Sound False s) : Sound False (whenDue viewSwitchDue switchView s) :=
  sound_whenDue h fun due => sound_switchView h (inGroup_of_viewSwitchDue due)

theorem sound_controllerBoundary (h : Sound False s) (syncHigh : Bool) : Sound False (controllerBoundary syncHigh s) := by
  unfold controllerBoundary
  split
  · have counted : Sound False { s with mbc.listenCount := min (s.mbc.listenCount + 1) (listenWindow s) } := { h with }
    exact sound_whenDue counted fun due => sound_found counted (station_of_foundDue due)
  · have counted : Sound False { whenDue observedSwitchDue switchObserved s with
        mbc.alignCount := (whenDue observedSwitchDue switchObserved s).mbc.alignCount + 1 } :=
      { sound_observedSwitch h with }
    exact sound_whenDue counted fun due => sound_alignTimeout counted (station_of_alignTimeoutDue due)
  · refine sound_ite (fun _ => ?_) fun _ => sound_observedSwitch h
    have counted : Sound False { whenDue observedSwitchDue switchObserved s with
        mbc.hailInterval := (whenDue observedSwitchDue switchObserved s).mbc.hailInterval + 1 } :=
      { sound_observedSwitch h with }
    exact sound_whenDue counted fun due => sound_purgeBefore counted fun u hu same =>
      sound_hailInterval hu (by rw [same, station_of_hailIntervalDue due]; rfl)
  next member =>
    have counted : Sound False { s with mbc.backoff := s.mbc.backoff.map (· - 1) } :=
      { h with backoff := fun _ => member }
    exact sound_viewSwitch (sound_whenDue counted fun _ => counted.orderly (orderly_backoffExpiry _))
  · have counted : Sound False { s with mbc.leaveCount := s.mbc.leaveCount + 1 } := { h with }
    have switched : Sound False (whenDue viewSwitchDue (purgeBefore switchView)
        { s with mbc.leaveCount := s.mbc.leaveCount + 1 }) :=
      sound_whenDue counted fun due => sound_purgeBefore counted fun u hu same =>
        sound_switchView hu (same ▸ inGroup_of_viewSwitchDue due)
    exact sound_whenDue switched fun due => sound_purgeBefore switched fun u hu same =>
      sound_detachLeft hu (by rw [same, station_of_leaveTimeoutDue due]; rfl) _
  · exact h

/-! ### A boundary at every block -/

theorem sound_markBoundary (h : Sound p s) : Sound p (markBoundary s) := by
  refine sound_ite (fun receiving => sound_talk h (h.running_of_receiving ?_) _ rfl) fun _ => h
  rw [receiving]
  decide

theorem sound_clearLatch (h : Sound p s) : Sound p (clearLatch s) := sound_ite (fun _ => { h with }) fun _ => h

theorem sound_readoutAt (h : Sound p s) (order : BoundaryOrder) (k : Nat) : Sound p (readoutAt order k s) := by
  unfold readoutAt
  split
  · split
    next due =>
      obtain ⟨port, hb⟩ := byteComplete_readout due.2
      exact hb ▸ { h with }
    · exact h
  · exact h

theorem sound_boundary (h : Sound p s) (order : BoundaryOrder) (syncHigh : Bool) :
    Sound True (boundary order syncHigh s) := by
  have read : ∀ {q : Prop} k {u : State}, Sound q u → Sound q (readoutAt order k u) :=
    fun k u hu => sound_readoutAt hu order k
  unfold boundary
  dsimp only
  have applied := read 1 (sound_applyPublished (sound_applyPeerDemands (sound_agePeers (sound_clearLatch
    (sound_markBoundary (read 0 h.weaken))))))
  have begun := read 2 (sound_ite (q := order.leaseFirst = true) (fun _ => sound_planCount applied) fun _ => applied)
  have tested := read 4 (sound_purgeTest (sound_lossTest (read 3 (sound_controllerBoundary begun syncHigh))))
  have done : Sound True _ := read 5 (sound_finishBoundary tested)
  exact sound_ite (fun _ => done) fun _ => sound_planCount done

theorem sound_nextCycle (h : Sound p s) (runs : s.mbc.station.running = true) : Sound p (nextCycle s) :=
  { sound_timer h runs { s.cyt with position := 0, cycle := s.cyt.cycle + 1, begun := true } (fun k => k)
      (fun _ => rfl) rfl with }

theorem sound_wrap (h : Sound p s) (runs : s.mbc.station.running = true) (order : BoundaryOrder) (syncHigh : Bool) :
    Sound True (wrap order syncHigh s) := sound_boundary (sound_nextCycle h runs) order syncHigh

/-! ### Falls -/

theorem sound_lockRule (h : Sound p s) (runs : s.mbc.station.running = true) (amount : Nat) :
    Sound p (lockRule amount s) :=
  sound_tryHail (sound_timer h runs _ (fun k => k) (fun k => (h.begun k).1) rfl)

theorem running_of_keepsLock {st : Station} (h : keepsLock st = true) : st.running = true := by
  cases st <;> simp_all [keepsLock, Station.following, Station.inGroup, Station.running]

theorem slipRule_station (amount : Nat) (s : State) : (slipRule amount s).mbc.station = s.mbc.station := by
  unfold slipRule
  split <;> rfl

theorem sound_snap (h : Sound p s) (runs : s.mbc.station.running = true) (lockFirst : Bool) (order : BoundaryOrder)
    (c : Nat) : Sound True (snap lockFirst order c s) := by
  unfold snap
  dsimp only
  have begun : Sound p { nextCycle s with cyt.lastSnap := s.P - c } := { sound_nextCycle h runs with }
  have slipped : Sound p (slipRule (s.P - c) { nextCycle s with cyt.lastSnap := s.P - c }) := by
    refine sound_ite (fun _ => Sound.orderly ?_ (orderly_post _ _ _ _)) fun _ => begun
    exact { begun with }
  have still : (slipRule (s.P - c) { nextCycle s with cyt.lastSnap := s.P - c }).mbc.station.running = true := by
    rw [slipRule_station]
    exact runs
  refine sound_ite (fun _ => sound_boundary (sound_lockRule slipped still _) _ _) fun _ => ?_
  have counted := sound_boundary slipped order false
  exact sound_ite (fun keeps => sound_lockRule counted (running_of_keepsLock keeps) _) fun _ => counted

theorem sound_lateRestart (h : Sound p s) (runs : s.mbc.station.running = true) (c : Nat) :
    Sound p (lateRestart c s) := by
  have restarted := sound_timer h runs { s.cyt with position := 0, lastSnap := c, begun := false } (fun k => k)
    (fun _ => rfl) rfl
  refine sound_lockRule (sound_markBoundary restarted) ?_ c
  rw [(aside_markBoundary _).station]
  exact runs

theorem sound_firstFall (h : Sound p s) (listening : s.mbc.station = .listening) (c : Nat) : Sound p (firstFall c s) := by
  have runs : s.mbc.station.running = true := by rw [listening]; rfl
  have restarted := sound_markBoundary (sound_timer h runs { s.cyt with position := 0, lastSnap := c, begun := false }
    (fun k => k) (fun _ => rfl) rfl)
  have same := (aside_markBoundary { s with
    cyt := { s.cyt with position := 0, lastSnap := c, begun := false } }).station.trans listening
  exact sound_toAligning restarted (by rw [same]; rfl) (by rw [same]; rfl)

theorem sound_takeFall (h : Sound True s) (lockFirst : Bool) (order : BoundaryOrder) (c : Nat) :
    Sound True (takeFall lockFirst order c s) := by
  have runs : ∀ {k}, fallKind s.mbc.station c s.P = k → k ≠ .unseen → s.mbc.station.running = true := by
    rintro k rfl seen
    cases hs : s.mbc.station <;> simp [fallKind, hs, Station.running] at seen ⊢
  unfold takeFall
  split
  · exact h
  next kind => exact sound_firstFall h (fallKind_first kind) c
  next kind => exact sound_snap h (runs kind (by decide)) _ _ _
  next kind => exact sound_lateRestart h (runs kind (by decide)) c
  next kind =>
    have stored : Sound True { s with cyt.lastSnap := 0 } := { h with }
    exact sound_lockRule stored (runs kind (by decide)) 0
  · exact h

theorem sound_stopMarker (h : Sound p s) : Sound p (stopMarker s) := { h with marker := fun k => by cases k }

theorem sound_markerTick (h : Sound p s) : Sound p (markerTick s) := by
  have counted : Sound p { s with sli.markerLeft := s.sli.markerLeft - 1 } := { h with }
  exact sound_whenDue counted fun _ => sound_stopMarker counted

theorem sound_syncStuck (h : Sound p s) (runs : s.mbc.station.running = true) : Sound p (syncStuck s) := by
  have stuck : Sound p { s with sli.stuck := true } := { h with }
  have posted : Sound p (post { s with sli.stuck := true } .syncFault none none) := stuck.orderly (orderly_post _ _ _ _)
  unfold syncStuck
  dsimp only
  split
  · exact sound_memberToListening posted runs
  · exact sound_detachLeft posted runs _
  next st => exact sound_toListening posted runs (by rw [post_mbc, st]; rfl)
  next st => exact sound_toListening posted runs (by rw [post_mbc, st]; rfl)
  · exact posted

/-! ### TALK -/

theorem sound_startFrame (h : Sound p s) (runs : s.mbc.station.running = true) : Sound p (startFrame s) := by
  have taken := h.orderly (orderly_takeSnapshot s)
  exact sound_talk taken ((confined_takeSnapshot s).station ▸ runs) _ rfl

theorem sound_originate (h : Sound p s) (runs : s.mbc.station.running = true) : Sound p (originate s) := by
  unfold originate
  split
  · exact sound_startFrame h runs
  · exact h.orderly (orderly_takeSnapshot s)

theorem sound_lowMark (h : Sound p s) : Sound p (lowMark s) := { h with }

theorem sound_talkMark (h : Sound p s) (runs : s.mbc.station.running = true) : Sound p (talkMark s) := by
  have line : ∀ rx : Rx, Sound p (lowMark { s with tli.rx := rx }) := fun rx =>
    sound_lowMark (sound_talk h runs { s.tli with rx := rx } rfl)
  unfold talkMark
  dsimp only
  split
  · refine sound_ite (fun _ => sound_ite (fun _ => sound_lowMark (sound_startFrame h runs)) fun _ => line _) fun _ => ?_
    exact sound_lowMark h
  · exact sound_ite (fun _ => line _) fun _ => sound_ite (fun _ => line _) fun _ => line _
  · exact sound_ite (fun _ => line _) fun _ => line _

theorem sound_sampleCell (h : Sound p s) (runs : s.mbc.station.running = true) (high : Bool) :
    Sound p (sampleCell high s) := by
  have line : ∀ rx : Rx, Sound p { s with tli.rx := rx } := fun rx => sound_talk h runs { s.tli with rx := rx } rfl
  unfold sampleCell
  dsimp only
  split
  · exact h
  · exact line _
  · split <;> exact line _

theorem sound_sampleTick (h : Sound p s) (high : Bool) : Sound p (sampleTick high s) :=
  sound_ite (fun cell => sound_sampleCell h (h.running_of_receiving cell.1) high) fun _ => h

theorem sound_cellTick (h : Sound p s) : Sound p (cellTick s) :=
  sound_ite (fun _ => h) fun cell => sound_talk h (h.running_of_receiving cell) _ rfl

theorem sound_countFailure (h : Sound p s) (runs : s.mbc.station.running = true) : Sound p (countFailure s) := by
  have counted : Sound p { s with tli := { s.tli with flight := none, failures := s.tli.failures + 1 } } :=
    sound_talk h runs _ rfl
  exact sound_ite (fun _ => sound_detach (counted.orderly (orderly_post _ _ _ _)) runs _) fun _ => counted

theorem sound_longHigh (h : Sound p s) (runs : s.mbc.station.running = true) : Sound p (longHigh s) := by
  have ended : Sound p { s with
      tli.rx := (if s.tli.rx.phase = .receiving then s.tli.rx.fail .longHigh else s.tli.rx).ended } :=
    sound_talk h runs _ rfl
  exact sound_ite (fun _ => sound_countFailure ended runs) fun _ => ended

theorem sound_voidFrame (h : Sound p s) (runs : s.mbc.station.running = true) : Sound p (voidFrame s) := by
  unfold voidFrame
  have idle : Sound p (if s.tli.rx.phase = .receiving then { s with tli.rx := Rx.idle } else s) :=
    sound_ite (fun _ => sound_talk h runs _ rfl) fun _ => h
  refine sound_ite (fun _ => sound_countFailure idle ?_) fun _ => idle
  split <;> exact runs

theorem running_of_acceptedDue {k : FrameKind} (h : acceptedDue k s = true) : s.mbc.station.running = true := by
  simp only [acceptedDue, Bool.and_eq_true] at h
  exact h.1.1.1

theorem running_of_longLowDue (h : longLowDue s = true) : s.mbc.station.running = true := by
  simp only [longLowDue, Bool.and_eq_true] at h
  exact h.1.1

theorem running_of_longHighDue (h : longHighDue s = true) : s.mbc.station.running = true := by
  simp only [longHighDue, Bool.and_eq_true] at h
  exact h.1.1

theorem running_of_talkStuckDue (h : talkStuckDue s = true) : s.mbc.station.running = true := by
  simp only [talkStuckDue, Bool.and_eq_true] at h
  exact h.1.1

theorem running_of_arbitrationLostDue (h : arbitrationLostDue s = true) : s.mbc.station.running = true := by
  simp only [arbitrationLostDue, Bool.and_eq_true] at h
  exact h.1

theorem running_of_bitErrorDue (h : bitErrorDue s = true) : s.mbc.station.running = true := by
  simp only [bitErrorDue, Bool.and_eq_true] at h
  exact h.1

theorem running_of_frameVoidedDue (h : frameVoidedDue s = true) : s.mbc.station.running = true := by
  simp only [frameVoidedDue, Bool.and_eq_true] at h
  exact h.1

theorem running_of_syncStuckDue (h : syncStuckDue s = true) : s.mbc.station.running = true := by
  simp only [syncStuckDue, Bool.and_eq_true] at h
  exact h.1.1

theorem running_of_wrapDue (h : wrapDue s = true) : s.mbc.station.running = true := by
  simp only [wrapDue, Bool.and_eq_true] at h
  exact h.1

theorem sound_talkStuck (h : Sound p s) (runs : s.mbc.station.running = true) : Sound p (talkStuck s) := by
  have stuck := sound_talk h runs { s.tli with stuck := true, rx := s.tli.rx.ended, flight := none } rfl
  exact stuck.orderly (orderly_post _ _ _ _)

theorem sound_talkFindings (h : Sound p s) (tableFirst : Bool) : Sound p (talkFindings tableFirst s) := by
  have accept : ∀ k {u : State}, Sound p u → Sound p (acceptDue tableFirst k u) := fun k u hu =>
    sound_whenDue hu fun due => sound_acceptFrame hu (running_of_acceptedDue due) tableFirst
  have low : Sound p (whenDue longLowDue longLow s) :=
    sound_whenDue h fun due => sound_talk h (running_of_longLowDue due) _ rfl
  have high := sound_whenDue (due := longHighDue) low fun due =>
    sound_longHigh low (running_of_longHighDue due)
  have stuck := sound_whenDue (due := talkStuckDue) (f := talkStuck) high fun due =>
    sound_talkStuck high (running_of_talkStuckDue due)
  have lost := sound_whenDue (due := arbitrationLostDue) (f := loseArbitration) stuck fun due =>
    sound_talk stuck (running_of_arbitrationLostDue due) _ rfl
  have failed := sound_whenDue (due := bitErrorDue) lost fun due => sound_countFailure lost (running_of_bitErrorDue due)
  have voided := sound_whenDue (due := frameVoidedDue) failed fun due => sound_voidFrame failed (running_of_frameVoidedDue due)
  exact accept _ (accept _ (accept _ (accept _ voided)))

theorem running_of_originateDue (h : originateDue s = true) : s.mbc.station.running = true := by
  simp only [originateDue, Bool.and_eq_true] at h
  exact h.1.1.1.1.1

theorem sound_talkStage (h : Sound p s) (pins : Pins) (order : TickOrder) : Sound p (talkStage pins order s) := by
  unfold talkStage
  refine sound_ite (fun runs => ?_) fun _ => h
  have begun : Sound p (whenDue originateDue originate s) := sound_whenDue h fun _ => sound_originate h runs
  have still : (whenDue originateDue originate s).mbc.station.running = true := by
    unfold whenDue
    split
    · rw [(aside_originate s).station]
      exact runs
    · exact runs
  generalize whenDue originateDue originate s = r at begun still
  dsimp only
  refine sound_talkFindings (sound_sampleTick ?_ _) _
  have counters : ∀ {u : State} {low : Bool}, Sound p u →
      Sound p (if low = true then talkLowSample u else talkHighSample u) := fun hu =>
    sound_ite (fun _ => { hu with }) fun _ => { hu with }
  exact counters (sound_ite (fun _ => begun) fun _ =>
    sound_ite (fun _ => sound_talkMark begun still) fun _ => sound_cellTick begun)

/-! ### The tick -/

theorem sound_cycleStage (h : Sound True s) (pins : Pins) (order : TickOrder) (n : TickNote) :
    Sound True (cycleStage pins order n s).2 := by
  unfold cycleStage
  split
  next due =>
    have runs := (Bool.and_eq_true_iff.mp due).1
    split
    · exact sound_wrap h runs _ _
    · exact sound_timer h runs _ (fun k => k) (fun k => by cases k) rfl
  · exact h

theorem sound_sampleSync (h : Sound True s) (pins : Pins) (order : TickOrder) (n : TickNote) :
    Sound True (sampleSync pins order n s).2 := by
  unfold sampleSync
  dsimp only
  split
  · split
    · exact { h with }
    · have low : Sound True (syncLowSample s) := { h with }
      have taken := sound_ite (q := fallSeen s = true)
        (fun _ => sound_takeFall low order.lockFirst order.boundary n.captured) fun _ => low
      exact sound_whenDue taken fun due => sound_syncStuck taken (running_of_syncStuckDue due)
  · exact h

theorem sound_syncStage (h : Sound True s) (pins : Pins) (order : TickOrder) (n : TickNote) :
    Sound True (syncStage pins order n s).2 := by
  unfold syncStage
  split
  · exact sound_ite (fun _ => { h with }) fun _ => h
  · exact sound_sampleSync h _ _ _

theorem sound_faultStage (h : Sound p s) (pins : Pins) : Sound p (faultStage pins s) :=
  sound_ite (fun _ => sound_whenDue h fun _ => { h with }) fun _ => sound_whenDue h fun _ => { h with }

theorem sound_runStage {q : TickNote × State} (h : Sound True q.2) (pins : Pins) (order : TickOrder) (x : Stage) :
    Sound True (runStage pins order q x).2 := by
  cases x with
  | cycle => exact sound_cycleStage h _ _ _
  | sync => exact sound_syncStage h _ _ _
  | talk => exact sound_talkStage h _ _
  | fault => exact sound_faultStage h _

theorem sound_runStages {q : TickNote × State} (h : Sound True q.2) (pins : Pins) (order : TickOrder)
    (xs : List Stage) : Sound True (xs.foldl (runStage pins order) q).2 := by
  induction xs generalizing q with
  | nil => exact h
  | cons x xs ih => exact ih (sound_runStage h pins order x)

theorem sound_tickBody (h : Sound True s) (pins : Pins) (order : TickOrder) : Sound True (tickBody pins order s) := by
  have marked : Sound True (if s.sli.markerActive then markerTick s else s) :=
    sound_ite (fun _ => sound_markerTick h) fun _ => h
  unfold tickBody
  generalize (if s.sli.markerActive then markerTick s else s) = r at marked
  dsimp only
  have staged : ∀ n : TickNote, Sound True ((stageOrder order.stages).foldl (runStage pins order) (n, r)).2 :=
    fun n => sound_runStages (q := (n, r)) marked pins order _
  exact sound_ite (fun _ => staged _) fun _ => sound_sampleSync (staged _) _ _ _

theorem sound_clockEdge (h : Sound True s) (pins : Pins) (order : TickOrder) : Sound True (clockEdge pins order s) :=
  sound_ite (fun _ => { h with }) fun _ => sound_tickBody (s := { s with cyt.presc := 0 }) { h with } _ _

/-! ### Every command -/

theorem sound_enterLeaving (h : Sound p s) (member : s.mbc.station = .member) : Sound p (enterLeaving s) := by
  have grouped : s.mbc.station.inGroup = true := by rw [member]; rfl
  have runs : s.mbc.station.running = true := by rw [member]; rfl
  refine Sound.orderly ?_ (orderly_postRequest _ _)
  exact { h with
    current := h.current.trans grouped
    pendingView := fun _ => rfl
    observed := fun k => absurd (h.notObserving (by rw [member]; rfl)) k
    changes := fun k => absurd rfl k
    changeIds := List.nodup_nil
    backoff := fun k => by cases k
    plan := fun _ => rfl
    planned := fun hp _ => h.planned hp grouped
    complete := fun _ => rfl
    marker := fun _ => rfl
    requests := withdraw_permitted _ _
    adopted := fun _ => h.adopted (.inr grouped)
    held := fun k => by cases k
    begun := fun k => ⟨(h.begun k).1, rfl⟩
    locked := (h.configured runs).1
    prescaler := (h.configured runs).2 }

theorem sound_joined (h : Sound p s) (detached : s.mbc.station = .detached) : Sound p (joined s) where
  current := rfl
  pendingView k := by cases k
  observed k := absurd rfl k
  changes k := absurd rfl k
  changeIds := List.nodup_nil
  backoff k := by cases k
  plan k := by cases k
  planned _ k := by cases k
  complete k := by cases k
  marker k := by cases k
  requests k hk := by
    rw [show (joined s).tli.requests = Requests.empty from rfl, hasKind_empty] at hk
    cases hk
  adopted k := by rcases k with k | k <;> cases k
  held k := by cases k
  begun k := by cases k
  locked := by
    rw [show (joined s).locked = s.locked from rfl, h.locked, detached]
    rfl
  prescaler := by
    rw [show (joined s).cyt.prescRunning = s.cyt.prescRunning from rfl, h.prescaler, detached]
    rfl

theorem sound_restarted (h : Sound p s) (configured : s.mbc.station ≠ .unconfigured) : Sound p (restarted s) := by
  have locked : s.locked = true := by rw [h.locked]; simpa using configured
  have prescaler : s.cyt.prescRunning = true := by rw [h.prescaler]; simpa using configured
  have detached : Sound p (enterDetached s .restarted) := sound_enterDetached locked prescaler _
  exact Sound.orderly (s := restartRecords (enterDetached s .restarted)) { detached with } (orderly_postAt _ _ _ _ _)

theorem sound_reset : Sound True State.reset where
  current := rfl
  pendingView k := by cases k
  observed k := absurd rfl k
  changes k := absurd rfl k
  changeIds := List.nodup_nil
  backoff k := by cases k
  plan k := by cases k
  planned _ k := by cases k
  complete k := by cases k
  marker k := by cases k
  requests k hk := by rw [show State.reset.tli.requests = Requests.empty from rfl, hasKind_empty] at hk; cases hk
  adopted k := by rcases k with k | k <;> cases k
  held _ := ⟨rfl, rfl, rfl, rfl, rfl, rfl, rfl⟩
  begun k := by cases k
  locked := rfl
  prescaler := rfl

theorem sound_configured (record : ConfigRecord) : Sound True (configured s record) where
  current := rfl
  pendingView k := by cases k
  observed k := absurd rfl k
  changes k := absurd rfl k
  changeIds := List.nodup_nil
  backoff k := by cases k
  plan k := by cases k
  planned _ k := by cases k
  complete k := by cases k
  marker k := by cases k
  requests k hk := by
    rw [show (configured s record).tli.requests = Requests.empty from rfl, hasKind_empty] at hk
    cases hk
  adopted k := by rcases k with k | k <;> cases k
  held _ := ⟨rfl, rfl, rfl, rfl, rfl, rfl, rfl⟩
  begun k := by cases k
  locked := rfl
  prescaler := rfl

theorem HostEffect.keeps_sound {code : Byte} (effect : HostEffect s code t) (h : Sound True s) : Sound True t := by
  cases effect with
  | none => exact h
  | configured record _ _ => exact sound_configured record
  | joined detached => exact sound_joined h detached
  | detached runs _ => exact sound_detachLeft h runs _
  | leaving member => exact sound_enterLeaving h member
  | restarted configured => exact sound_restarted h configured
  | demanded leg value _ => exact sound_demanded h leg value
  | enabled e => exact { h with }
  | popped e _ => exact { h with }

theorem sound_of_innerRow {c : Instr} {due : State → Bool} {f : State → State} (h : Sound True s)
    (row : innerRow c = some (due, f)) (isDue : due s = true) : Sound True (f s) := by
  cases c <;> cases row
  case wrap order => exact sound_wrap h (running_of_wrapDue isDue) order _
  case syncFall lockFirst order =>
    exact sound_takeFall (s := { s with sli.prevHigh := false }) { h with } lockFirst order _
  case markerEnd => exact sound_stopMarker h
  case syncStuck => exact sound_syncStuck h (running_of_syncStuckDue isDue)
  case talkMark => exact sound_talkMark h (Bool.and_eq_true_iff.mp isDue).1
  case frameOriginate =>
    have begun := sound_originate h (running_of_originateDue isDue)
    exact sound_ite (fun _ => sound_lowMark begun) fun _ => begun
  case arbitrationLost => exact sound_talk h (running_of_arbitrationLostDue isDue) _ rfl
  case bitError => exact sound_countFailure h (running_of_bitErrorDue isDue)
  case longHighFault => exact sound_longHigh h (running_of_longHighDue isDue)
  case longLowFault => exact sound_talk h (running_of_longLowDue isDue) _ rfl
  case frameVoided => exact sound_voidFrame h (running_of_frameVoidedDue isDue)
  case hailAccepted _ => exact sound_acceptFrame h (running_of_acceptedDue isDue) _
  case claimAccepted _ => exact sound_acceptFrame h (running_of_acceptedDue isDue) _
  case recastAccepted _ => exact sound_acceptFrame h (running_of_acceptedDue isDue) _
  case leaveAccepted _ => exact sound_acceptFrame h (running_of_acceptedDue isDue) _
  case talkStuck => exact sound_talkStuck h (running_of_talkStuckDue isDue)
  case foundGroup => exact sound_finishBoundary (sound_found h (station_of_foundDue isDue))
  case alignTimeout => exact sound_alignTimeout h (station_of_alignTimeoutDue isDue)
  case hailInterval => exact sound_hailInterval h (by rw [station_of_hailIntervalDue isDue]; rfl)
  case leaveTimeout => exact sound_detachLeft h (by rw [station_of_leaveTimeoutDue isDue]; rfl) _
  case backoffExpiry => exact h.orderly (orderly_backoffExpiry s)
  case heartbeat => exact h.orderly (orderly_postRequest s _)
  case quietHoldOn => exact { h with }
  case leaseExpiry => exact sound_expireLease h
  case peerLost id => exact sound_losePeer h id
  case peerPurge id => exact sound_withPeers h _
  case viewSwitch =>
    exact sound_finishBoundary (sound_lossTest (sound_switchView h.weaken (inGroup_of_viewSwitchDue isDue)))
  case observedSwitch =>
    exact sound_finishBoundary (sound_lossTest (sound_switchObserved h (following_of_observedSwitchDue isDue)))
  case windowEdge => exact h
  case faultAsserted => exact { h with }
  case faultReleased => exact { h with }
  case tick pins order => exact sound_clockEdge h pins order

theorem Effect.keeps_sound {c : Instr} (effect : Effect s c t) (h : Sound True s) : Sound True t := by
  have settled : ∀ {u : State}, Sound True u → Sound True (settle u) := fun hu => { hu with }
  cases effect with
  | idle => exact h
  | inside row isDue => exact settled (sound_of_innerRow h row isDue)
  | fullReset _ => exact settled { sound_reset with }
  | released _ => exact { h with }
  | selFell => exact { h with }
  | selRose => exact { h with }
  | port port => exact settled { h with }
  | host code ops _ => exact settled { (takeCode_effect code ops s).keeps_sound h with }

/-- Settles O6: `Sound` is kept by every operation, without the plan inside a boundary; the end of the boundary makes
it. -/
theorem stepKeepsCoherent : Obligations.StepKeepsCoherent := by
  intro s t coherent h
  obtain rfl | ⟨c, rest, taken⟩ := step_cases h
  · exact coherent
  · exact ((exec_effect taken).keeps_sound { coherent.sound with }).coherent

/-- Settles O3: the four laws at reset. -/
theorem resetMeetsInvariants : Obligations.ResetMeetsInvariants :=
  ⟨⟨rfl, rfl, rfl, rfl⟩, .of_noOverrun rfl (Nat.zero_le _), sound_reset.coherent, .of_heard (.nil _) (by simp [State.reset])⟩

end Sys2Proof.Machine

/-! ## The ranking of views, payloads and frames (R25, R103, R183 to R186) -/

namespace Sys2Proof.Machine

/-! ### The ranking (R103) -/

theorem ranksAbove_iff (a b : Identity) :
    ranksAbove a b = true ↔ b.size < a.size ∨ (a.size = b.size ∧
      (a.anchor < b.anchor ∨ (a.anchor = b.anchor ∧ a.digest.toNat < b.digest.toNat))) := by
  simp [ranksAbove]

theorem Identity.eq_of_toNat {a b : Identity} (size : a.size = b.size) (anchor : a.anchor = b.anchor)
    (digest : a.digest.toNat = b.digest.toNat) : a = b := by
  have same := BitVec.eq_of_toNat_eq digest
  cases a
  cases b
  simp_all

/-- Settles O11: `ranksAbove_iff` turns each clause into one about three numbers compared in turn. -/
theorem rankingIsAnOrder : Obligations.RankingIsAnOrder := by
  intro a b c
  have differ : a ≠ b → a.size ≠ b.size ∨ a.anchor ≠ b.anchor ∨ a.digest.toNat ≠ b.digest.toNat := by
    intro apart
    by_contra same
    push Not at same
    exact apart (Identity.eq_of_toNat same.1 same.2.1 same.2.2)
  simp only [← Bool.not_eq_true, ranksAbove_iff]
  refine ⟨?_, ?_, ?_, ?_, ?_, fun apart => ?_⟩
  · omega
  · omega
  · omega
  · omega
  · omega
  · have apart := differ apart
    omega

/-! ### Bytes and words -/

theorem toNat_natByte {n : Nat} (room : n < 256) : (natByte n).toNat = n := by
  simp [natByte, Nat.mod_eq_of_lt room]

theorem toNat_ofNat_word {n : Nat} (room : n < 65536) : (BitVec.ofNat 16 n).toNat = n := by
  simp [Nat.mod_eq_of_lt room]

@[simp] theorem length_wordBytes (w : U16) : (wordBytes w).length = 2 := rfl

@[simp] theorem length_natBytes (n : Nat) : (natBytes n).length = 2 := rfl

@[simp] theorem length_fingerprintBytes (f : Fingerprint) : (fingerprintBytes f).length = 6 := rfl

theorem byteAt_append (xs ys : List Byte) (i : Nat) : byteAt (xs ++ ys) (xs.length + i) = byteAt ys i := by
  simp [byteAt, List.getD, List.getElem?_append_right]

theorem wordAt_append (xs ys : List Byte) (i : Nat) : wordAt (xs ++ ys) (xs.length + i) = wordAt ys i := by
  rw [wordAt, Nat.add_assoc, byteAt_append, byteAt_append, wordAt]

/-- A word reads back where it begins. -/
theorem wordAt_wordBytes (xs ys : List Byte) (w : U16) : wordAt (xs ++ (wordBytes w ++ ys)) xs.length = w := by
  rw [← Nat.add_zero xs.length, wordAt_append]
  exact wordOfBytes_extract w

theorem getLsbD_placeByte (p : Placement) (a : Alignment) :
    (placeByte p a).getLsbD 0 = (p == .pack) ∧ (placeByte p a).getLsbD 1 = (a == .center) := by
  cases p <;> cases a <;> decide

/-- A fingerprint reads back where it begins, at every value that its fields have room for. -/
theorem fingerprintAt_fingerprintBytes {f : Fingerprint} (xs ys : List Byte) (p : f.p < 65536) (prescale : f.prescale < 256)
    (k : f.k < 256) (tb : f.tb < 256) : fingerprintAt (xs ++ (fingerprintBytes f ++ ys)) xs.length = f := by
  obtain ⟨pack, center⟩ := getLsbD_placeByte f.placement f.alignment
  have word : wordAt (xs ++ (fingerprintBytes f ++ ys)) xs.length = BitVec.ofNat 16 f.p := by
    simpa [fingerprintBytes, natBytes, List.append_assoc] using wordAt_wordBytes xs _ _
  unfold fingerprintAt
  rw [word]
  simp only [byteAt_append]
  rw [show byteAt (fingerprintBytes f ++ ys) 2 = natByte f.prescale from rfl,
    show byteAt (fingerprintBytes f ++ ys) 3 = natByte f.k from rfl,
    show byteAt (fingerprintBytes f ++ ys) 4 = placeByte f.placement f.alignment from rfl,
    show byteAt (fingerprintBytes f ++ ys) 5 = natByte f.tb from rfl,
    toNat_ofNat_word p, toNat_natByte prescale, toNat_natByte k, toNat_natByte tb, pack, center]
  obtain ⟨_, _, _, placement, alignment, _⟩ := f
  cases placement <;> cases alignment <;> rfl

theorem memberOfByte_memberByte {m : Member} (room : m.id < 64) (legs : m.legs = 1 ∨ m.legs = 2) :
    memberOfByte (memberByte m) = m := by
  obtain ⟨id, count, new⟩ := m
  dsimp only at room legs
  have bit : ∀ b : Byte, ∀ i < 8, b.getLsbD i = decide (b.toNat / 2 ^ i % 2 = 1) := fun b i _ => by
    rw [BitVec.getLsbD, Nat.testBit_eq_decide_div_mod_eq]
  have value : (memberByte ⟨id, count, new⟩).toNat = id * 4 + (if count = 2 then 2 else 0) + (if new then 1 else 0) :=
    toNat_natByte (by dsimp only; split <;> split <;> omega)
  unfold memberOfByte
  rw [bit _ 0 (by decide), bit _ 1 (by decide), value]
  obtain rfl | rfl := legs <;> cases new <;> simp <;> omega

/-! ### Payloads (R184, R186) -/

theorem decodeHail_encodeHail {h : HailContent} (legs : h.legs = 1 ∨ h.legs = 2) (p : h.fp.p < 65536)
    (prescale : h.fp.prescale < 256) (k : h.fp.k < 256) (tb : h.fp.tb < 256) : decodeHail (encodeHail h) = h := by
  have fp : fingerprintAt (encodeHail h) 1 = h.fp := by
    simpa [encodeHail] using fingerprintAt_fingerprintBytes [natByte h.legs] [] p prescale k tb
  unfold decodeHail
  rw [fp, show byteAt (encodeHail h) 0 = natByte h.legs from rfl]
  obtain ⟨count, _⟩ := h
  dsimp only at legs
  obtain rfl | rfl := legs <;> rfl

theorem length_encodeClaim (c : ClaimContent) : (encodeClaim c).length = if c.demand1.isSome then 12 else 10 := by
  unfold encodeClaim
  cases c.demand1 <;> rfl

theorem decodeClaim_encodeClaim {c : ClaimContent} (size : c.identity.size < 256) (anchor : c.identity.anchor < 256)
    (room0 : c.demand0 < 65536) (room1 : ∀ d, c.demand1 = some d → d < 65536) : decodeClaim (encodeClaim c) = c := by
  have word (w : U16) : wordOfBytes (w.extractLsb' 8 8) (w.extractLsb' 0 8) = w := wordOfBytes_extract w
  obtain ⟨epoch, cycle, ⟨n, a, digest⟩, demand0, demand1⟩ := c
  dsimp only at size anchor room0 room1
  cases demand1 with
  | none =>
    simp [decodeClaim, encodeClaim, wordAt, byteAt, wordBytes, natBytes, word, toNat_natByte size, toNat_natByte anchor,
      Nat.mod_eq_of_lt room0]
  | some d =>
    simp [decodeClaim, encodeClaim, wordAt, byteAt, wordBytes, natBytes, word, toNat_natByte size, toNat_natByte anchor,
      Nat.mod_eq_of_lt room0, Nat.mod_eq_of_lt (room1 d rfl)]

theorem decodeRecast_encodeRecast {r : RecastContent} (p : r.fp.p < 65536) (prescale : r.fp.prescale < 256)
    (k : r.fp.k < 256) (tb : r.fp.tb < 256) (count : r.count < 256)
    (members : ∀ m ∈ r.members, m.id < 64 ∧ (m.legs = 1 ∨ m.legs = 2)) : decodeRecast (encodeRecast r) = r := by
  have fp : fingerprintAt (encodeRecast r) 4 = r.fp := by
    simpa [encodeRecast] using fingerprintAt_fingerprintBytes (wordBytes r.epoch ++ wordBytes r.switchCycle)
      (natByte r.count :: r.members.map memberByte) p prescale k tb
  have read : (r.members.map memberByte).map memberOfByte = r.members := by
    rw [List.map_map]
    exact (List.map_congr_left fun m held => memberOfByte_memberByte (members m held).1 (members m held).2).trans
      (List.map_id _)
  unfold decodeRecast
  rw [fp, show (encodeRecast r).drop 11 = r.members.map memberByte from rfl, read,
    show byteAt (encodeRecast r) 10 = natByte r.count from rfl, toNat_natByte count,
    show wordAt (encodeRecast r) 0 = r.epoch from wordOfBytes_extract _,
    show wordAt (encodeRecast r) 2 = r.switchCycle from wordOfBytes_extract _]

/-- Settles O12: one lemma for each kind. -/
theorem payloadsReadBack : Obligations.PayloadsReadBack := by
  refine ⟨fun h legs p prescale k tb => ⟨decodeHail_encodeHail legs p prescale k tb, rfl⟩,
    fun c size anchor room0 room1 => ⟨decodeClaim_encodeClaim size anchor room0 room1, length_encodeClaim c⟩,
    fun r p prescale k tb count members => ⟨decodeRecast_encodeRecast p prescale k tb count members, ?_⟩⟩
  simp [encodeRecast]
  omega

/-! ### Bits (R182) -/

@[simp] theorem length_bitsOfNat (w n : Nat) : (bitsOfNat w n).length = w := by
  induction w with
  | zero => rfl
  | succ w ih => simp [bitsOfNat, ih]

theorem foldl_bitsOfNat (w n a : Nat) :
    (bitsOfNat w n).foldl (fun n b => 2 * n + b.toNat) a = a * 2 ^ w + n % 2 ^ w := by
  induction w generalizing a with
  | zero => simp [bitsOfNat, Nat.mod_one]
  | succ w ih =>
    rw [bitsOfNat, List.foldl_cons, ih, Nat.mod_pow_succ, Nat.pow_succ, Nat.testBit_eq_decide_div_mod_eq]
    have bit : (decide (n / 2 ^ w % 2 = 1)).toNat = n / 2 ^ w % 2 := by
      have := Nat.mod_two_eq_zero_or_one (n / 2 ^ w)
      rcases this with h | h <;> simp [h]
    rw [bit]
    ring

theorem natOfBits_bitsOfNat {w n : Nat} (room : n < 2 ^ w) : natOfBits (bitsOfNat w n) = n := by
  rw [natOfBits, foldl_bitsOfNat, Nat.zero_mul, Nat.zero_add, Nat.mod_eq_of_lt room]

@[simp] theorem length_bitsOfBytes (bs : List Byte) : (bitsOfBytes bs).length = 8 * bs.length := by
  induction bs with
  | nil => rfl
  | cons b bs ih => simp_all [bitsOfBytes, bitsOfByte]; omega

/-- Bytes read back from their bits, whatever follows. -/
theorem bytesOfBits_bitsOfBytes (bs : List Byte) (rest : List Bool) :
    bytesOfBits bs.length (bitsOfBytes bs ++ rest) = bs := by
  induction bs with
  | nil => rfl
  | cons b bs ih =>
    have split : bitsOfBytes (b :: bs) ++ rest = bitsOfByte b ++ (bitsOfBytes bs ++ rest) := by
      simp [bitsOfBytes]
    have eight : (bitsOfByte b).length = 8 := length_bitsOfNat 8 _
    rw [split, List.length_cons, bytesOfBits, ← eight, List.take_left, List.drop_left, ih, bitsOfByte,
      natOfBits_bitsOfNat b.isLt]
    simp [natByte]

/-! ### Frames (R25, R27, R183) -/

section
variable {kind : FrameKind} {sender : Nat} {payload : List Byte}

/-- The cells in their fields. -/
theorem frameCells_fields (kind : FrameKind) (sender : Nat) (payload : List Byte) :
    frameCells kind sender payload =
      [false] ++ (bitsOfNat 2 (kindCode kind) ++ (bitsOfNat 6 sender ++ (bitsOfNat 5 payload.length ++
        (bitsOfBytes payload ++ (bitsOfNat 16 (checkOf (bodyBits kind sender payload)).toNat ++ [true]))))) := by
  simp [frameCells, bodyBits]

theorem length_bodyBits (kind : FrameKind) (sender : Nat) (payload : List Byte) :
    (bodyBits kind sender payload).length = 13 + 8 * payload.length := by
  simp [bodyBits]
  omega

theorem length_frameCells (kind : FrameKind) (sender : Nat) (payload : List Byte) :
    (frameCells kind sender payload).length = vetoCell payload.length + 1 := by
  simp [frameCells, length_bodyBits, vetoCell]
  omega

/-- A run of cells that begins behind `pre` and is `field.length` long is the field. -/
theorem take_drop_field {α : Type} (pre field post : List α) {i n : Nat} (at_ : pre.length = i) (long : field.length = n) :
    ((pre ++ (field ++ post)).drop i).take n = field := by
  rw [← at_, ← long, List.drop_left, List.take_left]

/-- The first `n` cells of a frame, from the last length cell on, read the length sent. -/
theorem readLength_take (room : payload.length < 32) {n : Nat} (far : 14 ≤ n) :
    readLength ((frameCells kind sender payload).take n) = payload.length := by
  have cells : ((frameCells kind sender payload).drop 9).take 5 = bitsOfNat 5 payload.length := by
    rw [frameCells_fields, ← List.append_assoc, ← List.append_assoc]
    exact take_drop_field _ _ _ (by simp) (by simp)
  rw [readLength, List.drop_take, List.take_take, min_eq_left (by omega), cells, natOfBits_bitsOfNat room]

theorem readLength_frameCells (room : payload.length < 32) :
    readLength (frameCells kind sender payload) = payload.length := by
  rw [← List.take_length (l := frameCells kind sender payload)]
  refine readLength_take room ?_
  rw [length_frameCells, vetoCell]
  omega

theorem kindOfCode_kindCode (k : FrameKind) : kindOfCode (kindCode k) = k := by cases k <;> rfl

theorem readKind_take {n : Nat} (far : 3 ≤ n) : readKind ((frameCells kind sender payload).take n) = kind := by
  have cells : ((frameCells kind sender payload).drop 1).take 2 = bitsOfNat 2 (kindCode kind) := by
    rw [frameCells_fields]
    exact take_drop_field _ _ _ (by simp) (by simp)
  have room : kindCode kind < 2 ^ 2 := by cases kind <;> decide
  rw [readKind, List.drop_take, List.take_take, min_eq_left (by omega), cells, natOfBits_bitsOfNat room,
    kindOfCode_kindCode]

theorem readKind_frameCells : readKind (frameCells kind sender payload) = kind := by
  rw [← List.take_length (l := frameCells kind sender payload)]
  refine readKind_take ?_
  rw [length_frameCells, vetoCell]
  omega

theorem readSender_frameCells (room : sender < 64) : readSender (frameCells kind sender payload) = sender := by
  have cells : ((frameCells kind sender payload).drop 3).take 6 = bitsOfNat 6 sender := by
    rw [frameCells_fields, ← List.append_assoc]
    exact take_drop_field _ _ _ (by simp) (by simp)
  rw [readSender, cells, natOfBits_bitsOfNat room]

theorem readPayload_frameCells (room : payload.length < 32) : readPayload (frameCells kind sender payload) = payload := by
  have cells : (frameCells kind sender payload).drop 14 =
      bitsOfBytes payload ++ (bitsOfNat 16 (checkOf (bodyBits kind sender payload)).toNat ++ [true]) := by
    rw [frameCells_fields, ← List.append_assoc, ← List.append_assoc, ← List.append_assoc]
    exact List.drop_left' (by simp)
  rw [readPayload, readLength_frameCells room, cells, bytesOfBits_bitsOfBytes]

/-- The check read is the check of the body sent, from its last cell on. -/
theorem readCheck_take (room : payload.length < 32) {n : Nat} (far : 30 + 8 * payload.length ≤ n) :
    readCheck ((frameCells kind sender payload).take n) = (checkOf (bodyBits kind sender payload)).toNat := by
  have cells : ((frameCells kind sender payload).drop (14 + 8 * payload.length)).take 16 =
      bitsOfNat 16 (checkOf (bodyBits kind sender payload)).toNat := by
    rw [frameCells_fields, ← List.append_assoc, ← List.append_assoc, ← List.append_assoc, ← List.append_assoc]
    exact take_drop_field _ _ _ (by simp; omega) (by simp)
  rw [readCheck, readLength_take room (by omega), List.drop_take, List.take_take, min_eq_left (by omega), cells,
    natOfBits_bitsOfNat (BitVec.isLt _)]

theorem computedCheck_take (room : payload.length < 32) {n : Nat} (far : 14 + 8 * payload.length ≤ n) :
    computedCheck ((frameCells kind sender payload).take n) = (checkOf (bodyBits kind sender payload)).toNat := by
  have cells : ((frameCells kind sender payload).drop 1).take (13 + 8 * payload.length) = bodyBits kind sender payload := by
    rw [show frameCells kind sender payload = [false] ++ (bodyBits kind sender payload ++
      (bitsOfNat 16 (checkOf (bodyBits kind sender payload)).toNat ++ [true])) by simp [frameCells]]
    exact take_drop_field _ _ _ rfl (length_bodyBits _ _ _)
  rw [computedCheck, readLength_take room (by omega), List.drop_take, List.take_take, min_eq_left (by omega), cells]

theorem readCheck_frameCells (room : payload.length < 32) :
    readCheck (frameCells kind sender payload) = computedCheck (frameCells kind sender payload) := by
  rw [← List.take_length (l := frameCells kind sender payload), length_frameCells, vetoCell,
    readCheck_take room (by omega), computedCheck_take room (by omega)]

/-- No run of a legal frame's first cells shows a fault. -/
theorem faultOfBits_take (room : payload.length < 32) (legal : legalLength kind payload.length = true) (n : Nat) :
    faultOfBits ((frameCells kind sender payload).take n) = none := by
  have short : ((frameCells kind sender payload).take n).length ≤ n := List.length_take_le _ _
  unfold faultOfBits
  split
  next one =>
    have start : (frameCells kind sender payload).take n ≠ [true] := by
      cases n with
      | zero => simp
      | succ n => simp [frameCells]
    rw [if_neg start]
  · split
    next fourteen => rw [readKind_take (by omega), readLength_take room (by omega), if_pos legal]
    · split
      next check =>
        rw [readLength_take room (by omega)] at check
        rw [readCheck_take room (by omega), computedCheck_take room (by omega), if_pos rfl]
      · rfl

end

theorem checkOf_append (bits : List Bool) (b : Bool) : checkOf (bits ++ [b]) = checkStep (checkOf bits) b := by
  simp [checkOf, List.foldl_append]

/-- Settles O13: the fields are cut out of `frameCells_fields`, and the check is a fold. -/
theorem frameReadsBack : Obligations.FrameReadsBack := by
  refine ⟨fun kind sender payload id room => ⟨length_frameCells _ _ _, readKind_frameCells, readSender_frameCells id,
    readLength_frameCells room, readPayload_frameCells room, readCheck_frameCells room⟩,
    fun kind sender payload n _ room legal _ => faultOfBits_take room legal n, rfl, fun bits b => ?_⟩
  rw [checkOf_append, checkStep, BitVec.msb_eq_getLsbD_last]

end Sys2Proof.Machine

/-! ## Windows, PACK and the plan (R79, R114, R120 to R127) -/

namespace Sys2Proof.Machine

/-! ### SPREAD (R122, R123) -/

@[simp] theorem length_spreadWindows (p n k : Nat) (a : Alignment) (i : Nat) (ds : List Nat) :
    (spreadWindows p n k a i ds).length = ds.length := by
  induction ds generalizing i with
  | nil => rfl
  | cons d ds ih => simp [spreadWindows, ih]

/-- Leg `i + j`'s window stands at its place. -/
theorem getElem?_spreadWindows (p n k : Nat) (a : Alignment) (i j : Nat) (ds : List Nat) :
    (spreadWindows p n k a i ds)[j]? = ds[j]?.map fun d =>
      { grant := min d (ceiling p n k), start := spreadStart p n a (i + j) (min d (ceiling p n k)) } := by
  induction ds generalizing i j with
  | nil => rfl
  | cons d ds ih =>
    cases j with
    | zero => rfl
    | succ j => simp [spreadWindows, ih, Nat.add_assoc, Nat.add_comm 1 j]

theorem slotOffset_le_slotOffset (p n : Nat) {i j : Nat} (le : i ≤ j) : slotOffset p n i ≤ slotOffset p n j :=
  Nat.div_le_div_right (Nat.mul_le_mul_right p le)

theorem slotOffset_le (p : Nat) {n i : Nat} (legs : 1 ≤ n) (le : i ≤ n) : slotOffset p n i ≤ p :=
  (slotOffset_le_slotOffset p n le).trans_eq (slotOffset_self p legs)

theorem spreadStart_le (p : Nat) {n i : Nat} (a : Alignment) (g : Nat) (pos : 0 < p) (legs : i < n) :
    spreadStart p n a i g ≤ p := by
  cases a with
  | lead => exact slotOffset_le p (by omega) (by omega)
  | center => exact (Nat.mod_lt _ pos).le

/-- The start of a CENTER window as a difference of integers, mod P: the grant is at most P, so that half of it may be
taken away. -/
theorem spreadStart_center {p n i g : Nat} (small : g ≤ p) :
    (spreadStart p n .center i g : Int) =
      ((slotOffset p n i : Int) + ((slotWidth p n i / 2 : Nat) : Int) - ((g / 2 : Nat) : Int)) % (p : Int) := by
  have half : g / 2 ≤ slotOffset p n i + slotWidth p n i / 2 + p := by omega
  have shifted : ((slotOffset p n i + slotWidth p n i / 2 + p - g / 2 : Nat) : Int) =
      (slotOffset p n i : Int) + ((slotWidth p n i / 2 : Nat) : Int) - ((g / 2 : Nat) : Int) + (p : Int) := by omega
  rw [← Int.add_emod_right, ← shifted, ← Int.natCast_mod]
  rfl

/-- With K = 1 a grant ends within its slot. -/
theorem slotOffset_add_grant_le {p n i d : Nat} (legs : 1 ≤ n) :
    slotOffset p n i + min d (ceiling p n 1) ≤ slotOffset p n (i + 1) := by
  have width := slotWidth_eq p i legs
  have whole := slotOffset_add_slotWidth p n i
  have cut : min d (ceiling p n 1) ≤ p / n := by
    rw [ceiling, Nat.one_mul]
    omega
  omega

theorem covers_of_grant_zero {p : Nat} {w : Window} (grant : w.grant = 0) (start : w.start ≤ p) (x : Nat) :
    covers p w x = false := by
  rw [← Bool.not_eq_true, covers, Bool.or_eq_true, inWindow_iff, inTail_iff, grant]
  omega

/-- Settles O16: each window is read at its place by `getElem?_spreadWindows`. -/
theorem spreadWindowsPlaced : Obligations.SpreadWindows := by
  intro p k a ds pos
  have shape : ∀ {i d : Nat} {w : Window}, ds[i]? = some d → (spreadWindows p ds.length k a 0 ds)[i]? = some w →
      w = { grant := min d (ceiling p ds.length k), start := spreadStart p ds.length a i (min d (ceiling p ds.length k)) } := by
    intro i d w hd hw
    rw [getElem?_spreadWindows, hd, Nat.zero_add] at hw
    exact (Option.some.inj hw).symm
  refine ⟨length_spreadWindows _ _ _ _ _ _, fun i d w hd hw => ?_, ?_⟩
  · obtain rfl := shape hd hw
    have legs : i < ds.length := (List.getElem?_eq_some_iff.mp hd).1
    refine ⟨rfl, ?_, ?_, fun none x => covers_of_grant_zero none (spreadStart_le p a _ pos legs) x⟩
    · rintro rfl
      rfl
    · rintro rfl
      exact spreadStart_center ((Nat.min_le_right _ _).trans (Nat.min_le_left _ _))
  · rintro rfl rfl i j v w before hv hw
    obtain ⟨hi, -⟩ := List.getElem?_eq_some_iff.mp hv
    obtain ⟨hj, -⟩ := List.getElem?_eq_some_iff.mp hw
    rw [length_spreadWindows] at hi hj
    obtain rfl := shape (List.getElem?_eq_getElem hi) hv
    obtain rfl := shape (List.getElem?_eq_getElem hj) hw
    have legs : 1 ≤ ds.length := by omega
    exact ⟨(slotOffset_add_grant_le legs).trans (slotOffset_le_slotOffset p _ before),
      (slotOffset_add_grant_le legs).trans (slotOffset_le p legs hj)⟩

/-! ### Water-filling (R124) -/

/-- The grants of a round in which the legs with a demand below `t` are satisfied. -/
def filled (t : Nat) (ds : List Nat) : List (Option Nat) := ds.map fun d => if d < t then some d else none

/-- What the satisfied legs take. -/
def paid (t : Nat) (ds : List Nat) : Nat := (ds.map fun d => if d < t then d else 0).sum

/-- How many legs are not satisfied. -/
def still (t : Nat) (ds : List Nat) : Nat := ds.countP fun d => decide (t ≤ d)

theorem granted_filled (t : Nat) (ds : List Nat) : granted (filled t ds) = paid t ds := by
  rw [granted, filled, List.map_map, paid]
  congr 1
  refine List.map_congr_left fun d _ => ?_
  by_cases h : d < t <;> simp [h]

theorem unsatisfied_filled (t : Nat) (ds : List Nat) : unsatisfied (filled t ds) = still t ds := by
  induction ds with
  | nil => rfl
  | cons d ds ih =>
    rw [still, List.countP_cons, ← still, ← ih]
    by_cases h : d < t
    · simp [unsatisfied, filled, h]
    · simp [unsatisfied, filled, h, Nat.not_lt.mp h]

/-- A round satisfies the legs whose demand is at most the share. -/
theorem satisfy_filled (share t : Nat) (ds : List Nat) :
    satisfy share ds (filled t ds) = filled (max t (share + 1)) ds := by
  induction ds with
  | nil => rfl
  | cons d ds ih =>
    have rest : satisfy share (d :: ds) (filled t (d :: ds)) =
        (match (if d < t then some d else none : Option Nat) with
          | some g => some g
          | none => if d ≤ share then some d else none) :: satisfy share ds (filled t ds) := rfl
    rw [rest, ih]
    by_cases below : d < t
    · simp [filled, below]
    · by_cases within : d ≤ share
      · simp [filled, below, within]
      · simp [filled, below, within]

/-- Raising the bound from `t` to `u` pays each leg between them. -/
theorem paid_add_still_le {t u : Nat} (ds : List Nat) (le : t ≤ u) :
    paid u ds + (u - 1) * still u ds ≤ paid t ds + (u - 1) * still t ds := by
  induction ds with
  | nil => rfl
  | cons d ds ih =>
    have spent : ∀ t, paid t (d :: ds) = (if d < t then d else 0) + paid t ds := fun _ => rfl
    have open_ : ∀ t, still t (d :: ds) = still t ds + if t ≤ d then 1 else 0 := fun t => by simp [still, List.countP_cons]
    simp only [spent, open_, Nat.mul_add]
    split <;> split <;> split <;> split <;> omega

theorem sum_eq_paid {t : Nat} {ds : List Nat} (h : still t ds = 0) : paid t ds = ds.sum := by
  have below : ∀ d ∈ ds, d < t := by simpa [still, List.countP_eq_zero] using h
  rw [paid, List.map_congr_left (g := id) fun d hd => by simp [below d hd], List.map_id]

/-! #### The last round -/

@[simp] theorem length_giveShare (share left : Nat) (gs : List (Option Nat)) :
    (giveShare share left gs).length = gs.length := by
  fun_induction giveShare share left gs <;> simp_all

theorem sum_giveShare (share left : Nat) (gs : List (Option Nat)) :
    (giveShare share left gs).sum = granted gs + share * unsatisfied gs + min left (unsatisfied gs) := by
  fun_induction giveShare share left gs with
  | case1 => simp [granted, unsatisfied]
  | case2 left g rest ih =>
    simp only [List.sum_cons, ih, granted, unsatisfied]
    simp
    omega
  | case3 rest ih =>
    simp only [List.sum_cons, ih, granted, unsatisfied]
    simp [Nat.mul_add]
    omega
  | case4 left rest ih =>
    simp only [List.sum_cons, ih, granted, unsatisfied]
    simp [Nat.mul_add]
    omega

theorem giveShare_satisfied {share left i g : Nat} {gs : List (Option Nat)} (h : gs[i]? = some (some g)) :
    (giveShare share left gs)[i]? = some g := by
  fun_induction giveShare share left gs generalizing i with
  | case1 => cases h
  | case2 => cases i <;> simp_all
  | case3 => cases i <;> simp_all
  | case4 => cases i <;> simp_all

theorem giveShare_open {share left i : Nat} {gs : List (Option Nat)} (h : gs[i]? = some none) :
    (giveShare share left gs)[i]? = some share ∨ (giveShare share left gs)[i]? = some (share + 1) := by
  fun_induction giveShare share left gs generalizing i with
  | case1 => cases h
  | case2 => cases i <;> simp_all
  | case3 => cases i <;> simp_all
  | case4 => cases i <;> simp_all

/-- The first of the open legs get the tick more. -/
theorem giveShare_first {share left i j : Nat} {gs : List (Option Nat)} (before : i < j) (hi : gs[i]? = some none)
    (hj : gs[j]? = some none) (more : (giveShare share left gs)[j]? = some (share + 1)) :
    (giveShare share left gs)[i]? = some (share + 1) := by
  have none_left : ∀ {gs : List (Option Nat)} {j : Nat}, gs[j]? = some none → (giveShare share 0 gs)[j]? = some share := by
    intro gs
    induction gs with
    | nil => simp
    | cons g gs ih => cases g <;> rintro (_ | j) h <;> simp_all [giveShare]
  fun_induction giveShare share left gs generalizing i j with
  | case1 => cases hi
  | case2 left g rest ih =>
    cases i with
    | zero => simp at hi
    | succ i =>
      cases j with
      | zero => omega
      | succ j => simpa using ih (Nat.lt_of_succ_lt_succ before) (by simpa using hi) (by simpa using hj) (by simpa using more)
  | case3 rest ih =>
    cases j with
    | zero => omega
    | succ j => simp [none_left (by simpa using hj)] at more
  | case4 left rest ih =>
    cases i with
    | zero => simp
    | succ i =>
      cases j with
      | zero => omega
      | succ j => simpa using ih (Nat.lt_of_succ_lt_succ before) (by simpa using hi) (by simpa using hj) (by simpa using more)

/-- What water-filling of a budget leaves: it is used up, one share parts the legs, and the first of the open ones get the
tick more (R124). -/
structure WaterFilled (budget : Nat) (ds gs : List Nat) (share : Nat) : Prop where
  length : gs.length = ds.length
  total : gs.sum = budget
  parted : ∀ i d g : Nat, ds[i]? = some d → gs[i]? = some g →
    (d ≤ share → g = d) ∧ (share < d → g = share ∨ g = share + 1)
  first : ∀ i j d e g h : Nat, i < j → ds[i]? = some d → ds[j]? = some e → gs[i]? = some g → gs[j]? = some h →
    share < d → share < e → h = share + 1 → g = share + 1

theorem getElem?_filled {t i d : Nat} {ds : List Nat} (h : ds[i]? = some d) :
    (filled t ds)[i]? = some (if d < t then some d else none) := by simp [filled, h]

/-- The round in which no leg is satisfied any more shares the rest out. -/
theorem waterFilled_giveShare {budget t : Nat} {ds : List Nat} (within : paid t ds ≤ budget) (some_ : 0 < still t ds)
    (high : t ≤ (budget - paid t ds) / still t ds + 1)
    (settled : ∀ d ∈ ds, t ≤ d → (budget - paid t ds) / still t ds < d) :
    WaterFilled budget ds
      (giveShare ((budget - paid t ds) / still t ds) (budget - paid t ds - (budget - paid t ds) / still t ds * still t ds)
        (filled t ds)) ((budget - paid t ds) / still t ds) := by
  generalize hs : (budget - paid t ds) / still t ds = share at *
  have parts : share * still t ds + (budget - paid t ds) % still t ds = budget - paid t ds := by
    rw [← hs, Nat.mul_comm]
    exact Nat.div_add_mod _ _
  have few := Nat.mod_lt (budget - paid t ds) some_
  have unpaid : ∀ {i d : Nat}, ds[i]? = some d → share < d → (filled t ds)[i]? = some none := fun {i d} hd above => by
    rw [getElem?_filled hd, if_neg (by omega)]
  constructor
  case length => simp [filled]
  case total =>
    rw [sum_giveShare, granted_filled, unsatisfied_filled, Nat.min_eq_left (by omega)]
    omega
  case parted =>
    intro i d g hd hg
    refine ⟨fun le => ?_, fun above => ?_⟩
    · have below : d < t := by
        by_contra above
        have := settled d (List.mem_of_getElem? hd) (by omega)
        omega
      rw [giveShare_satisfied (g := d) (by rw [getElem?_filled hd, if_pos below])] at hg
      exact (Option.some.inj hg).symm
    · have open_ := giveShare_open (share := share) (left := budget - paid t ds - share * still t ds) (unpaid hd above)
      simpa [hg] using open_
  case first =>
    rintro i j d e g h before hd he hg hh aboved abovee rfl
    exact Option.some.inj (hg.symm.trans (giveShare_first before (unpaid hd aboved) (unpaid he abovee) hh))

theorem still_le_of_le {t u : Nat} (ds : List Nat) (le : t ≤ u) : still u ds ≤ still t ds :=
  List.countP_mono_left fun d _ h => by simp at h ⊢; omega

/-- A round that leaves the count of open legs as it was has found no demand within the share. -/
theorem lt_of_still_eq {t u : Nat} {ds : List Nat} (le : t ≤ u) (same : still u ds = still t ds) :
    ∀ d ∈ ds, t ≤ d → u ≤ d := by
  induction ds with
  | nil => simp
  | cons d ds ih =>
    have rest := still_le_of_le ds le
    simp only [still, List.countP_cons] at same rest
    have eq : still u ds = still t ds := by
      simp only [still]
      split at same <;> split at same <;> simp_all
      omega
    have head : t ≤ d → u ≤ d := by
      intro h
      by_contra not
      simp only [still] at eq
      simp [h, not] at same
      omega
    simpa using ⟨head, ih eq⟩

/-- Water-filling from the round in which the legs below `t` are satisfied. -/
theorem waterFilled_fillRounds {budget fuel t : Nat} {ds : List Nat} (scarce : budget < ds.sum)
    (enough : still t ds < fuel) (within : paid t ds + (t - 1) * still t ds ≤ budget) :
    ∃ share, WaterFilled budget ds (fillRounds budget ds fuel (filled t ds)) share := by
  induction fuel generalizing t with
  | zero => omega
  | succ fuel ih =>
    have some_ : 0 < still t ds := by
      by_contra none
      have := sum_eq_paid (t := t) (ds := ds) (by omega)
      omega
    have high : t ≤ (budget - paid t ds) / still t ds + 1 := by
      have := (Nat.le_div_iff_mul_le some_).mpr (show (t - 1) * still t ds ≤ budget - paid t ds by omega)
      omega
    unfold fillRounds
    simp only [granted_filled, unsatisfied_filled, satisfy_filled, Nat.max_eq_right high]
    split
    next same =>
      refine ⟨_, waterFilled_giveShare (by omega) some_ high fun d hd above => ?_⟩
      exact lt_of_still_eq high same d hd above
    next fewer =>
      refine ih (by have := still_le_of_le ds high; omega) ?_
      have grown := paid_add_still_le ds high
      have share := Nat.div_mul_le_self (budget - paid t ds) (still t ds)
      simp only [Nat.add_sub_cancel] at grown ⊢
      omega

theorem packGrants_of_room {budget : Nat} {ds : List Nat} (room : ds.sum ≤ budget) : packGrants budget ds = ds :=
  if_pos room

theorem waterFilled_packGrants {budget : Nat} {ds : List Nat} (scarce : budget < ds.sum) :
    ∃ share, WaterFilled budget ds (packGrants budget ds) share := by
  have start : ds.map (fun _ => (none : Option Nat)) = filled 0 ds := by simp [filled]
  have nothing : paid 0 ds = 0 := by simp [paid]
  have all : still 0 ds ≤ ds.length := List.countP_le_length
  rw [packGrants, if_neg (by omega), start]
  exact waterFilled_fillRounds scarce (by omega) (by omega)

theorem sum_packGrants_le (budget : Nat) (ds : List Nat) : (packGrants budget ds).sum ≤ budget := by
  by_cases room : ds.sum ≤ budget
  · rwa [packGrants_of_room room]
  · obtain ⟨_, filled⟩ := waterFilled_packGrants (Nat.not_le.mp room)
    exact filled.total.le

@[simp] theorem length_packGrants (budget : Nat) (ds : List Nat) : (packGrants budget ds).length = ds.length := by
  by_cases room : ds.sum ≤ budget
  · rw [packGrants_of_room room]
  · obtain ⟨_, filled⟩ := waterFilled_packGrants (Nat.not_le.mp room)
    exact filled.length

/-! ### Windows end to end (R125) -/

/-- How many of the places before `n`, counted on through the cycles, stand at position `x`. -/
def hits (p x n : Nat) : Nat := (n + (p - 1 - x)) / p

theorem hits_mono (p x : Nat) {m n : Nat} (le : m ≤ n) : hits p x m ≤ hits p x n :=
  Nat.div_le_div_right (Nat.add_le_add_right le _)

/-- A window laid at place `acc` that covers `x` holds one more place at `x`. -/
theorem hits_of_covers {p x acc g : Nat} (pos : 0 < p) (inside : x < p)
    (cover : covers p { grant := g, start := acc % p } x = true) : hits p x acc + 1 ≤ hits p x (acc + g) := by
  have place := Nat.div_add_mod acc p
  have start := Nat.mod_lt acc pos
  simp only [covers, Bool.or_eq_true, inWindow_iff, inTail_iff] at cover
  unfold hits
  generalize acc / p = q at place
  generalize acc % p = r at *
  subst place
  have expand : (q + 1) * p = p * q + p ∧ (q + 2) * p = p * q + 2 * p := by constructor <;> ring
  rcases cover with own | tail
  · have before : (p * q + r + (p - 1 - x)) / p < q + 1 := (Nat.div_lt_iff_lt_mul pos).mpr (by omega)
    have after : q + 1 ≤ (p * q + r + g + (p - 1 - x)) / p := (Nat.le_div_iff_mul_le pos).mpr (by omega)
    omega
  · have before : (p * q + r + (p - 1 - x)) / p < q + 2 := (Nat.div_lt_iff_lt_mul pos).mpr (by omega)
    have after : q + 2 ≤ (p * q + r + g + (p - 1 - x)) / p := (Nat.le_div_iff_mul_le pos).mpr (by omega)
    omega

theorem packWindows_covers_le {p x : Nat} (pos : 0 < p) (inside : x < p) (acc : Nat) (gs : List Nat) :
    ((packWindows p acc gs).filter fun w => covers p w x).length + hits p x acc ≤ hits p x (acc + gs.sum) := by
  induction gs generalizing acc with
  | nil => simp [packWindows]
  | cons g gs ih =>
    have rest := ih (acc + g)
    rw [List.sum_cons, ← Nat.add_assoc, packWindows, List.filter_cons]
    split
    next cover =>
      have one := hits_of_covers pos inside cover
      simp only [List.length_cons]
      omega
    · have grown := hits_mono p x (Nat.le_add_right acc g)
      omega

/-- Settles O14: within the budget `packGrants` is the identity, above it `waterFilled_packGrants`; the covering windows
are counted by the places that they hold. -/
theorem packTaken : Obligations.PackTaken := by
  refine ⟨fun budget ds => ⟨length_packGrants _ _, fun i d g hd hg => ?_, packGrants_of_room, fun scarce => ?_⟩,
    fun p k ds x pos _ inside => ?_⟩
  · by_cases room : ds.sum ≤ budget
    · rw [packGrants_of_room room, hd] at hg
      exact (Option.some.inj hg).ge
    · obtain ⟨share, filled⟩ := waterFilled_packGrants (Nat.not_le.mp room)
      have := filled.parted i d g hd hg
      omega
  · obtain ⟨share, filled⟩ := waterFilled_packGrants scarce
    exact ⟨filled.total, share, filled.parted, filled.first⟩
  · have counted := packWindows_covers_le pos inside 0 (packGrants (k * p) ds)
    have grown := hits_mono p x (show 0 + (packGrants (k * p) ds).sum ≤ k * p by
      rw [Nat.zero_add]
      exact sum_packGrants_le _ _)
    have all : hits p x (k * p) = k := by
      rw [hits, Nat.add_comm, Nat.add_mul_div_right _ _ pos, Nat.div_eq_of_lt (by omega), Nat.zero_add]
    omega

/-! ### Waiting demands (R79, R114) -/

theorem pendingFate_of_reached {c x : U16} (reached : c = x ∨ newer c x = true) : pendingFate c x = .applied := by
  rcases reached with rfl | h <;> simp [pendingFate, Machine.reached, *]

theorem not_reached_of_ahead {c x : U16} (near : ahead x c = 1 ∨ ahead x c = 2) : ¬ (c = x ∨ newer c x = true) := by
  have hc : c.toNat < 65536 := c.isLt
  have hx : x.toNat < 65536 := x.isLt
  rw [newer_iff_ahead, ahead_eq_mod]
  rw [ahead_eq_mod] at near
  rintro (rfl | far) <;> omega

/-- Settles O57: the three fates of `pendingFate`. -/
theorem waitingDemandFates : Obligations.WaitingDemandFates := by
  intro c d r o hr ho
  refine ⟨fun due => ?_, fun near => ?_, fun later far => ?_⟩
  · simp [LegRecord.advance, OwnLeg.advance, hr, ho, pendingFate_of_reached due]
  · have later := not_reached_of_ahead near
    have kept : pendingFate c d.applyCycle = .kept := by
      simp only [not_or, Bool.not_eq_true] at later
      simp [pendingFate, Machine.reached, later, near]
    simp [LegRecord.advance, OwnLeg.advance, hr, ho, kept]
  · have removed : pendingFate c d.applyCycle = .removed := by
      simp only [not_or, Bool.not_eq_true] at later
      simp [pendingFate, Machine.reached, later]
      omega
    simp [LegRecord.advance, OwnLeg.advance, hr, ho, removed]

/-! ### The plan (R120, R126, R127) -/

@[simp] theorem length_packWindows (p acc : Nat) (gs : List Nat) : (packWindows p acc gs).length = gs.length := by
  induction gs generalizing acc with
  | nil => rfl
  | cons g gs ih => simp [packWindows, ih]

theorem getElem?_packWindows (p acc i : Nat) (gs : List Nat) :
    (packWindows p acc gs)[i]? = gs[i]?.map fun g => { grant := g, start := (acc + (gs.take i).sum) % p } := by
  induction gs generalizing acc i with
  | nil => rfl
  | cons g gs ih =>
    cases i with
    | zero => simp [packWindows]
    | succ i => simp [packWindows, ih, Nat.add_assoc]

@[simp] theorem length_planWindows (fp : Fingerprint) (ds : List Nat) : (planWindows fp ds).length = ds.length := by
  unfold planWindows
  split <;> simp

/-- The entry of leg `i + j` stands at its place, with the window there. -/
theorem getElem?_planEntries (s : State) (i j : Nat) (legs : List (Nat × Nat)) (ws : List Window)
    (long : ws.length = legs.length) {l : Nat × Nat} {w : Window} (hl : legs[j]? = some l) (hw : ws[j]? = some w) :
    (planEntries s i legs ws)[j]? = some
      { index := i + j, id := l.1, leg := l.2, own := l.1 == s.cfg.id, known := (effectiveDemand s l.1 l.2).1,
        demand := (effectiveDemand s l.1 l.2).2, window := w } := by
  induction legs generalizing i j ws with
  | nil => cases hl
  | cons m legs ih =>
    cases ws with
    | nil => cases hw
    | cons x ws =>
      cases j with
      | zero =>
        obtain rfl : m = l := by simpa using hl
        obtain rfl : x = w := by simpa using hw
        rfl
      | succ j =>
        have rest := ih (i + 1) j ws (by simpa using long) (by simpa using hl) (by simpa using hw)
        simpa [planEntries, Nat.add_assoc, Nat.add_comm 1 j] using rest

theorem length_planEntries (s : State) (i : Nat) (legs : List (Nat × Nat)) (ws : List Window)
    (long : ws.length = legs.length) : (planEntries s i legs ws).length = legs.length := by
  induction legs generalizing i ws with
  | nil => cases ws <;> rfl
  | cons m legs ih =>
    cases ws with
    | nil => cases long
    | cons x ws => simpa [planEntries] using ih (i + 1) ws (by simpa using long)

theorem viewLegs_cons (m : Member) (ms : List Member) :
    viewLegs (m :: ms) = (m.id, 0) :: (if m.legs = 2 then [(m.id, 1)] else []) ++ viewLegs ms := by
  simp only [viewLegs, List.flatMap_cons]
  split <;> rfl

/-- Settles O58: the entries by `getElem?_planEntries`, the windows by the placement. -/
theorem planCoversTheView : Obligations.PlanCoversTheView := by
  refine ⟨fun s v i l hl => ?_, ⟨rfl, viewLegs_cons⟩, fun s id leg o => ⟨?_, ?_, ?_⟩, fun fp ds => ⟨?_, ?_⟩⟩
  · have windows : ∀ ds : List Nat, ds.length = (viewLegs v.members).length →
        (planWindows s.cfg.fp ds).length = (viewLegs v.members).length := fun ds h => (length_planWindows _ ds).trans h
    have long := windows ((viewLegs v.members).map fun x => (effectiveDemand s x.1 x.2).2) (List.length_map _)
    obtain ⟨w, hw⟩ : ∃ w, (planWindows s.cfg.fp
        ((viewLegs v.members).map fun x => (effectiveDemand s x.1 x.2).2))[i]? = some w := by
      have inside := (List.getElem?_eq_some_iff.mp hl).1
      exact ⟨_, List.getElem?_eq_getElem (long.symm ▸ inside)⟩
    refine ⟨rfl, length_planEntries s 0 _ _ long, rfl, rfl, _, w, ?_, hw, rfl⟩
    exact (getElem?_planEntries s 0 i _ _ long hl hw).trans (by rw [Nat.zero_add])
  · rintro rfl rfl
    rw [effectiveDemand, if_pos rfl, ownLeg]
  · intro other absent
    simp [effectiveDemand, other, absent]
  · rintro p r other present rfl
    simp only [effectiveDemand, if_neg other, present]
    rfl
  · intro spread
    rw [planWindows, spread]
  · intro pack
    have laid : planWindows fp ds = packWindows fp.p 0 (packGrants (fp.k * fp.p) ds) := by rw [planWindows, pack]
    refine ⟨length_planWindows fp ds, fun i w hw => ?_⟩
    rw [laid, getElem?_packWindows] at hw
    obtain ⟨g, hg, rfl⟩ := Option.map_eq_some_iff.mp hw
    exact ⟨hg, by rw [Nat.zero_add]⟩

end Sys2Proof.Machine

/-! ## Host commands (chapters 9 and 10) -/

namespace Sys2Proof.Machine

/-! ### The row of a command and its bytes (R167, R168, R187) -/

/-- The port waits for the last byte of these operands. -/
theorem portReady_of_awaitsLast {s : State} {code : Byte} {held : List Byte} (awaits : AwaitsLast s code held)
    (last : Byte) (count : operandCount code = some (held.length + 1)) : portReady s code (held ++ [last]) = true := by
  obtain ⟨-, phase, named, operands⟩ := awaits
  simp [portReady, phase, named, operands, count]

theorem exec_configure {s : State} {record : List Byte} (awaits : AwaitsLast s 0x01#8 record.dropLast)
    (long : record.length = 13) : exec (.configure record) s = .next (settle (respond (takeConfigure record s))) := by
  have some_ : record ≠ [] := List.ne_nil_of_length_pos (by omega)
  have ready := portReady_of_awaitsLast awaits (record.getLast some_) (by simp [long]; rfl)
  rw [List.dropLast_append_getLast] at ready
  exact happen_due (f := fun s => respond (takeConfigure record s)) awaits.1 (by simp [ready, long])

theorem exec_join {s : State} (awaits : AwaitsCode s) : exec .join s = .next (settle (respond (takeJoin s))) :=
  happen_due (f := fun s => respond (takeJoin s)) awaits.1 (portReady_of_awaitsCode awaits _)

theorem exec_leave {s : State} (awaits : AwaitsCode s) : exec .leave s = .next (settle (respond (takeLeaveCommand s))) :=
  happen_due (f := fun s => respond (takeLeaveCommand s)) awaits.1 (portReady_of_awaitsCode awaits _)

theorem exec_restart {s : State} (awaits : AwaitsCode s) : exec .restart s = .next (settle (respond (takeRestart s))) :=
  happen_due (f := fun s => respond (takeRestart s)) awaits.1 (portReady_of_awaitsCode awaits _)

theorem exec_setDemand {s : State} {leg : Byte} {value : U16} (awaits : AwaitsLast s 0x05#8 [leg, value.extractLsb' 8 8]) :
    exec (.setDemand leg value) s = .next (settle (respond (takeSetDemand leg value s))) :=
  happen_due (f := fun s => respond (takeSetDemand leg value s)) awaits.1 (portReady_of_awaitsLast awaits _ rfl)

theorem exec_setEnables {s : State} (awaits : AwaitsLast s 0x06#8 []) (masks : Byte) :
    exec (.setEnables masks) s = .next (settle (respond (takeSetEnables masks s))) :=
  happen_due (f := fun s => respond (takeSetEnables masks s)) awaits.1 (portReady_of_awaitsLast awaits _ rfl)

theorem exec_getStatus {s : State} (awaits : AwaitsCode s) :
    exec .getStatus s = .next (settle (respond (takeGetStatus s))) :=
  happen_due (f := fun s => respond (takeGetStatus s)) awaits.1 (portReady_of_awaitsCode awaits _)

theorem exec_getView {s : State} {which : Byte} (awaits : AwaitsLast s 0x11#8 [which]) (index : Byte) :
    exec (.getView which index) s = .next (settle (respond (takeGetView which index s))) :=
  happen_due (f := fun s => respond (takeGetView which index s)) awaits.1 (portReady_of_awaitsLast awaits _ rfl)

theorem exec_getPeer {s : State} (awaits : AwaitsLast s 0x12#8 []) (index : Byte) :
    exec (.getPeer index) s = .next (settle (respond (takeGetPeer index s))) :=
  happen_due (f := fun s => respond (takeGetPeer index s)) awaits.1 (portReady_of_awaitsLast awaits _ rfl)

theorem exec_getPlan {s : State} (awaits : AwaitsLast s 0x13#8 []) (index : Byte) :
    exec (.getPlan index) s = .next (settle (respond (takeGetPlan index s))) :=
  happen_due (f := fun s => respond (takeGetPlan index s)) awaits.1 (portReady_of_awaitsLast awaits _ rfl)

theorem exec_getChange {s : State} (awaits : AwaitsLast s 0x14#8 []) (index : Byte) :
    exec (.getChange index) s = .next (settle (respond (takeGetChange index s))) :=
  happen_due (f := fun s => respond (takeGetChange index s)) awaits.1 (portReady_of_awaitsLast awaits _ rfl)

/-! #### Bytes -/

/-- The part with a command's code and these operand bytes at its port. -/
def holding (s : State) (code : Byte) (ops : List Byte) : State :=
  { s with hpt := { s.hpt with phase := .operands, code := some code, operands := ops } }

theorem settle_holding {s : State} (settled : Settled s) (code : Byte) (ops : List Byte) :
    settle (holding s code ops) = holding s code ops :=
  (show settle (holding s code ops) = holding (settle s) code ops from rfl).trans (by rw [settled.settle_eq])

/-- The code of a command with operands waits for them. -/
theorem byteComplete_code {s : State} {code : Byte} {n : Nat} (awaits : AwaitsCode s)
    (count : operandCount code = some (n + 1)) : byteComplete code s = holding s code [] := by
  rw [byteComplete_of_code awaits.2, codeByte, count]
  rfl

/-- An operand that is not the last waits for the next. -/
theorem byteComplete_operand {s : State} {code b : Byte} {ops : List Byte} {n : Nat} (count : operandCount code = some n)
    (more : ops.length + 1 < n) : byteComplete b (holding s code ops) = holding s code (ops ++ [b]) := by
  have waits : ¬ (operandCount code).getD 0 ≤ (ops ++ [b]).length := by simp [count]; omega
  exact if_neg waits

/-- The last operand takes the command. -/
theorem byteComplete_last {s : State} {code b : Byte} {ops : List Byte} (count : operandCount code = some (ops.length + 1)) :
    byteComplete b (holding s code ops) = respond (takeCode code (ops ++ [b]) (holding s code ops)) := by
  have full : (operandCount code).getD 0 ≤ (ops ++ [b]).length := by simp [count]
  exact if_pos full

/-- Operands that leave at least one more to come gather at the port. -/
theorem foldl_operands {s : State} {code : Byte} {n : Nat} (released : s.resetAsserted = false) (sel : s.selLow = true)
    (settled : Settled s) (count : operandCount code = some n) (held ops : List Byte) (more : held.length + ops.length < n) :
    ops.foldl (fun t b => nextOr t (exec (.byteComplete b) t)) (holding s code held) = holding s code (held ++ ops) := by
  induction ops generalizing held with
  | nil => simp
  | cons b ops ih =>
    simp only [List.length_cons] at more
    have one : nextOr (holding s code held) (exec (.byteComplete b) (holding s code held)) =
        holding s code (held ++ [b]) := by
      rw [exec_byteComplete (s := holding s code held) released sel, byteComplete_operand count (by omega),
        settle_holding settled]
      rfl
    rw [List.foldl_cons, one, ih _ (by simp; omega)]
    simp

/-- What a host command's row does is what its code and operands spell. -/
theorem exec_of_hostBytes {c : Instr} {code : Byte} {ops : List Byte} {s : State} (spelled : hostBytes c = some (code :: ops))
    (formed : c.wellFormed = true) (released : s.resetAsserted = false) (ready : portReady s code ops = true) :
    exec c s = .next (settle (respond (takeCode code ops s))) := by
  have row : ∀ {due : Bool}, due = true →
      happen s due (fun u => respond (takeCode code ops u)) = .next (settle (respond (takeCode code ops s))) :=
    fun due => happen_due released due
  cases c <;> cases spelled
  case configure =>
    exact happen_due (f := fun s => respond (takeConfigure ops s)) released (by rw [ready]; exact formed)
  case setDemand leg value =>
    rw [takeCode_setDemand]
    exact happen_due (f := fun s => respond (takeSetDemand leg value s)) released ready
  case unknownCode =>
    have unnamed : (operandCount code).isNone = true := formed
    rw [takeCode_of_not_named ((operandCount_eq_none_iff code).mp (Option.isNone_iff_eq_none.mp unnamed))]
    exact happen_due (f := fun s => respond (takeUnknown s)) released (by simp [ready, unnamed])
  all_goals exact row ready

/-- How many operands a command's bytes spell. -/
theorem operandCount_of_hostBytes {c : Instr} {code : Byte} {ops : List Byte} (spelled : hostBytes c = some (code :: ops))
    (formed : c.wellFormed = true) : operandCount code = some ops.length ∨ (ops = [] ∧ operandCount code = none) := by
  cases c <;> cases spelled
  case configure =>
    have long : ops.length = 13 := by simpa [Instr.wellFormed] using formed
    exact .inl (by rw [long]; rfl)
  case unknownCode => exact .inr ⟨rfl, Option.isNone_iff_eq_none.mp formed⟩
  all_goals exact .inl rfl

/-- Settles O25: a code alone is taken at once; operands gather at the port (`foldl_operands`) until the last. -/
theorem bytesTakeTheCommand : Obligations.BytesTakeTheCommand := by
  intro c bytes last s spelled formed settled awaits sel
  have released := awaits.1
  cases bytes with
  | nil =>
    have row := exec_of_hostBytes spelled formed released (portReady_of_awaitsCode awaits last)
    have taken : codeByte last s = respond (takeCode last [] s) := by
      rcases operandCount_of_hostBytes spelled formed with count | ⟨-, count⟩ <;> rw [codeByte, count]
      rfl
    refine ⟨s, rfl, rfl, ?_, _, row, rfl⟩
    rw [row, exec_byteComplete released sel, byteComplete_of_code awaits.2, taken]
  | cons code ops =>
    have count : operandCount code = some (ops.length + 1) := by
      rcases operandCount_of_hostBytes spelled formed with count | ⟨none, -⟩
      · simpa using count
      · simp at none
    have first : nextOr s (exec (.byteComplete code) s) = holding s code [] := by
      rw [exec_byteComplete released sel, byteComplete_code awaits count, settle_holding settled]
      rfl
    have gathered := foldl_operands released sel settled count [] ops (by simp)
    have waits : AwaitsLast (holding s code ops) code ops := ⟨released, rfl, rfl, rfl⟩
    have row := exec_of_hostBytes (s := holding s code ops) spelled formed released
      (portReady_of_awaitsLast waits last (by simpa using count))
    refine ⟨holding s code ops, by rw [List.foldl_cons, first, gathered, List.nil_append], rfl, ?_, _, row, rfl⟩
    rw [row, exec_byteComplete (s := holding s code ops) released sel, byteComplete_last count]
    rfl

/-! ### CONFIGURE (R159 to R163) -/

/-- The tests by their numbers, in order. -/
theorem configTests_eq (record : List Byte) :
    configTests record = (List.range' 1 14).map fun m => (m, configTest record m) := by
  have word := (wordAt record 2).isLt
  simp only [configTests, List.range', List.map, configTest, List.cons.injEq, Prod.mk.injEq, true_and, and_true]
  refine ⟨?_, ?_, ?_, ?_, ?_, ?_, ?_, ?_, ?_, ?_⟩ <;> rw [Bool.eq_iff_iff] <;> simp <;> omega

theorem configTest_of_outside {record : List Byte} {m : Nat} (outside : m = 0 ∨ 14 < m) : configTest record m = true := by
  unfold configTest
  split <;> simp_all

theorem firstFailing_eq (record : List Byte) :
    firstFailing record = (List.range' 1 14).find? fun m => !configTest record m := by
  rw [firstFailing, configTests_eq, List.find?_map, Option.map_map]
  exact Option.map_id'

theorem firstFailing_eq_none_iff (record : List Byte) :
    firstFailing record = none ↔ ∀ m, configTest record m = true := by
  rw [firstFailing_eq, List.find?_eq_none]
  refine ⟨fun passed m => ?_, fun passed m _ => by simp [passed m]⟩
  by_cases inside : 1 ≤ m ∧ m ≤ 14
  · simpa using passed m (by simp [List.mem_range'_1]; omega)
  · exact configTest_of_outside (by omega)

theorem firstFailing_eq_some_iff (record : List Byte) (n : Nat) :
    firstFailing record = some n ↔ configTest record n = false ∧ ∀ m, m < n → configTest record m = true := by
  rw [firstFailing_eq, List.find?_range'_eq_some]
  simp only [Bool.not_eq_true', List.mem_range'_1, Bool.not_not]
  constructor
  · rintro ⟨fails, -, before⟩
    refine ⟨fails, fun m lt => ?_⟩
    by_cases first : 1 ≤ m
    · exact before m first lt
    · exact configTest_of_outside (by omega)
  · rintro ⟨fails, before⟩
    refine ⟨fails, ?_, fun m _ lt => before m lt⟩
    by_contra outside
    rw [configTest_of_outside (by omega)] at fails
    cases fails

/-- Settles O18: the tests in order, and the three branches of CONFIGURE. -/
theorem configureTaken : Obligations.ConfigureTaken := by
  refine ⟨?_, fun record => ⟨firstFailing_eq_none_iff record, firstFailing_eq_some_iff record⟩,
    fun s record awaits long => ⟨fun locked => ?_, fun n unlocked fails => ?_, fun unlocked passes => ?_⟩⟩
  · rintro record c rfl
    have chosen : ∀ {α : Type} (b : Byte) (x y : α), x ≠ y → ((if b = 1 then x else y) = x ↔ b = 1) := by
      intro α b x y apart
      split <;> simp_all [eq_comm]
    exact ⟨rfl, rfl, rfl, rfl, rfl, chosen _ _ _ (by decide), chosen _ _ _ (by decide), rfl, chosen _ _ _ (by decide),
      chosen _ _ _ (by decide), rfl, rfl⟩
  · rw [exec_configure awaits long, takeConfigure, if_pos locked]
    rfl
  · rw [exec_configure awaits long, takeConfigure, if_neg (by simp [unlocked]), fails]
    rfl
  · rw [exec_configure awaits long, takeConfigure, if_neg (by simp [unlocked]), passes]
    rfl

/-! ### JOIN and LEAVE (R47, R48, R58, R65) -/

theorem detachLeft_eq {s : State} (runs : s.mbc.station.running = true) (reason : DetachReason) :
    detachLeft s reason = enterDetached (appended s
      { kind := .left, cycle := some s.cyt.cycle, station := none,
        detail := some { code := reasonCode reason, value := 0 } }) reason := by
  rw [detachLeft, post_eq_appended runs]

theorem alone_iff {s : State} {v : View} (current : s.mbc.current = some v) :
    alone s = true ↔ (∀ m ∈ v.members, m.id = s.cfg.id) ∧
      ∀ p m, s.mbc.pending = some p → m ∈ p.view.members → m.id = s.cfg.id := by
  rw [alone, current, Bool.and_eq_true]
  rcases s.mbc.pending with _ | p
  · simp [listsNoOther, pendingOf]
  · simp only [listsNoOther, pendingOf, Option.map_some, List.all_eq_true, beq_iff_eq, Option.some.injEq]
    exact and_congr_right fun _ => ⟨fun own q m same => same ▸ own m, fun own m => own p m rfl⟩

theorem enterLeaving_eq (s : State) : enterLeaving s =
    { s with
      tli := { s.tli with
        requests := { recast := false, leave := true, hail := false, claim := false }
        flight := s.tli.flight.map fun f => if f.kind = .leave then { f with renewal := true } else f }
      mbc := { s.mbc with station := .leaving, leaveCount := 0, changes := [], backoff := none } } := by
  simp [enterLeaving, postRequest, setStation, Requests.withdraw, Requests.setKind, renew, permitted]

/-- Settles O19: the branches of JOIN and LEAVE by the station state. -/
theorem joinAndLeaveTaken : Obligations.JoinAndLeaveTaken := by
  refine ⟨fun s awaits => ⟨fun other => ?_, fun detached => ?_⟩, fun s awaits => ⟨fun refused => ?_, fun gone => ?_,
    fun v member current => ⟨fun own pendingOwn => ?_, fun others => ?_⟩⟩⟩
  · rw [exec_join awaits, takeJoin, if_neg other]
    rfl
  · rw [exec_join awaits, takeJoin, if_pos detached]
    rfl
  · rw [exec_leave awaits, takeLeaveCommand]
    rcases refused with st | st | st <;> rw [st] <;> rfl
  · rw [exec_leave awaits, takeLeaveCommand]
    rcases gone with st | st | st <;> rw [st] <;> dsimp only <;> rw [detachLeft_eq (by rw [st]; rfl)] <;> rfl
  · rw [exec_leave awaits, takeLeaveCommand, member]
    dsimp only
    rw [if_pos ((alone_iff current).mpr ⟨own, pendingOwn⟩), detachLeft_eq (by rw [member]; rfl)]
    rfl
  · have company : ¬ alone s = true := by
      rw [alone_iff current]
      rintro ⟨own, pendingOwn⟩
      rcases others with ⟨m, listed, other⟩ | ⟨p, m, held, listed, other⟩
      · exact other (own m listed)
      · exact other (pendingOwn p m held listed)
    rw [exec_leave awaits, takeLeaveCommand, member]
    dsimp only
    rw [if_neg company, enterLeaving_eq]
    rfl

/-! ### DETACHED and RESTART (R67, R68, R174) -/

/-- Settles O20: the entry's fields one by one; RESTART adds its own records. -/
theorem restartAndDetachedEntry : Obligations.RestartAndDetachedEntry := by
  refine ⟨fun s reason => rfl, fun s awaits => ⟨fun unconfigured => ?_, fun configured => ?_⟩⟩
  · rw [exec_restart awaits, takeRestart, if_pos unconfigured]
    rfl
  · have cycle : stamp s = if s.mbc.station = .detached then none else some s.cyt.cycle := by
      unfold stamp
      cases hst : s.mbc.station <;> simp_all [Station.running]
    rw [exec_restart awaits, takeRestart, if_neg configured, restarted, cycle]
    rfl

/-! ### SET DEMAND and SET ENABLES (R110, R111, R118, R156) -/

/-- The part with a requested demand written and a configured lease restarted. -/
def redemanded (s : State) (leg : Byte) (value : U16) : State :=
  { s with plu := { s.plu with
      leg0 := if leg = 0 then { s.plu.leg0 with requested := value.toNat } else s.plu.leg0
      leg1 := if leg = 0 then s.plu.leg1 else { s.plu.leg1 with requested := value.toNat }
      lease := if s.cfg.lease = 0 then s.plu.lease else s.cfg.lease * 8 } }

theorem demanded_eq (s : State) (leg : Byte) (value : U16) :
    demanded leg.toNat value.toNat s = claimDueTest (redemanded s leg value) := by
  have zero : leg.toNat = 0 ↔ leg = 0 := (BitVec.toNat_inj (y := 0#8)).trans Iff.rfl
  unfold demanded
  dsimp only
  congr 1
  by_cases h : leg = 0#8 <;> by_cases l : s.cfg.lease = 0 <;> simp [setOwnLeg, ownLeg, redemanded, zero, h, l]

theorem takeSetDemand_accepted {s : State} {leg : Byte} {value : U16} (configured : s.mbc.station ≠ .unconfigured)
    (held : leg.toNat < s.cfg.legs) (room : value.toNat ≤ s.cfg.fp.p) :
    takeSetDemand leg value s = carryOut (claimDueTest (redemanded s leg value)) [] := by
  rw [takeSetDemand, if_neg configured, if_neg (Nat.not_le.mpr held), if_neg (show ¬ s.P < _ from Nat.not_lt.mpr room),
    demanded_eq]

theorem claimDueTest_of_member {s : State} (member : s.mbc.station = .member) (due : ClaimDue s) :
    claimDueTest s = requested s .claim := by
  rw [claimDueTest, if_pos ((claimIsDue_iff s).mpr due), postRequest_eq_requested (by rw [member]; rfl)]

theorem claimDueTest_of_not {s : State} (h : s.mbc.station ≠ .member ∨ ¬ ClaimDue s) : claimDueTest s = s := by
  unfold claimDueTest
  split
  next due =>
    have other := h.resolve_right fun not => not ((claimIsDue_iff s).mp due)
    refine postRequest_of_not ?_
    cases station : s.mbc.station with
    | member => exact absurd station other
    | _ => rfl
  · rfl

theorem enablesByte_eq (e : Enables) :
    enablesByte e = BitVec.ofNat 8 (e.alarm.toNat + 2 * e.membership.toNat + 4 * e.peer.toNat + 8 * e.notice.toNat) := by
  obtain ⟨a, m, p, n⟩ := e
  cases a <;> cases m <;> cases p <;> cases n <;> rfl

/-- Settles O21: the branches of SET DEMAND, with the CLAIM-due test of `ClaimDue`, and the masked write. -/
theorem settingsTaken : Obligations.SettingsTaken := by
  refine ⟨fun s leg value awaits => ⟨fun unconfigured => ?_, fun configured range => ?_,
    fun configured leg_ legs value_ => ⟨redemanded s leg value, rfl, fun member due => ?_, fun not => ?_⟩⟩,
    fun s masks awaits => ⟨s.evq.enables.write masks, rfl, rfl, rfl, rfl, ?_⟩⟩
  · rw [exec_setDemand awaits, takeSetDemand, if_pos unconfigured]
    rfl
  · rw [exec_setDemand awaits, takeSetDemand, if_neg configured]
    by_cases outside : s.cfg.legs ≤ leg.toNat
    · rw [if_pos outside]
      rfl
    · rw [if_neg outside, if_pos (show s.P < _ from range.resolve_left outside)]
      rfl
  · rw [exec_setDemand awaits, takeSetDemand_accepted configured leg_ value_,
      claimDueTest_of_member (s := redemanded s leg value) member due]
    rfl
  · rw [exec_setDemand awaits, takeSetDemand_accepted configured leg_ value_,
      claimDueTest_of_not (s := redemanded s leg value) not]
    rfl
  · rw [exec_setEnables awaits, takeSetEnables, ← enablesByte_eq]
    rfl

/-! ### Readouts (R175 to R180) -/

theorem respond_takeGetView {s : State} {which : Byte} (within : which.toNat ≤ 2) (index : Byte) :
    respond (takeGetView which index s) = respond (readOut s ((heldView s which).bind fun h =>
      (h.1.members[index.toNat]?).map fun m => viewRecord which h.1 h.2 index.toNat m)) := by
  rw [takeGetView, if_neg (by omega)]

theorem heldView_current (s : State) :
    (∀ v, heldView s 0 = some (v, none) ↔ s.mbc.current = some v) ∧ ∀ v c, heldView s 0 ≠ some (v, some c) := by
  cases h : s.mbc.current <;> simp [heldView, h]

theorem heldView_pending (s : State) :
    (∀ v c, heldView s 1 = some (v, some c) ↔ s.mbc.pending = some { view := v, switchCycle := c }) ∧
      ∀ v, heldView s 1 ≠ some (v, none) := by
  rcases h : s.mbc.pending with _ | ⟨_, _⟩ <;> simp [heldView, h]

theorem heldView_observed (s : State) :
    (∀ v c, heldView s 2 = some (v, some c) ↔ s.mbc.observed.pending = some { view := v, switchCycle := c }) ∧
      ∀ v, heldView s 2 ≠ some (v, none) := by
  rcases h : s.mbc.observed.pending with _ | ⟨_, _⟩ <;> simp [heldView, h]

theorem length_legDemandBytes (s : State) (leg : Nat) : (legDemandBytes s leg).length = 6 := by
  unfold legDemandBytes
  split <;> rfl

theorem length_statusRecord (s : State) : (statusRecord s).length = 33 := by
  simp only [statusRecord, List.length_append, length_legDemandBytes]
  rfl

theorem length_changeRecord (count : Nat) (e : ChangeEntry) : (changeRecord count e).length = 8 := by
  rcases e with ⟨_, _ | ⟨_ | _⟩ | _, _⟩ <;> rfl

/-- Settles O22: each readout is the entry at the index, or EMPTY. -/
theorem readoutsTaken : Obligations.ReadoutsTaken := by
  refine fun s => ⟨fun awaits => ⟨exec_getStatus awaits, length_statusRecord s⟩, fun which index awaits => ⟨fun far => ?_,
    ?_, fun within => ⟨fun v c m held at_ => ⟨?_, rfl⟩, fun past => ?_⟩⟩, fun index awaits => ⟨fun p at_ => ⟨?_, rfl⟩, fun past => ?_⟩,
    fun index awaits => ⟨fun p e held at_ => ⟨?_, rfl⟩, fun past => ?_⟩,
    fun index awaits => ⟨fun e at_ => ⟨?_, length_changeRecord _ e⟩, fun past => ?_⟩⟩
  · rw [exec_getView awaits, takeGetView, if_pos far]
    rfl
  · exact ⟨(heldView_current s).1, (heldView_current s).2, (heldView_pending s).1, (heldView_pending s).2,
      (heldView_observed s).1, (heldView_observed s).2⟩
  · rw [exec_getView awaits, respond_takeGetView within, held, Option.bind_some, at_]
    rfl
  · rw [exec_getView awaits, respond_takeGetView within]
    rcases held : heldView s which with _ | ⟨v, c⟩
    · rfl
    · rw [Option.bind_some, List.getElem?_eq_none (past v c held)]
      rfl
  · rw [exec_getPeer awaits, takeGetPeer, at_]
    rfl
  · rw [exec_getPeer awaits, takeGetPeer, List.getElem?_eq_none past]
    rfl
  · rw [exec_getPlan awaits, takeGetPlan, held, Option.bind_some, at_]
    rfl
  · rw [exec_getPlan awaits, takeGetPlan]
    rcases held : s.plu.plan with _ | p
    · rfl
    · rw [Option.bind_some, List.getElem?_eq_none (past p held)]
      rfl
  · rw [exec_getChange awaits, takeGetChange, at_]
    rfl
  · rw [exec_getChange awaits, takeGetChange, List.getElem?_eq_none past]
    rfl

end Sys2Proof.Machine

/-! ## Response bytes (R189, R190), and the port through SEL and RESET (R168 to R171) -/

namespace Sys2Proof.Machine

/-! ### Every byte of the records (R189, R190) -/

/-- A leg's three demands, 0 on one not configured. -/
theorem legDemandBytes_eq (s : State) (leg : Nat) :
    legDemandBytes s leg =
      natBytes (if leg < s.cfg.legs then (ownLeg s leg).requested else 0) ++
      natBytes (if leg < s.cfg.legs then (ownLeg s leg).published else 0) ++
      natBytes (if leg < s.cfg.legs then (ownLeg s leg).published else 0) := by
  unfold legDemandBytes
  split <;> rfl

/-- Four flags in the low half of a byte. -/
theorem getLsbD_flags (b0 b1 b2 b3 : Bool) :
    (natByte (flagAt b0 0 + flagAt b1 1 + flagAt b2 2 + flagAt b3 3)).getLsbD 0 = b0 ∧
    (natByte (flagAt b0 0 + flagAt b1 1 + flagAt b2 2 + flagAt b3 3)).getLsbD 1 = b1 ∧
    (natByte (flagAt b0 0 + flagAt b1 1 + flagAt b2 2 + flagAt b3 3)).getLsbD 2 = b2 ∧
    (natByte (flagAt b0 0 + flagAt b1 1 + flagAt b2 2 + flagAt b3 3)).getLsbD 3 = b3 ∧
    natByte (flagAt b0 0 + flagAt b1 1 + flagAt b2 2 + flagAt b3 3) < 16 := by
  revert b0 b1 b2 b3
  decide

theorem natByte_lt_eight (b0 b1 b2 : Bool) : natByte (flagAt b0 0 + flagAt b1 1 + flagAt b2 2) < 8 := by
  revert b0 b1 b2
  decide

theorem natByte_lt_four (b0 b1 : Bool) : natByte (flagAt b0 0 + flagAt b1 1) < 4 := by
  revert b0 b1
  decide

/-- Eight flags in a byte. -/
theorem getLsbD_eight_flags (b0 b1 b2 b3 b4 b5 b6 b7 : Bool) :
    let b := natByte (flagAt b0 0 + flagAt b1 1 + flagAt b2 2 + flagAt b3 3 + flagAt b4 4 + flagAt b5 5 + flagAt b6 6 +
      flagAt b7 7)
    b.getLsbD 0 = b0 ∧ b.getLsbD 1 = b1 ∧ b.getLsbD 2 = b2 ∧ b.getLsbD 3 = b3 ∧ b.getLsbD 4 = b4 ∧ b.getLsbD 5 = b5 ∧
      b.getLsbD 6 = b6 ∧ b.getLsbD 7 = b7 := by
  revert b0 b1 b2 b3 b4 b5 b6 b7
  decide

theorem quietHold_eq (s : State) : quietHold s = decide (s.plu.claimed = false ∨ 16 ≤ s.plu.age) := by
  cases h : s.plu.claimed <;> simp [quietHold, h]

theorem byteAt_cons_succ (b : Byte) (bs : List Byte) (i : Nat) : byteAt (b :: bs) (i + 1) = byteAt bs i := by
  simp [byteAt]

/-- Settles O23: each record is a list of bytes, words and flag bytes in order. -/
theorem responseBytes : Obligations.ResponseBytes := by
  refine ⟨?_, ?_, ?_, ?_, ?_, ?_⟩
  · rintro s r rfl
    obtain ⟨f0, f1, f2, f3, f4, f5, f6, f7⟩ := getLsbD_eight_flags s.cyt.adopted (lockFlag s) s.sli.stuck s.tli.stuck
      s.plu.complete (quietHold s) s.mbc.current.isSome s.mbc.pending.isSome
    simp only [statusRecord, legDemandBytes_eq, optWord, natBytes, wordBytes, List.cons_append, List.nil_append, wordAt,
      byteAt_cons_succ, byteAt_cons_zero, wordOfBytes_extract, Nat.reduceAdd, true_and]
    refine ⟨?_, ?_, f0, f1, f2, f3, f4, f5.trans (quietHold_eq s), f6, f7, ?_, fun none => ?_,
      fun v held => ?_, fun none => ?_, fun w held => ?_, fun legs => ?_, fun legs => ?_, fun legs => ?_,
      rfl, rfl⟩
    · cases s.mbc.station <;> rfl
    · cases s.mbc.reason <;> rfl
    · cases s.los.latch <;> rfl
    · rw [none]
      exact ⟨rfl, rfl, rfl⟩
    · rw [held]
      exact ⟨rfl, rfl, rfl⟩
    · rw [none]
      exact ⟨rfl, rfl⟩
    · rw [held]
      exact ⟨rfl, rfl⟩
    · have first : 0 < s.cfg.legs := by omega
      simp only [if_pos first]
      exact ⟨rfl, rfl, rfl⟩
    · simp only [legs]
      exact ⟨rfl, rfl, rfl⟩
    · simp only [legs]
      exact ⟨rfl, rfl, rfl⟩
  · rintro which v c i m r rfl
    simp only [viewRecord, fingerprintBytes, optWord, natBytes, wordBytes, List.cons_append, List.nil_append, wordAt,
      byteAt_cons_succ, byteAt_cons_zero, wordOfBytes_extract, Nat.reduceAdd, true_and]
    refine ⟨?_, rfl, rfl, rfl, rfl, rfl, rfl, ?_, rfl, rfl, rfl, ?_, rfl⟩
    · cases c <;> rfl
    · cases v.fp.placement <;> cases v.fp.alignment <;> rfl
    · cases m.new <;> rfl
  · rintro n p r rfl
    obtain ⟨h0, h1, h2, h3, high⟩ := getLsbD_flags p.legs.isSome p.lastEpoch.isSome p.leg0.pending.isSome
      p.leg1.pending.isSome
    obtain ⟨v0, v1, v2, -, -⟩ := getLsbD_flags p.foreign p.leg0.valid p.leg1.valid false
    simp only [peerRecord, legRecordBytes, optWord, natBytes, wordBytes, List.cons_append, List.nil_append, wordAt,
      byteAt_cons_succ, byteAt_cons_zero, wordOfBytes_extract, Nat.reduceAdd, true_and]
    refine ⟨rfl, rfl, ?_, h0, h1, h2, h3, high, rfl, ?_, rfl, v0, v1, v2, natByte_lt_eight _ _ _, ?_⟩
    · cases p.kind <;> rfl
    · cases p.verdict <;> rfl
    · rw [Nat.mul_comm]
  · rintro p e r rfl
    obtain ⟨b0, b1, -, -, -⟩ := getLsbD_flags e.own e.known false false
    simp only [planRecord, natBytes, wordBytes, List.cons_append, List.nil_append, wordAt,
      byteAt_cons_succ, byteAt_cons_zero, wordOfBytes_extract, Nat.reduceAdd, true_and, and_true]
    refine ⟨?_, ?_, rfl, rfl, rfl, rfl, b0, b1, natByte_lt_four _ _⟩
    · split <;> rfl
    · split <;> rfl
  · rintro n e r rfl
    refine ⟨rfl, rfl, ?_, fun legs add => ?_, fun leave => ?_, fun lost => ?_, fun legs refresh => ?_⟩
    · rcases e with ⟨_, _ | ⟨_ | _⟩ | _, _⟩ <;> exact wordOfBytes_extract _
    · rw [changeRecord, add]
      rfl
    · rw [changeRecord, leave]
      rfl
    · rw [changeRecord, lost]
      rfl
    · rw [changeRecord, refresh]
      rfl
  · rintro e r rfl
    obtain ⟨b0, b1, b2, -, -⟩ := getLsbD_flags e.cycle.isSome e.station.isSome e.detail.isSome false
    simp only [eventRecord, eventRank, optWord, natBytes, wordBytes, List.cons_append, List.nil_append, wordAt,
      byteAt_cons_succ, byteAt_cons_zero, wordOfBytes_extract, Nat.reduceAdd, true_and, and_true]
    refine ⟨?_, ?_, b0, b1, b2, natByte_lt_eight _ _ _, rfl, rfl⟩
    · cases e.kind <;> rfl
    · cases e.kind <;> rfl

/-! ### The port through SEL and RESET (R168 to R171) -/

/-- Settles O26: each phase of the port, and the two pins. -/
theorem portAndResetTaken : Obligations.PortAndResetTaken := by
  refine ⟨⟨fun s b released sel => ⟨fun r rest phase held => ⟨?_, ?_⟩, fun rests => ?_⟩,
    fun s released => ⟨fun sel idle => ?_, fun sel => exec_selRise sel⟩⟩, fun s => ⟨rfl, fun reset => ?_⟩⟩
  · simp [sdo, released, phase, held]
  · rw [exec_byteComplete released sel, byteComplete, phase]
    simp only [responseByte, held, List.tail_cons]
  · rw [exec_byteComplete released sel, byteComplete]
    rcases rests with phase | phase | phase <;> rw [phase]
  · rw [exec_selFall sel, selFall, released, idle]
    rfl
  · show Host.Outcome.next (if s.resetAsserted then releaseReset s else s) = _
    rw [if_pos reset]
    rfl

end Sys2Proof.Machine

/-! ## The rows of the lines, the timers and the outputs (chapters 1, 2, 3 and 7) -/

namespace Sys2Proof.Machine

variable {s t : State}

/-! ### A row that is due, and what it does not reach -/

theorem exec_due {c : Instr} {due : State → Bool} {f : State → State} (row : innerRow c = some (due, f))
    (released : s.resetAsserted = false) (isDue : due s = true) : exec c s = .next (settle (f s)) :=
  (exec_of_innerRow row s).trans (happen_due released isDue)

theorem Inside.untouched (h : Inside True s t) : Untouched s t :=
  ⟨h.cfg, h.locked, h.hpt trivial, h.enables, h.resetAsserted, h.selLow, h.pending, h.prescaler⟩

theorem Untouched.settle (h : Untouched s t) : Untouched s (settle t) := { h with }

theorem Untouched.trans {u : State} (h : Untouched s t) (k : Untouched t u) : Untouched s u :=
  ⟨k.cfg.trans h.cfg, k.locked.trans h.locked, k.port.trans h.port, k.enables.trans h.enables, k.reset.trans h.reset,
    k.sel.trans h.sel, k.queue.trans h.queue, k.prescaler.trans h.prescaler⟩

/-! ### Entries into the station states, field by field -/

theorem withdraw_eq_empty (r : Requests) {st : Station} (none : ∀ k, permitted st k = false) :
    r.withdraw st = Requests.empty := by
  simp [Requests.withdraw, none, Requests.empty]

theorem enterListening_eq (s : State) : enterListening s =
    { s with
      cyt := { s.cyt with adopted := false, lockCount := 0 }
      sli := { s.sli with markerActive := false, markerLeft := 0 }
      tli := { s.tli with requests := Requests.empty }
      mbc := { s.mbc with station := .listening, listenCount := 0, current := none, pending := none,
                          observed := Observed.empty, changes := [], backoff := none } } := by
  rw [← withdraw_eq_empty s.tli.requests (st := .listening) (by rintro ⟨⟩ <;> rfl)]
  rfl

theorem enterAligning_eq (s : State) : enterAligning s =
    { s with
      cyt := { s.cyt with adopted := false, lockCount := 0 }
      sli := { s.sli with markerActive := false, markerLeft := 0 }
      tli := { s.tli with requests := Requests.empty }
      mbc := { s.mbc with station := .aligning, alignCount := 0, current := none, pending := none,
                          observed := Observed.empty, changes := [], backoff := none } } := by
  rw [← withdraw_eq_empty s.tli.requests (st := .aligning) (by rintro ⟨⟩ <;> rfl)]
  rfl

/-- Outside MEMBER and LEAVING a coherent part holds no view, no change and no backoff timer. -/
theorem Coherent.outside (h : Coherent s) (outside : s.mbc.station.inGroup = false) :
    s.mbc.current = none ∧ s.mbc.pending = none ∧ s.mbc.changes = [] ∧ s.mbc.backoff = none := by
  have other : s.mbc.station ≠ .member := by
    rintro is
    rw [is] at outside
    cases outside
  refine ⟨?_, h.sound.noPending outside, h.sound.noChanges other, h.sound.noBackoff other⟩
  rw [← Option.isNone_iff_eq_none, ← Option.not_isSome, h.current, outside]
  rfl

/-! ### Markers and SYNC stuck (R15, R17, R18) -/

theorem syncStuckDue_of (runs : s.mbc.station.running = true) (long : s.cfg.fp.p ≤ s.sli.stuckCount)
    (clear : s.sli.stuck = false) : syncStuckDue s = true := by
  have long : s.P ≤ s.sli.stuckCount := long
  simp [syncStuckDue, runs, long, clear]

/-- Settles O33: `syncStuck` by the station state, with the equation of the entry to LISTENING. -/
theorem syncLineTaken : Obligations.SyncLineTaken := by
  refine ⟨fun s released active ended => ?_, ?_⟩
  · have due : markerEndDue s = true := by simp [markerEndDue, active, ended]
    exact exec_due (c := .markerEnd) rfl released due
  · rintro s u ⟨released, runs⟩ long clear rfl
    have row : exec .syncStuck s = .next (settle (syncStuck s)) := exec_due rfl released (syncStuckDue_of runs long clear)
    have posted := post_eq_appended (s := { s with sli := { s.sli with stuck := true } }) runs .syncFault none none
    have untouched : Untouched s (settle (syncStuck s)) := (inside_syncStuck s).untouched.settle
    refine ⟨fun st => ?_, fun st => ?_, fun st => ⟨_, row, ?_⟩⟩
    · rw [row, syncStuck, st, posted]
    · rw [row, syncStuck, st, posted]
      exact congrArg (fun r => Host.Outcome.next (settle r)) (detachLeft_eq (s := appended _ _) (by exact runs) _)
    · rcases st with st | st | st
      · have taken : syncStuck s = enterListening (post { s with sli := { s.sli with stuck := true } } .syncFault none none) := by rw [syncStuck, st]
        rw [taken, posted, enterListening_eq] at untouched ⊢
        exact ⟨rfl, rfl, rfl, rfl, rfl, rfl, rfl, rfl, rfl, rfl, rfl, rfl, untouched, rfl, rfl, rfl, rfl,
          fun member => absurd (st.symm.trans member) (by decide), fun _ => ⟨rfl, rfl⟩⟩
      · have taken : syncStuck s = enterListening (post { s with sli := { s.sli with stuck := true } } .syncFault none none) := by rw [syncStuck, st]
        rw [taken, posted, enterListening_eq] at untouched ⊢
        exact ⟨rfl, rfl, rfl, rfl, rfl, rfl, rfl, rfl, rfl, rfl, rfl, rfl, untouched, rfl, rfl, rfl, rfl,
          fun member => absurd (st.symm.trans member) (by decide), fun _ => ⟨rfl, rfl⟩⟩
      · have taken : syncStuck s = enterListening (demotePeers (clearPlan (post { s with sli := { s.sli with stuck := true } } .syncFault none none))) := by rw [syncStuck, st]; rfl
        rw [taken, posted, enterListening_eq] at untouched ⊢
        exact ⟨rfl, rfl, rfl, rfl, rfl, rfl, rfl, rfl, rfl, rfl, rfl, rfl, untouched, rfl, rfl, rfl, rfl,
          fun _ => ⟨rfl, rfl, rfl⟩, fun other => absurd st other⟩

/-! ### Timers (R53 to R55, R60, R91, R115, R118, R119) -/

theorem expireLease_eq (member : s.mbc.station = .member) : expireLease s = claimDueTest (appended
    { s with plu := { s.plu with lease := 0, leg0 := { s.plu.leg0 with requested := 0 }
                                 leg1 := { s.plu.leg1 with requested := 0 } } }
    { kind := .leaseExpired, cycle := some s.cyt.cycle, station := none
      detail := some { code := 0, value := s.cfg.lease } }) := by
  unfold expireLease
  dsimp only
  rw [post_eq_appended (by exact member ▸ rfl)]

/-- Settles O37: each timer at its end. -/
theorem timersTaken : Obligations.TimersTaken := by
  refine ⟨⟨fun s released coherent => ⟨fun st count => ?_, fun st count => ?_⟩,
    fun s released st interval => ⟨fun few => ?_, fun four => ?_⟩⟩,
    fun s released st => ⟨fun zero => ?_, fun age claimed clear other => ?_⟩, ?_⟩
  · have due : alignTimeoutDue s = true := by simp [alignTimeoutDue, st, count]
    obtain ⟨current, pendingView, changes, backoff⟩ := coherent.outside (by rw [st]; rfl)
    rw [exec_due (c := .alignTimeout) rfl released due, alignTimeout, post_eq_appended (by rw [st]; rfl), enterListening_eq,
      appended, appended, ← current, ← pendingView, ← changes, ← backoff]
  · have due : leaveTimeoutDue s = true := by simp [leaveTimeoutDue, st, count]
    rw [exec_due (c := .leaveTimeout) rfl released due, detachLeft_eq (by rw [st]; rfl)]
    rfl
  · have due : hailIntervalDue s = true := by simp [hailIntervalDue, st, interval]
    rw [exec_due (c := .hailInterval) rfl released due, hailInterval, if_pos few,
      postRequest_eq_requested (by exact st ▸ rfl)]
  · have due : hailIntervalDue s = true := by simp [hailIntervalDue, st, interval]
    rw [exec_due (c := .hailInterval) rfl released due, hailInterval, if_neg (by omega), four,
      post_eq_appended (by rw [st]; rfl)]
  · have due : backoffExpiryDue s = true := by simp [backoffExpiryDue, st, zero]
    rw [exec_due (c := .backoffExpiry) rfl released due, backoffExpiry, postRequest_eq_requested (by exact st ▸ rfl)]
  · have flight : flightOf s .claim = false := by
      cases hf : s.tli.flight with
      | none => simp [flightOf, hf]
      | some f => simpa [flightOf, hf] using other f hf
    have due : heartbeatDue s = true := by simp [heartbeatDue, st, age, claimed, clear, flight]
    have same : renew s.tli.flight .claim = s.tli.flight := by
      cases hf : s.tli.flight with
      | none => rfl
      | some f => simp [renew, other f hf]
    rw [exec_due (c := .heartbeat) rfl released due, postRequest, if_pos (by rw [st]; rfl), same]
    rfl
  · rintro s u released st begun counting lease rfl
    have due : leaseExpiryDue s = true := by simp [leaseExpiryDue, st, begun, counting, lease]
    have row : exec .leaseExpiry s = _ := exec_due rfl released due
    rw [row, expireLease_eq st]
    have zero : ∀ (q : Prop) [Decidable q], (if q then { s.plu.leg0 with requested := 0 }
        else { s.plu.leg1 with requested := 0 } : OwnLeg).requested = 0 := fun q _ => by split <;> rfl
    refine ⟨fun put => ?_, fun put => ?_⟩
    · obtain ⟨leg, n, held, last, some_⟩ := put
      rw [claimDueTest_of_member (by exact st)]
      refine ⟨leg, n, held, ?_, by exact (zero (leg = 0)).symm ▸ some_⟩
      rw [lastPut_spec] at last ⊢
      rw [last]
      by_cases first : leg = 0 <;> simp [lastPut, ownLeg, lastPut.settledPut, first, appended]
    · rw [claimDueTest_of_not (.inr ?_)]
      rintro ⟨leg, n, held, last, some_⟩
      refine some_ ((put leg n held ?_).trans (zero (leg = 0)).symm)
      rw [lastPut_spec] at last ⊢
      rw [last]
      by_cases first : leg = 0 <;> simp [lastPut, ownLeg, lastPut.settledPut, first, appended]

/-! ### Marks (R22, R24, R26 to R28, R33) -/

/-- Settles O41: `talkMark` in each phase of the assembler. -/
theorem talkMarkTaken : Obligations.TalkMarkTaken := by
  rintro s marked ⟨released, runs⟩ high rfl
  have row : exec .talkMark s = .next (settle (talkMark s)) := exec_due rfl released (by simp [runs, high])
  have veto := inVetoCell_iff s
  refine ⟨fun phase idle clear silent => ?_, fun phase short => ?_,
    fun phase late => ⟨fun other => ?_, fun at_ => ?_⟩, fun phase early => ⟨fun other => ?_, fun at_ => ?_⟩,
    fun phase => ⟨fun other => ?_, fun sending at_ => ?_⟩⟩ <;> rw [row, talkMark, phase] <;> dsimp only
  · have asks : ¬ (s.tli.requests.any = true ∧ s.tli.flight = none) := by
      rintro ⟨asked, -⟩
      rw [silent] at asked
      cases asked
    rw [if_pos ⟨idle, clear⟩, if_neg asks]
    rfl
  · have waits : ¬ (s.TB ≤ s.tli.idle ∧ s.tli.stuck = false) := by
      rintro ⟨idle, clear⟩
      rcases short with short | stuck
      · exact Nat.not_le.mpr short idle
      · rw [clear] at stuck
        cases stuck
    rw [if_neg waits]
    rfl
  · rw [if_neg (show ¬ s.tli.rx.tick + 1 ≤ s.TB / 2 from Nat.not_le.mpr late), if_neg (veto.not.mpr other)]
    rfl
  · rw [if_neg (show ¬ s.tli.rx.tick + 1 ≤ s.TB / 2 from Nat.not_le.mpr late), if_pos (veto.mpr at_)]
    rfl
  · rw [if_pos (show s.tli.rx.tick + 1 ≤ s.TB / 2 from early), if_neg (veto.not.mpr other)]
    rfl
  · rw [if_pos (show s.tli.rx.tick + 1 ≤ s.TB / 2 from early), if_pos (veto.mpr at_)]
    rfl
  · have goes : ¬ (s.tli.flight.isSome && inVetoCell s) = true := by
      rw [Bool.and_eq_true]
      rintro ⟨sending, at_⟩
      rcases other with none | other
      · rw [none] at sending
        cases sending
      · exact other (veto.mp at_)
    rw [if_neg goes]
    rfl
  · have ends : (s.tli.flight.isSome && inVetoCell s) = true := by
      rw [veto.mpr at_, Bool.and_true, Option.isSome_iff_ne_none]
      exact sending
    rw [if_pos ends]
    rfl

/-! ### Faults of frames (R27 to R29, R34 to R36, R38, R41, R66) -/

theorem countFailure_eq (runs : s.mbc.station.running = true) : countFailure s = afterFailure s := by
  unfold countFailure afterFailure
  dsimp only
  by_cases few : s.tli.failures < 15
  · rw [if_neg (by omega), if_pos few]
  · rw [if_pos (by omega), if_neg few, post_eq_appended (by exact runs)]
    rfl

theorem drivenBit_of_cell {f : Flight} {cell : Nat} {b : Bool}
    (driven : (frameCells f.kind s.cfg.id f.payload)[cell]? = some b) : drivenBit s f cell = b := by
  simp [drivenBit, flightCells, List.getD, driven]

theorem frameComplete_iff (s : State) : frameComplete s = true ↔ s.tli.rx.phase = .receiving ∧
    14 ≤ s.tli.rx.bits.length ∧ s.tli.rx.bits.length = vetoCell (readLength s.tli.rx.bits) + 1 ∧
      s.cfg.fp.tb < s.tli.rx.tick := by
  simp only [frameComplete, vetoEnded, Bool.and_eq_true, beq_iff_eq, decide_eq_true_eq, and_assoc]
  rfl

theorem longHighDue_of (runs : s.mbc.station.running = true) (long : s.cfg.fp.tb ≤ s.tli.idle)
    (where_ : s.tli.rx.phase = .faulted ∨ (s.tli.rx.phase = .receiving ∧ s.cfg.fp.tb ≤ s.tli.rx.tick ∧ ¬ AtVeto s)) :
    longHighDue s = true := by
  have veto := inVetoCell_iff s
  have long : s.TB ≤ s.tli.idle := long
  rcases where_ with phase | ⟨phase, tick, other⟩
  · simp [longHighDue, runs, long, phase]
  · have tick : s.TB ≤ s.tli.rx.tick := tick
    have other : inVetoCell s = false := by simpa using veto.not.mpr other
    simp [longHighDue, runs, long, phase, tick, other]

/-- The assembler after a long high: WAITING, with the fault it has found. -/
theorem longHigh_rx (s : State) :
    (if s.tli.rx.phase = .receiving then s.tli.rx.fail .longHigh else s.tli.rx).ended =
      { Rx.idle with fault := if s.tli.rx.phase = .receiving then some .longHigh else s.tli.rx.fault } := by
  split <;> rfl

theorem frameVoidedDue_of_read (runs : s.mbc.station.running = true) (complete : frameComplete s = true)
    (zero : s.tli.rx.lastBit = some false) : frameVoidedDue s = true := by
  simp [frameVoidedDue, runs, complete, zero]

/-- Settles O44: each finding of the sample at a sender and at a receiver. -/
theorem talkFaultsTaken : Obligations.TalkFaultsTaken := by
  refine ⟨⟨?_, ?_⟩, ?_, ?_⟩
  · rintro s f ⟨released, runs⟩ flight first last zero driven
    have due : arbitrationLostDue s = true := by
      simp [arbitrationLostDue, runs, flight, first, last, zero, drivenBit_of_cell driven]
    exact exec_due (c := .arbitrationLost) rfl released due
  · rintro s f ⟨released, runs⟩ flight
    have sending : s.tli.flight.isSome = true := by rw [flight]; rfl
    refine ⟨fun found => ?_, fun phase cell ended => ?_, fun phase long all ended zero => ?_, fun where_ long => ?_⟩
    · have due : bitErrorDue s = true := by
        rcases found with ⟨cell, one⟩ | ⟨b, past, before, driven, read⟩ | ⟨phase, before, fault⟩
        · simp [bitErrorDue, runs, flight, cell, one]
        · simp [bitErrorDue, runs, flight, past, before, read, drivenBit_of_cell driven]
        · rcases fault with fault | fault | fault <;> simp [bitErrorDue, runs, flight, phase, fault, isFraming, before]
      rw [exec_due (c := .bitError) rfl released due, countFailure_eq runs]
    · have ended : s.TB < s.tli.rx.tick := ended
      have due : frameVoidedDue s = true := by simp [frameVoidedDue, runs, flight, phase, inVetoCell, cell, vetoEnded, ended]
      rw [exec_due (c := .frameVoided) rfl released due, voidFrame, if_pos sending, if_neg (by simp [phase]),
        countFailure_eq runs]
    · have due := frameVoidedDue_of_read runs ((frameComplete_iff s).mpr ⟨phase, long, all, ended⟩) zero
      rw [exec_due (c := .frameVoided) rfl released due, voidFrame, if_pos sending, if_pos phase,
        countFailure_eq (by exact runs)]
    · have at_ : ∀ cell : Nat, s.tli.rx.cell = cell → cell ≠ vetoCell f.payload.length → ¬ AtVeto s := by
        rintro _ rfl other (⟨g, held, is⟩ | ⟨none, -⟩)
        · rw [flight] at held
          cases held
          exact other is
        · rw [flight] at none
          cases none
      have due := longHighDue_of runs long (where_.imp_right fun ⟨phase, tick, cell⟩ => ⟨phase, tick, at_ _ rfl cell⟩)
      rw [exec_due (c := .longHighFault) rfl released due, longHigh]
      dsimp only
      rw [if_pos sending, countFailure_eq (by exact runs), longHigh_rx]
  · rintro s ⟨released, runs⟩
    refine ⟨fun phase long => ?_, fun quiet => ⟨fun where_ long => ?_, fun phase long all ended zero => ?_⟩⟩
    · have long : s.TB ≤ s.tli.stuckCount := long
      have due : longLowDue s = true := by simp [longLowDue, runs, phase, long]
      exact exec_due (c := .longLowFault) rfl released due
    · rw [exec_due (c := .longHighFault) rfl released (longHighDue_of runs long where_), longHigh]
      dsimp only
      rw [if_neg (by simp [quiet]), longHigh_rx]
    · have due := frameVoidedDue_of_read runs ((frameComplete_iff s).mpr ⟨phase, long, all, ended⟩) zero
      rw [exec_due (c := .frameVoided) rfl released due, voidFrame, if_neg (by simp [quiet]), if_pos phase]
  · rintro s ⟨released, runs⟩ long clear
    have long : 16 * s.TB ≤ s.tli.stuckCount := long
    have due : talkStuckDue s = true := by simp [talkStuckDue, runs, long, clear]
    rw [exec_due (c := .talkStuck) rfl released due, talkStuck, post_eq_appended (by exact runs)]
    rfl

/-! ### The outputs (R133 to R135, R138, R141) -/

theorem outLevel_of_latch {leg : Nat} (locked : s.locked = true) (latch : s.los.latch ≠ .clear) :
    outLevel s leg = .inactive := by
  have shut : legGate s leg = false := by
    rw [← Bool.not_eq_true, legGate_iff]
    exact fun gate => latch gate.2.2.1
  simp [outLevel, locked, shut]

/-- Settles O60: the gate of `legGate_iff` on the pins. -/
theorem outputStageTaken : Obligations.OutputStageTaken := by
  refine ⟨fun s => ⟨?_, ?_⟩, ⟨fun s released old => ?_, ?_⟩, fun s u released locked => ⟨?_, ?_⟩⟩
  · show pinLevel s.cfg.polarity0 s.los.out0 = _
    cases s.los.out0 <;> cases s.cfg.polarity0 <;> rfl
  · show pinLevel s.cfg.polarity1 s.los.out1 = _
    cases s.los.out1 <;> cases s.cfg.polarity1 <;> rfl
  · have row : exec .quietHoldOn s = .next (settle (holdQuiet s)) := exec_due rfl released (by simp [quietHoldOnDue, old])
    have hold : quietHold (holdQuiet s) = true := by simp [quietHold, holdQuiet, old]
    have shut : ∀ leg, outLevel (holdQuiet s) leg ≠ .active := by
      intro leg active
      obtain ⟨-, gate⟩ := (outLevel_active_iff _ _).mp active
      have young := ((legGate_iff _ _).mp gate).2.2.2.1.2
      exact Nat.not_le.mpr young old
    have only : ∀ b, quietHold (holdQuiet s) = b → settle (holdQuiet s) =
        { s with
          los := { s.los with quiet := b, out0 := (settle (holdQuiet s)).los.out0, out1 := (settle (holdQuiet s)).los.out1 }
          evq := { s.evq with irqLow := (settle (holdQuiet s)).evq.irqLow } } := by
      rintro _ rfl
      rfl
    exact ⟨_, row, hold, shut 0, shut 1, only true hold⟩
  · intro s w released locked legs member clear claimed young placed open_ current first inside
    have row : exec .windowEdge s = .next (settle s) := exec_due (c := .windowEdge) rfl released locked
    have gate : legGate s 0 = true ↔ w.start ≤ s.cyt.position ∧ s.cyt.position < w.start + w.grant := by
      have position : positionOpen s 0 = true ↔ w.start ≤ s.cyt.position ∧ s.cyt.position < w.start + w.grant := by
        rw [positionOpen_iff, current]
        simp [previousWindow, first, inside]
      rw [legGate_iff, position]
      exact ⟨fun ⟨_, _, _, _, _, _, at_⟩ => at_, fun at_ => ⟨legs, member, clear, ⟨claimed, young⟩, placed, open_, at_⟩⟩
    refine ⟨_, row, fun from_ to_ => (outLevel_active_iff s 0).mpr ⟨locked, gate.mpr ⟨from_, to_⟩⟩, fun out => ?_, rfl⟩
    have shut : legGate s 0 = false := by
      rw [← Bool.not_eq_true, gate]
      omega
    show outLevel s 0 = .inactive
    simp [outLevel, locked, shut]
  · rintro latch rfl
    have row : exec .faultAsserted s = .next (settle (faultAsserted s)) :=
      exec_due rfl released (by simp [faultAssertedDue, locked, latch])
    exact ⟨row, outLevel_of_latch (s := faultAsserted s) locked (by exact Latch.noConfusion),
      outLevel_of_latch (s := faultAsserted s) locked (by exact Latch.noConfusion)⟩
  · rintro latch rfl
    have row : exec .faultReleased s = .next (settle (faultReleased s)) :=
      exec_due rfl released (by simp [faultReleasedDue, locked, latch])
    exact ⟨row, outLevel_of_latch (s := faultReleased s) locked (by exact Latch.noConfusion),
      outLevel_of_latch (s := faultReleased s) locked (by exact Latch.noConfusion)⟩

end Sys2Proof.Machine

/-! ## Rank, backoff and placing in the change list (R87 to R91) -/

namespace Sys2Proof.Machine

section
variable {s t : State}

/-! ### Rank and backoff -/

/-- The model's rank is the one R90 says: the stations of the current view that come before the station. -/
theorem rankIs_rank {v : View} (current : s.mbc.current = some v) : RankIs s (rank s) := by
  refine ⟨v, current, ?_⟩
  simp only [rank, rankOthers, current, List.filter_map, List.length_map, List.filter_filter]
  refine congrArg (fun q => (List.filter q v.members).length) (funext fun m => ?_)
  have lost : peerIsLost s.peers m.id = (findPeer s.peers m.id).any (fun p => p.kind == .lost) := by
    unfold peerIsLost
    cases findPeer s.peers m.id <;> rfl
  have removed : hasRemove s.mbc.changes m.id = s.mbc.changes.any (fun e => e.id == m.id && (match e.change with
      | .remove _ => true
      | .add _ => false
      | .refresh _ => false)) :=
    congrArg (List.any s.mbc.changes) (funext fun e => by cases e.change <;> rfl)
  simp only [Function.comp, lost, removed]
  by_cases before : m.id < s.cfg.id
  · simp [before, beq_eq_false_iff_ne.mpr before.ne] <;> rfl
  · simp [before]

theorem RankIs.congr {n : Nat} (h : RankIs s n) (current : t.mbc.current = s.mbc.current) (cfg : t.cfg = s.cfg)
    (peers : t.peers = s.peers) (changes : t.mbc.changes = s.mbc.changes) : RankIs t n := by
  unfold RankIs
  rw [current, cfg, peers, changes]
  exact h

theorem setBackoff_changes (s : State) : (setBackoff s).mbc.changes = s.mbc.changes := by
  unfold setBackoff
  split
  · unfold postRequest
    split <;> rfl
  · rfl

theorem setBackoff_records (s : State) : (setBackoff s).evq.records = s.evq.records := by
  unfold setBackoff
  split
  · unfold postRequest
    split <;> rfl
  · rfl

/-- Setting the timer in MEMBER sets it as R91 says. -/
theorem backoffSet_setBackoff {v : View} (member : s.mbc.station = .member) (current : s.mbc.current = some v) :
    BackoffSet s.tli.requests (setBackoff s) := by
  have moved := confined_setBackoff s
  refine ⟨rank s, (rankIs_rank current).congr moved.current moved.cfg moved.peers (setBackoff_changes s), ?_, ?_⟩
  · intro first
    rw [setBackoff, if_pos first, postRequest, if_pos (by simp [member, permitted])]
    exact ⟨rfl, rfl⟩
  · intro later
    rw [setBackoff, if_neg later.ne']
    exact ⟨rfl, rfl⟩

/-- The station flight of a part without a frame in flight stays absent. -/
theorem setBackoff_flight (silent : s.tli.flight = none) : (setBackoff s).tli.flight = none := by
  unfold setBackoff
  split
  · unfold postRequest
    split
    · simp [silent, renew]
    · exact silent
  · exact silent

/-! ### Placing -/

/-- A full list holds an ADD or a REFRESH: the oldest is found with only REMOVEs before it, and goes. -/
theorem oldestAdd {held : List ChangeEntry} {old : ChangeEntry} (found : held.find? isAddOrRefresh = some old) :
    ∃ older newer, held = older ++ old :: newer ∧ dropOldestAdd held = older ++ newer ∧
      (∀ x ∈ older, ∃ c, x.change = .remove c) ∧ ∀ c, old.change ≠ .remove c := by
  induction held with
  | nil => cases found
  | cons e held ih =>
    by_cases goes : isAddOrRefresh e = true
    · obtain rfl : e = old := by simpa [goes] using found
      refine ⟨[], held, rfl, by simp [dropOldestAdd, goes], by simp, fun c kept => ?_⟩
      simp [isAddOrRefresh, kept] at goes
    · obtain ⟨older, newer, rfl, dropped, removes, other⟩ := ih (by simpa [goes] using found)
      refine ⟨e :: older, newer, rfl, by simp [dropOldestAdd, goes, dropped], ?_, other⟩
      refine List.forall_mem_cons.mpr ⟨?_, removes⟩
      cases kind : e.change with
      | remove c => exact ⟨c, rfl⟩
      | add legs => simp [isAddOrRefresh, kind] at goes
      | refresh legs => simp [isAddOrRefresh, kind] at goes

theorem find?_isAddOrRefresh {held : List ChangeEntry} (some_ : ∃ x ∈ held, ∀ c, x.change ≠ .remove c) :
    ∃ old, held.find? isAddOrRefresh = some old := by
  obtain ⟨x, hx, other⟩ := some_
  refine Option.isSome_iff_exists.mp (List.find?_isSome.mpr ⟨x, hx, ?_⟩)
  cases kind : x.change with
  | remove c => exact absurd kind (other c)
  | add legs => simp [isAddOrRefresh, kind]
  | refresh legs => simp [isAddOrRefresh, kind]

/-- The entry that the change `change` of the station `id` makes at the present cycle. -/
def changeNow (s : State) (id : Nat) (change : Change) : ChangeEntry :=
  { id := id, change := change, trigger := s.cyt.cycle }

/-- Appending: the list grows by the entry, a list that was empty sets the backoff timer, and nothing is posted. -/
structure Appends (s : State) (kept : List ChangeEntry) (e : ChangeEntry) (t : State) : Prop where
  changes : t.mbc.changes = kept ++ [e]
  records : t.evq.records = s.evq.records
  later : s.mbc.changes ≠ [] → t.mbc.backoff = s.mbc.backoff ∧ t.tli.requests = s.tli.requests
  first : s.mbc.changes = [] → BackoffSet s.tli.requests t

theorem appends_appendChange {v : View} (member : s.mbc.station = .member) (current : s.mbc.current = some v)
    (kept : List ChangeEntry) (id : Nat) (change : Change) :
    Appends s kept (changeNow s id change) (appendChange s kept id change) := by
  by_cases empty : s.mbc.changes = []
  · rw [appendChange, if_pos (by simp [empty])]
    exact ⟨setBackoff_changes _, setBackoff_records _, fun held => absurd empty held,
      fun _ => backoffSet_setBackoff (s := { s with mbc.changes := kept ++ [changeNow s id change] }) member current⟩
  · rw [appendChange, if_neg (by simp [empty])]
    exact ⟨rfl, rfl, fun _ => ⟨rfl, rfl⟩, fun none_ => absurd none_ empty⟩

/-- The change list has a place for a change of the station: room, an entry of its own, or, for a REMOVE, an ADD or
REFRESH that goes; an ADD or REFRESH without a place is refused. -/
def Placeable (held : List ChangeEntry) (id : Nat) (change : Change) : Prop :=
  (∃ cause, change = .remove cause) →
    held.length < 16 ∨ ∃ x ∈ held, x.id = id ∨ ∀ c, x.change ≠ .remove c

theorem Appends.placedIn {kept : List ChangeEntry} {e : ChangeEntry} (appends : Appends s kept e t)
    (moved : Confined s t) (placed : Placed s.mbc.changes e (kept ++ [e]) none) : PlacedIn s.evq.records s t e where
  list := ⟨none, appends.changes ▸ placed, fun _ => appends.records, by simp⟩
  rest := moved.mbc
  later := appends.later
  first := appends.first

/-- A change of a station with an entry takes that entry's place at the end. -/
theorem placeChange_of_held {id : Nat} (held : ∃ x ∈ s.mbc.changes, x.id = id) (change : Change) :
    placeChange s id change = appendChange s (s.mbc.changes.filter (fun e => !(e.id == id))) id change := by
  unfold placeChange
  exact if_pos (by simpa using held)

/-- A change of a station without an entry is appended where there is room. -/
theorem placeChange_of_room {id : Nat} (absent : ∀ x ∈ s.mbc.changes, x.id ≠ id) (room : s.mbc.changes.length < 16)
    (change : Change) : placeChange s id change = appendChange s s.mbc.changes id change := by
  unfold placeChange
  exact (if_neg (by simpa using absent)).trans (if_pos room)

/-- A full list refuses an ADD or a REFRESH. -/
theorem placeChange_refused {id : Nat} {change : Change} (absent : ∀ x ∈ s.mbc.changes, x.id ≠ id)
    (full : ¬ s.mbc.changes.length < 16) (adds : ∀ c, change ≠ .remove c) :
    placeChange s id change = refuseHail s id true := by
  unfold placeChange
  refine (if_neg (by simpa using absent)).trans ((if_neg full).trans ?_)
  cases change with
  | remove c => exact absurd rfl (adds c)
  | add legs => rfl
  | refresh legs => rfl

/-- In a full list a REMOVE displaces the oldest ADD or REFRESH. -/
theorem placeChange_displaces {id : Nat} {cause : RemoveCause} {old : ChangeEntry}
    (absent : ∀ x ∈ s.mbc.changes, x.id ≠ id) (full : ¬ s.mbc.changes.length < 16)
    (found : s.mbc.changes.find? isAddOrRefresh = some old) :
    placeChange s id (.remove cause) =
      appendChange (refuseHail s old.id true) (dropOldestAdd s.mbc.changes) id (.remove cause) := by
  unfold placeChange
  refine (if_neg (by simpa using absent)).trans ((if_neg full).trans ?_)
  simp only [found]

/-- A HAIL_REFUSED(FULL) of a running station. -/
theorem refuseHail_full (runs : s.mbc.station.running = true) (id : Nat) :
    refuseHail s id true = appended s (about s.cyt.cycle .hailRefused id 1) := post_eq_appended runs ..

/-- Placing a change in MEMBER does what R87, R88 and R91 say. -/
theorem placedIn_placeChange {v : View} {id : Nat} {change : Change} (member : s.mbc.station = .member)
    (current : s.mbc.current = some v) (place : Placeable s.mbc.changes id change) :
    PlacedIn s.evq.records s (placeChange s id change) (changeNow s id change) := by
  have runs : s.mbc.station.running = true := by rw [member]; rfl
  by_cases held : ∃ x ∈ s.mbc.changes, x.id = id
  · rw [placeChange_of_held held]
    exact (appends_appendChange member current _ id change).placedIn (confined_appendChange ..) (.replaced held)
  have absent : ∀ x ∈ s.mbc.changes, x.id ≠ id := by simpa using held
  by_cases room : s.mbc.changes.length < 16
  · rw [placeChange_of_room absent room]
    exact (appends_appendChange member current _ id change).placedIn (confined_appendChange ..) (.appended absent room)
  have full : 16 ≤ s.mbc.changes.length := by omega
  have nonempty : s.mbc.changes ≠ [] := fun empty => room (by simp [empty])
  by_cases adds : ∀ c, change ≠ .remove c
  · rw [placeChange_refused absent room adds, refuseHail_full runs]
    refine ⟨⟨some id, .refused absent full adds, by simp, ?_⟩, rfl, fun _ => ⟨rfl, rfl⟩,
      fun empty => absurd empty nonempty⟩
    rintro _ ⟨⟩
    rfl
  · obtain ⟨c, rfl⟩ : ∃ c, change = .remove c := by simpa using adds
    obtain ⟨old, found⟩ : ∃ old, s.mbc.changes.find? isAddOrRefresh = some old := by
      refine find?_isAddOrRefresh ?_
      obtain little | ⟨x, hx, same | other⟩ := place ⟨c, rfl⟩
      · exact absurd little room
      · exact absurd same (absent x hx)
      · exact ⟨x, hx, other⟩
    obtain ⟨older, newer, whole, dropped, removes, goes⟩ := oldestAdd found
    have moved := confined_placeChange s id (.remove c)
    have appends := appends_appendChange (s := refuseHail s old.id true) member current (older ++ newer) id (.remove c)
    rw [placeChange_displaces absent room found, dropped] at moved ⊢
    refine ⟨⟨some old.id, ?_, by simp, ?_⟩, moved.mbc, appends.later, appends.first⟩
    · rw [appends.changes]
      exact .displaced whole absent full rfl removes goes
    · rintro _ ⟨⟩
      rw [appends.records, refuseHail_full runs]
      rfl

theorem appendChange_flight (silent : s.tli.flight = none) (kept : List ChangeEntry) (id : Nat) (change : Change) :
    (appendChange s kept id change).tli.flight = none := by
  unfold appendChange
  dsimp only
  split
  · exact setBackoff_flight silent
  · exact silent

/-- Placing leaves no frame in flight where there was none. -/
theorem placeChange_flight (silent : s.tli.flight = none) (id : Nat) (change : Change) :
    (placeChange s id change).tli.flight = none := by
  unfold placeChange
  dsimp only
  split
  · exact appendChange_flight silent ..
  · split
    · exact appendChange_flight silent ..
    · split
      · split
        next old _ => exact appendChange_flight (s := refuseHail s old.id true) silent ..
        · exact appendChange_flight silent ..
      · exact silent

/-- With no frame in flight, what is confined to the change list moves the requests of the line alone. -/
theorem Confined.tli_silent (moved : Confined s t) (silent : s.tli.flight = none) (still : t.tli.flight = none) :
    t.tli = { s.tli with requests := t.tli.requests } := by
  have line := moved.tli
  rw [still] at line
  rw [line, ← silent]

/-! ### The loss and the purge of a peer -/

theorem peerLostDue_of {id : Nat} {p : Peer} (grouped : s.mbc.station.inGroup = true) (found : findPeer s.peers id = some p)
    (kind : p.kind = .member) (overdue : 32 ≤ p.silence) : peerLostDue s id = true := by
  simp [peerLostDue, grouped, found, isOverdue, kind, overdue]

/-- The record of a lost peer and its entry. -/
theorem markLost_eq {p : Peer} (runs : s.mbc.station.running = true) : markLost s p = appended
    { s with peers := updatePeer s.peers p.id (fun q => { q with kind := .lost }) }
    (about s.cyt.cycle .peerLost p.id p.silence) :=
  post_eq_appended (s := { s with peers := updatePeer s.peers p.id (fun q => { q with kind := .lost }) }) runs ..

theorem losePeer_eq {id : Nat} {p : Peer} (runs : s.mbc.station.running = true) (found : findPeer s.peers id = some p) :
    losePeer s id = placeLost (appended
      { s with peers := updatePeer s.peers id (fun q => { q with kind := .lost }) }
      (about s.cyt.cycle .peerLost id p.silence)) id := by
  obtain ⟨-, rfl⟩ := findPeer_some found
  rw [← markLost_eq runs]
  simp only [losePeer, found]

end

/-! ### The obligation of a peer's loss -/

/-- Settles O56: the row PEER_LOST places what `placedIn_placeChange` says, the row PEER_PURGE removes the entry. -/
theorem peerLossTaken : Obligations.PeerLossTaken := by
  unfold Obligations.PeerLossTaken
  intro s id p released found
  refine ⟨?_, ?_, ?_⟩
  · intro kind overdue leaving
    have runs : s.mbc.station.running = true := by rw [leaving]; rfl
    rw [exec_due (c := .peerLost id) rfl released (peerLostDue_of (by rw [leaving]; rfl) found kind overdue),
      losePeer_eq runs found, placeLost, if_neg (by rw [appended]; simp [leaving])]
    rfl
  · intro kind overdue member empty
    have runs : s.mbc.station.running = true := by rw [member]; rfl
    let marked := appended { s with peers := updatePeer s.peers id (fun q => { q with kind := .lost }) }
      (about s.cyt.cycle .peerLost id p.silence)
    have taken : losePeer s id = appendChange marked [] id (.remove .lost) := by
      rw [losePeer_eq runs found, placeLost, if_pos (show marked.mbc.station = .member from member),
        placeChange_of_room (by simp [appended, empty]) (by simp [appended, empty])]
      simp only [appended, empty, marked]
    have whole := exec_due (c := .peerLost id) rfl released
      (peerLostDue_of (by rw [member]; rfl) found kind overdue)
    rw [taken] at whole
    have moved := confined_appendChange marked [] id (.remove .lost)
    refine ⟨_, whole, moved.peers, ?_, moved.current, moved.pendingView, moved.station.trans member, ?_, moved.cyt,
      moved.plu, moved.sli, ?_⟩
    · unfold appendChange
      simp only [settle_mbc]
      split
      · exact setBackoff_changes _
      · rfl
    · unfold appendChange
      simp only [settle_records]
      split
      · exact setBackoff_records _
      · rfl
    · exact taken ▸ (inside_losePeer s id).untouched.settle
  · intro kind silent runs begun
    have due : peerPurgeDue s id = true := by simp [peerPurgeDue, runs, begun, found, isPurgeable, kind, silent]
    exact exec_due (c := .peerPurge id) rfl released due

end Sys2Proof.Machine

/-! ## The walk of the change list and the building of a RECAST (R92, R93) -/

namespace Sys2Proof.Machine

/-! ### Member lists in ascending id -/

/-- The entry of a station in a member list. -/
def seat (ms : List Member) (id : Nat) : Option Member := ms.find? (fun m => m.id == id)

theorem lists_eq_isSome (ms : List Member) (id : Nat) : lists ms id = (seat ms id).isSome := by
  rw [lists, seat, Bool.eq_iff_iff, List.any_eq_true, List.find?_isSome]

theorem lists_iff {ms : List Member} {id : Nat} : lists ms id = true ↔ ∃ m ∈ ms, m.id = id := by simp [lists]

theorem lists_eq_false_iff {ms : List Member} {id : Nat} : lists ms id = false ↔ ∀ m ∈ ms, m.id ≠ id := by simp [lists]

theorem seat_some {ms : List Member} {id : Nat} {m : Member} (h : seat ms id = some m) : m ∈ ms ∧ m.id = id :=
  ⟨List.mem_of_find?_eq_some h, by simpa using List.find?_some h⟩

theorem seat_of_mem {ms : List Member} {m : Member} (ascending : (ms.map (·.id)).Pairwise (· < ·)) (held : m ∈ ms) :
    seat ms m.id = some m := by
  induction ms with
  | nil => cases held
  | cons n ms ih =>
    obtain ⟨first, rest⟩ := List.pairwise_cons.mp (List.map_cons ▸ ascending)
    rcases List.mem_cons.mp held with rfl | held
    · simp [seat]
    · have before : n.id ≠ m.id := (first m.id (List.mem_map_of_mem held)).ne
      simpa [seat, before] using ih rest held

@[simp] theorem length_insertMember (ms : List Member) (m : Member) : (insertMember ms m).length = ms.length + 1 := by
  induction ms with
  | nil => rfl
  | cons n ms ih =>
    unfold insertMember
    split <;> simp [ih]

theorem legTotal_insertMember (ms : List Member) (m : Member) : legTotal (insertMember ms m) = legTotal ms + m.legs := by
  induction ms with
  | nil => simp [insertMember, legTotal]
  | cons n ms ih =>
    unfold insertMember
    simp only [legTotal, List.map_cons, List.sum_cons] at ih ⊢
    split
    · simp only [List.map_cons, List.sum_cons]
      omega
    · simp only [List.map_cons, List.sum_cons, ih]
      omega

/-- A new member takes the place between the lower and the higher ids. -/
theorem insertMember_eq {ms : List Member} {m : Member} (ascending : (ms.map (·.id)).Pairwise (· < ·))
    (absent : ∀ n ∈ ms, n.id ≠ m.id) :
    insertMember ms m = ms.filter (fun n => decide (n.id < m.id)) ++ m :: ms.filter (fun n => decide (m.id < n.id)) := by
  induction ms with
  | nil => rfl
  | cons r ms ih =>
    obtain ⟨first, rest⟩ := List.pairwise_cons.mp (List.map_cons ▸ ascending)
    have other : r.id ≠ m.id := absent r List.mem_cons_self
    unfold insertMember
    split
    next before =>
      have higher : ∀ n ∈ r :: ms, m.id < n.id := List.forall_mem_cons.mpr
        ⟨before, fun n hn => before.trans (first n.id (List.mem_map_of_mem hn))⟩
      rw [List.filter_eq_nil_iff.mpr (by simpa using fun n hn => (higher n hn).le),
        List.filter_eq_self.mpr (by simpa using higher), List.nil_append]
    next after =>
      have lower : r.id < m.id := by omega
      rw [ih rest fun n hn => absent n (List.mem_cons_of_mem r hn)]
      simp [lower, after]

theorem insertMember_ascending {ms : List Member} {m : Member} (ascending : (ms.map (·.id)).Pairwise (· < ·))
    (absent : ∀ n ∈ ms, n.id ≠ m.id) : ((insertMember ms m).map (·.id)).Pairwise (· < ·) := by
  rw [insertMember_eq ascending absent]
  simp only [List.pairwise_map] at ascending ⊢
  refine List.pairwise_append.mpr ⟨ascending.filter _, List.pairwise_cons.mpr ⟨?_, ascending.filter _⟩, ?_⟩
  · intro n hn
    simpa using (List.mem_filter.mp hn).2
  · intro a ha b hb
    have lower : a.id < m.id := by simpa using (List.mem_filter.mp ha).2
    rcases List.mem_cons.mp hb with rfl | hb
    · exact lower
    · exact lower.trans (by simpa using (List.mem_filter.mp hb).2)

theorem seat_insertMember {ms : List Member} {m : Member} (absent : seat ms m.id = none) (id : Nat) :
    seat (insertMember ms m) id = if id = m.id then some m else seat ms id := by
  induction ms with
  | nil =>
    by_cases same : id = m.id
    · simp [insertMember, seat, same]
    · simp [insertMember, seat, same, Ne.symm same]
  | cons r ms ih =>
    have split_ : r.id ≠ m.id ∧ seat ms m.id = none := by simpa [seat] using absent
    have rest := ih split_.2
    unfold insertMember
    split
    · by_cases same : id = m.id
      · simp [seat, same]
      · simp [seat, same, Ne.symm same]
    · by_cases first : r.id = id
      · have other : id ≠ m.id := first ▸ split_.1
        simp [seat, first, other]
      · simpa [seat, first] using rest

theorem seat_removed (ms : List Member) (gone id : Nat) :
    seat (ms.filter (fun m => !(m.id == gone))) id = if id = gone then none else seat ms id := by
  unfold seat
  rw [List.find?_filter]
  by_cases same : id = gone
  · subst same
    simp
  · rw [if_neg same]
    refine congrArg (List.find? · ms) (funext fun m => ?_)
    by_cases is : m.id = id
    · simp [is, same]
    · simp [is]

theorem seat_setLegs (ms : List Member) (changed legs id : Nat) :
    seat (setLegs ms changed legs) id =
      (seat ms id).map (fun m => if m.id = changed then { m with legs := legs } else m) := by
  have same : ((fun m : Member => m.id == id) ∘ fun m => if m.id = changed then { m with legs := legs } else m) =
      fun m => m.id == id := by
    funext m
    simp only [Function.comp]
    split <;> rfl
  rw [seat, setLegs, List.find?_map, same]
  rfl

theorem setLegs_map_id (ms : List Member) (id legs : Nat) : (setLegs ms id legs).map (·.id) = ms.map (·.id) := by
  simp only [setLegs, List.map_map]
  refine List.map_congr_left fun m _ => ?_
  simp only [Function.comp]
  split <;> rfl

theorem fits_iff {ms : List Member} : fits ms = true ↔ ms.length ≤ 16 ∧ legTotal ms ≤ 16 := by simp [fits]

theorem fits_insertMember (ms : List Member) (m : Member) :
    fits (insertMember ms m) = true ↔ ms.length + 1 ≤ 16 ∧ legTotal ms + m.legs ≤ 16 := by
  rw [fits_iff, length_insertMember, legTotal_insertMember]

theorem legTotal_filter_le (ms : List Member) (q : Member → Bool) : legTotal (ms.filter q) ≤ legTotal ms :=
  List.Sublist.sum_le_sum (List.filter_sublist.map Member.legs) fun _ _ => Nat.zero_le _

/-! ### One entry of the walk, cell by cell -/

/-- An entry that asks for a station with a number of legs. -/
def Asks (e : ChangeEntry) (legs : Nat) : Prop := e.change = .add legs ∨ e.change = .refresh legs

/-- The member that an entry inserts. -/
def inserted (e : ChangeEntry) (legs : Nat) : Member := { id := e.id, legs := legs, new := false }

section
variable {w : Walk} {e : ChangeEntry} {legs : Nat}

theorem walkEntry_unlisted (asks : Asks e legs) (unlisted : lists w.members e.id = false) :
    walkEntry w e = walkAdd w e legs := by
  obtain kind | kind := asks <;> simp [walkEntry, kind, unlisted]

theorem walkEntry_inserted (asks : Asks e legs) (unlisted : lists w.members e.id = false)
    (room : w.members.length + 1 ≤ 16 ∧ legTotal w.members + legs ≤ 16) :
    walkEntry w e = { w with members := insertMember w.members (inserted e legs), kept := w.kept ++ [e] } := by
  rw [walkEntry_unlisted asks unlisted, walkAdd]
  exact if_pos ((fits_insertMember _ _).mpr room)

theorem walkEntry_noRoom (asks : Asks e legs) (unlisted : lists w.members e.id = false)
    (full : ¬ (w.members.length + 1 ≤ 16 ∧ legTotal w.members + legs ≤ 16)) :
    walkEntry w e = { w with dropped := w.dropped ++ [e.id] } := by
  rw [walkEntry_unlisted asks unlisted, walkAdd]
  exact if_neg fun h => full ((fits_insertMember _ _).mp h)

theorem walkEntry_addListed (kind : e.change = .add legs) (listed : lists w.members e.id = true) : walkEntry w e = w := by
  simp [walkEntry, kind, listed]

theorem walkEntry_removed {cause : RemoveCause} (kind : e.change = .remove cause) (listed : lists w.members e.id = true) :
    walkEntry w e = { w with members := w.members.filter (fun m => !(m.id == e.id)), kept := w.kept ++ [e] } := by
  simp [walkEntry, kind, listed]

theorem walkEntry_removeUnlisted {cause : RemoveCause} (kind : e.change = .remove cause)
    (unlisted : lists w.members e.id = false) : walkEntry w e = w := by
  simp [walkEntry, kind, unlisted]

theorem walkEntry_refreshed (kind : e.change = .refresh legs) (listed : lists w.members e.id = true) :
    walkEntry w e =
      { w with
        members := if legTotal (setLegs w.members e.id legs) ≤ 16 then setLegs w.members e.id legs else w.members
        kept := w.kept ++ [e]
        refresh := true } := by
  simp [walkEntry, kind, listed]

/-- What one entry does to a walk, by the cells of R92's table. -/
inductive WalkStep (w : Walk) (e : ChangeEntry) : Walk → Prop
  | inserted {legs : Nat} : Asks e legs → lists w.members e.id = false → w.members.length + 1 ≤ 16 →
      legTotal w.members + legs ≤ 16 →
      WalkStep w e { w with members := insertMember w.members (inserted e legs), kept := w.kept ++ [e] }
  | noRoom {legs : Nat} : Asks e legs → lists w.members e.id = false →
      16 < w.members.length + 1 ∨ 16 < legTotal w.members + legs →
      WalkStep w e { w with dropped := w.dropped ++ [e.id] }
  | addListed {legs : Nat} : e.change = .add legs → lists w.members e.id = true → WalkStep w e w
  | removed {cause : RemoveCause} : e.change = .remove cause → lists w.members e.id = true →
      WalkStep w e { w with members := w.members.filter (fun m => !(m.id == e.id)), kept := w.kept ++ [e] }
  | removeUnlisted {cause : RemoveCause} : e.change = .remove cause → lists w.members e.id = false → WalkStep w e w
  | refreshed {legs : Nat} : e.change = .refresh legs → lists w.members e.id = true →
      WalkStep w e { w with
        members := if legTotal (setLegs w.members e.id legs) ≤ 16 then setLegs w.members e.id legs else w.members
        kept := w.kept ++ [e]
        refresh := true }

theorem walkStep_asks (asks : Asks e legs) (unlisted : lists w.members e.id = false) : WalkStep w e (walkEntry w e) := by
  by_cases room : w.members.length + 1 ≤ 16 ∧ legTotal w.members + legs ≤ 16
  · rw [walkEntry_inserted asks unlisted room]
    exact .inserted asks unlisted room.1 room.2
  · rw [walkEntry_noRoom asks unlisted room]
    exact .noRoom asks unlisted (by omega)

theorem walkStep (w : Walk) (e : ChangeEntry) : WalkStep w e (walkEntry w e) := by
  cases listed : lists w.members e.id with
  | true =>
    cases kind : e.change with
    | add legs =>
      rw [walkEntry_addListed kind listed]
      exact .addListed kind listed
    | remove cause =>
      rw [walkEntry_removed kind listed]
      exact .removed kind listed
    | refresh legs =>
      rw [walkEntry_refreshed kind listed]
      exact .refreshed kind listed
  | false =>
    cases kind : e.change with
    | add legs => exact walkStep_asks (.inl kind) listed
    | remove cause =>
      rw [walkEntry_removeUnlisted kind listed]
      exact .removeUnlisted kind listed
    | refresh legs => exact walkStep_asks (.inr kind) listed

end

/-! ### The whole walk -/

theorem walkChanges_snoc (base : List Member) (es : List ChangeEntry) (e : ChangeEntry) :
    walkChanges base (es ++ [e]) = walkEntry (walkChanges base es) e := by
  simp [walkChanges]

theorem WalkStep.ascending {w u : Walk} {e : ChangeEntry} (step : WalkStep w e u)
    (ascending : (w.members.map (·.id)).Pairwise (· < ·)) : (u.members.map (·.id)).Pairwise (· < ·) := by
  cases step with
  | inserted asks unlisted => exact insertMember_ascending ascending (lists_eq_false_iff.mp unlisted)
  | noRoom => exact ascending
  | addListed => exact ascending
  | removed => exact ascending.sublist (List.filter_sublist.map _)
  | removeUnlisted => exact ascending
  | @refreshed legs =>
    dsimp only
    split
    · rw [setLegs_map_id]
      exact ascending
    · exact ascending

/-- The walk keeps the list in ascending id. -/
theorem walkChanges_ascending {base : List Member} (ascending : (base.map (·.id)).Pairwise (· < ·))
    (es : List ChangeEntry) : ((walkChanges base es).members.map (·.id)).Pairwise (· < ·) := by
  induction es using List.reverseRecOn with
  | nil => exact ascending
  | append_singleton es e ih =>
    rw [walkChanges_snoc]
    exact (walkStep _ e).ascending ih

theorem WalkStep.fits {w u : Walk} {e : ChangeEntry} (step : WalkStep w e u) (room : fits w.members = true) :
    fits u.members = true := by
  rw [fits_iff] at room
  cases step with
  | inserted asks unlisted stations legs => exact (fits_insertMember _ _).mpr ⟨stations, legs⟩
  | noRoom => exact fits_iff.mpr room
  | addListed => exact fits_iff.mpr room
  | removed => exact fits_iff.mpr ⟨(List.length_filter_le ..).trans room.1, (legTotal_filter_le ..).trans room.2⟩
  | removeUnlisted => exact fits_iff.mpr room
  | @refreshed legs =>
    dsimp only
    split
    next total => exact fits_iff.mpr ⟨by simpa [setLegs] using room.1, total⟩
    · exact fits_iff.mpr room

/-- The walk stays within 16 stations and 16 legs. -/
theorem walkChanges_fits {base : List Member} (room : fits base = true) (es : List ChangeEntry) :
    fits (walkChanges base es).members = true := by
  induction es using List.reverseRecOn with
  | nil => exact room
  | append_singleton es e ih =>
    rw [walkChanges_snoc]
    exact (walkStep _ e).fits ih

/-- An entry moves no other station in the list. -/
theorem WalkStep.seat_other {w u : Walk} {e : ChangeEntry} (step : WalkStep w e u) {id : Nat} (other : e.id ≠ id) :
    seat u.members id = seat w.members id := by
  cases step with
  | inserted asks unlisted =>
    have absent : seat w.members e.id = none := by simpa [lists_eq_isSome] using unlisted
    exact (seat_insertMember (m := Machine.inserted e _) absent id).trans (if_neg other.symm)
  | noRoom => rfl
  | addListed => rfl
  | removed => exact (seat_removed ..).trans (if_neg other.symm)
  | removeUnlisted => rfl
  | @refreshed legs =>
    dsimp only
    split
    · rw [seat_setLegs]
      cases found : seat w.members id with
      | none => rfl
      | some m => simp [(seat_some found).2, other.symm]
    · rfl

theorem foldl_walkEntry_seat {es : List ChangeEntry} {id : Nat} (others : ∀ e ∈ es, e.id ≠ id) (w : Walk) :
    seat (es.foldl walkEntry w).members id = seat w.members id := by
  induction es generalizing w with
  | nil => rfl
  | cons e es ih =>
    obtain ⟨first, rest⟩ := List.forall_mem_cons.mp others
    exact (ih rest _).trans ((walkStep w e).seat_other first)

/-- A station without an entry stands in the list as in the base. -/
theorem seat_walkChanges {base : List Member} {es : List ChangeEntry} {id : Nat} (others : ∀ e ∈ es, e.id ≠ id) :
    seat (walkChanges base es).members id = seat base id := foldl_walkEntry_seat others _

theorem foldl_walkEntry_kept (es : List ChangeEntry) (w : Walk) (e : ChangeEntry) (absent : e ∉ es) :
    e ∈ (es.foldl walkEntry w).kept ↔ e ∈ w.kept := by
  induction es generalizing w with
  | nil => rfl
  | cons x es ih =>
    obtain ⟨first, rest⟩ := List.ne_and_not_mem_of_not_mem_cons absent
    rw [List.foldl_cons, ih _ rest]
    rcases walkEntry_kept w x with h | h <;> simp [h, first]

/-- The walk at an entry of a list with one entry for each station: before it the station stands as in the base and the
entry is not kept, and nothing after it moves either. -/
theorem walk_at_entry (base : List Member) {es : List ChangeEntry} (distinct : (es.map (·.id)).Nodup) {e : ChangeEntry}
    (held : e ∈ es) : ∃ w u, WalkStep w e u ∧ seat w.members e.id = seat base e.id ∧ e ∉ w.kept ∧
      seat (walkChanges base es).members e.id = seat u.members e.id ∧ (e ∈ (walkChanges base es).kept ↔ e ∈ u.kept) := by
  obtain ⟨before, after, rfl⟩ := List.append_of_mem held
  rw [List.map_append, List.map_cons] at distinct
  obtain ⟨-, rest, apart⟩ := List.nodup_append.mp distinct
  have beforeOther : ∀ x ∈ before, x.id ≠ e.id := fun x hx =>
    apart x.id (List.mem_map_of_mem hx) e.id List.mem_cons_self
  have afterOther : ∀ x ∈ after, x.id ≠ e.id := fun x hx same =>
    (List.nodup_cons.mp rest).1 (same ▸ List.mem_map_of_mem hx)
  have split_ : walkChanges base (before ++ e :: after) = after.foldl walkEntry (walkEntry (walkChanges base before) e) := by
    simp [walkChanges]
  refine ⟨walkChanges base before, _, walkStep _ e, seat_walkChanges beforeOther, ?_, ?_, ?_⟩
  · exact fun kept => beforeOther e ((walkChanges_kept_sublist base before).subset kept) rfl
  · rw [split_]
    exact foldl_walkEntry_seat afterOther _
  · rw [split_]
    exact foldl_walkEntry_kept after _ e fun again => afterOther e again rfl

/-! ### The walk and R92's relation -/

/-- The walk is one that R92's table makes. -/
theorem walked_walkChanges {base : List Member} (ascending : (base.map (·.id)).Pairwise (· < ·))
    (es : List ChangeEntry) :
    Walked base es (walkChanges base es).members (walkChanges base es).kept (walkChanges base es).dropped
      (walkChanges base es).refresh := by
  induction es using List.reverseRecOn with
  | nil => exact .start
  | append_singleton es e ih =>
    have order := walkChanges_ascending ascending es
    have step := walkStep (walkChanges base es) e
    rw [walkChanges_snoc]
    generalize walkEntry (walkChanges base es) e = u at step ⊢
    cases step with
    | inserted asks unlisted stations legs =>
      dsimp only
      rw [insertMember_eq order (lists_eq_false_iff.mp unlisted)]
      exact .inserted ih asks unlisted stations legs
    | noRoom asks unlisted full => exact .noRoom ih asks unlisted full
    | addListed kind listed => exact .addListed ih kind listed
    | removed kind listed => exact .removed ih kind listed
    | removeUnlisted kind unlisted => exact .removeUnlisted ih kind unlisted
    | refreshed kind listed => exact .refreshed ih kind listed rfl

/-- R92's table makes no other walk. -/
theorem Walked.eq {base : List Member} (ascending : (base.map (·.id)).Pairwise (· < ·)) {es : List ChangeEntry}
    {ms : List Member} {kept : List ChangeEntry} {dropped : List Nat} {refresh : Bool}
    (h : Walked base es ms kept dropped refresh) :
    walkChanges base es = { members := ms, kept := kept, dropped := dropped, refresh := refresh } := by
  induction h with
  | start => rfl
  | @inserted es ms _ _ _ e legs _ asks unlisted stations total ih =>
    have order := walkChanges_ascending ascending es
    rw [ih] at order
    rw [walkChanges_snoc, ih, walkEntry_inserted asks unlisted ⟨stations, total⟩,
      insertMember_eq order (lists_eq_false_iff.mp unlisted)]
    rfl
  | noRoom _ asks unlisted full ih =>
    rw [walkChanges_snoc, ih]
    exact walkEntry_noRoom asks unlisted (by dsimp only; omega)
  | addListed _ kind listed ih =>
    rw [walkChanges_snoc, ih]
    exact walkEntry_addListed kind listed
  | removed _ kind listed ih =>
    rw [walkChanges_snoc, ih]
    exact walkEntry_removed kind listed
  | removeUnlisted _ kind unlisted ih =>
    rw [walkChanges_snoc, ih]
    exact walkEntry_removeUnlisted kind unlisted
  | refreshed _ kind listed changed ih =>
    rw [walkChanges_snoc, ih, changed]
    exact walkEntry_refreshed kind listed

end Sys2Proof.Machine

/-! ## What a built RECAST carries (R92, R93) -/

namespace Sys2Proof.Machine

section
variable {s : State}

/-- The part once a build has walked the change list: the entries that stay, the timer of an emptied list absent, and a
HAIL_REFUSED(FULL) for each station dropped (R91, R92). -/
def builtPart (s : State) (w : Walk) : State :=
  { s with
    mbc := { s.mbc with changes := w.kept, backoff := if w.kept = [] then none else s.mbc.backoff }
    evq := { s.evq with
      records := w.dropped.foldl (fun q id => arrive q
        { kind := .hailRefused, cycle := if s.mbc.station.running then some s.cyt.cycle else none,
          station := some id, detail := some { code := 1, value := 0 } }) s.evq.records } }

theorem foldl_refuseHail (ids : List Nat) (s : State) :
    ids.foldl (fun t id => refuseHail t id true) s =
      { s with evq := { s.evq with
        records := ids.foldl (fun q id => arrive q
          { kind := .hailRefused, cycle := if s.mbc.station.running then some s.cyt.cycle else none,
            station := some id, detail := some { code := 1, value := 0 } }) s.evq.records } } := by
  induction ids generalizing s with
  | nil => rfl
  | cons id ids ih => exact ih (refuseHail s id true)

theorem clearBackoffIfEmpty_eq (s : State) : clearBackoffIfEmpty s =
    { s with mbc := { s.mbc with backoff := if s.mbc.changes = [] then none else s.mbc.backoff } } := by
  unfold clearBackoffIfEmpty
  split <;> rfl

theorem builtPart_eq (s : State) (w : Walk) :
    clearBackoffIfEmpty { w.dropped.foldl (fun t id => refuseHail t id true) s with mbc.changes := w.kept } =
      builtPart s w := by
  rw [foldl_refuseHail, clearBackoffIfEmpty_eq]
  rfl

/-- The content of a RECAST that carries this list (R93). -/
def recastOf (s : State) (base : View) (ms : List Member) : RecastContent :=
  { epoch := base.epoch + 1, switchCycle := s.cyt.cycle + 4, fp := s.cfg.fp, count := ms.length
    members := ms.map (fun m => { m with new := !listedIn s.mbc.current m.id }) }

/-- The list has other stations or leg counts than the base, or carries a refresh (R93). -/
def Differs (base : List Member) (w : Walk) : Prop :=
  w.refresh = true ∨ w.members.map (fun m => (m.id, m.legs)) ≠ base.map (fun m => (m.id, m.legs))

theorem buildRecast_differing {base : View} (based : baseView s = some base)
    (differs : Differs base.members (walkChanges base.members s.mbc.changes)) :
    buildRecast s = (builtPart s (walkChanges base.members s.mbc.changes),
      some (recastOf s base (walkChanges base.members s.mbc.changes).members)) := by
  simp only [buildRecast, based, builtPart_eq]
  refine (if_neg ?_).trans rfl
  obtain refresh | other := differs
  · simp [refresh]
  · simp [sameMembership, other]

theorem buildRecast_same {base : View} (based : baseView s = some base)
    (same : ¬ Differs base.members (walkChanges base.members s.mbc.changes)) :
    buildRecast s = ({ builtPart s (walkChanges base.members s.mbc.changes) with
      tli := { s.tli with requests := { s.tli.requests with recast := false } } }, none) := by
  simp only [Differs, not_or, Bool.not_eq_true, ne_eq, not_not] at same
  simp only [buildRecast, based, builtPart_eq]
  exact (if_pos (by simp [sameMembership, same])).trans rfl

/-- A build gives a RECAST exactly where its list differs. -/
theorem buildRecast_some {base : View} (based : baseView s = some base) {t : State} {r : RecastContent}
    (built : buildRecast s = (t, some r)) : t = builtPart s (walkChanges base.members s.mbc.changes) ∧
      r = recastOf s base (walkChanges base.members s.mbc.changes).members := by
  by_cases differs : Differs base.members (walkChanges base.members s.mbc.changes)
  · rw [buildRecast_differing based differs] at built
    simpa [eq_comm] using built
  · rw [buildRecast_same based differs] at built
    simp at built

theorem buildRecast_none {base : View} (based : baseView s = some base) {t : State} (built : buildRecast s = (t, none)) :
    t = { builtPart s (walkChanges base.members s.mbc.changes) with
      tli := { s.tli with requests := { s.tli.requests with recast := false } } } := by
  by_cases differs : Differs base.members (walkChanges base.members s.mbc.changes)
  · rw [buildRecast_differing based differs] at built
    simp at built
  · rw [buildRecast_same based differs] at built
    simpa [eq_comm] using built

/-! ### The list carried -/

theorem recastOf_lists (s : State) (base : View) (ms : List Member) (id : Nat) :
    lists (recastOf s base ms).members id = lists ms id := by
  simp [lists, recastOf, List.any_map, Function.comp_def]

theorem recastOf_legTotal (s : State) (base : View) (ms : List Member) :
    legTotal (recastOf s base ms).members = legTotal ms := by
  simp [legTotal, recastOf, List.map_map, Function.comp_def]

theorem recastOf_member (s : State) (base : View) {ms : List Member} {id : Nat} {m : Member} (found : seat ms id = some m) :
    ∃ x ∈ (recastOf s base ms).members, x.id = id ∧ x.legs = m.legs := by
  obtain ⟨held, same⟩ := seat_some found
  exact ⟨_, List.mem_map_of_mem held, same, rfl⟩

section
variable {base : List Member} {es : List ChangeEntry} {e : ChangeEntry}

/-- What a walk makes of an ADD (R92). -/
theorem walk_add (distinct : (es.map (·.id)).Nodup) (held : e ∈ es) {legs : Nat} (kind : e.change = .add legs) :
    (lists base e.id = true → e ∉ (walkChanges base es).kept ∧ lists (walkChanges base es).members e.id = true) ∧
    (lists base e.id = false →
      (e ∈ (walkChanges base es).kept → ∃ m, seat (walkChanges base es).members e.id = some m ∧ m.legs = legs) ∧
      (e ∉ (walkChanges base es).kept → lists (walkChanges base es).members e.id = false)) := by
  obtain ⟨w, u, step, before, fresh, after, kept⟩ := walk_at_entry base distinct held
  simp only [lists_eq_isSome, kept, after, ← before] at *
  cases step with
  | @inserted legs' asks unlisted =>
    obtain rfl : legs = legs' := by simpa [Asks, kind] using asks
    have absent : seat w.members e.id = none := by simpa [lists_eq_isSome] using unlisted
    have placed := seat_insertMember (m := inserted e legs) absent e.id
    simp only [inserted, if_true] at placed
    simp [absent, inserted, placed]
  | noRoom asks unlisted =>
    have absent : seat w.members e.id = none := by simpa [lists_eq_isSome] using unlisted
    simp [absent, fresh]
  | addListed _ listed => simp_all [lists_eq_isSome]
  | removed other => simp [kind] at other
  | removeUnlisted other => simp [kind] at other
  | refreshed other => simp [kind] at other

/-- What a walk makes of a REFRESH (R92). -/
theorem walk_refresh (distinct : (es.map (·.id)).Nodup) (held : e ∈ es) {legs : Nat} (kind : e.change = .refresh legs) :
    (lists base e.id = true → e ∈ (walkChanges base es).kept ∧ lists (walkChanges base es).members e.id = true) ∧
    (lists base e.id = false →
      (e ∈ (walkChanges base es).kept ↔ lists (walkChanges base es).members e.id = true)) := by
  obtain ⟨w, u, step, before, fresh, after, kept⟩ := walk_at_entry base distinct held
  simp only [lists_eq_isSome, kept, after, ← before] at *
  cases step with
  | @inserted legs' asks unlisted =>
    have absent : seat w.members e.id = none := by simpa [lists_eq_isSome] using unlisted
    have placed := seat_insertMember (m := inserted e legs') absent e.id
    simp only [inserted, if_true] at placed
    simp [absent, inserted, placed]
  | noRoom asks unlisted =>
    have absent : seat w.members e.id = none := by simpa [lists_eq_isSome] using unlisted
    simp [absent, fresh]
  | addListed other => simp [kind] at other
  | removed other => simp [kind] at other
  | removeUnlisted other => simp [kind] at other
  | @refreshed legs' _ listed =>
    have stays : (seat (if legTotal (setLegs w.members e.id legs') ≤ 16 then setLegs w.members e.id legs'
        else w.members) e.id).isSome = (seat w.members e.id).isSome := by
      split
      · rw [seat_setLegs, Option.isSome_map]
      · rfl
    rw [lists_eq_isSome] at listed
    simp [stays, listed]

/-- What a walk makes of a REMOVE (R92). -/
theorem walk_remove (distinct : (es.map (·.id)).Nodup) (held : e ∈ es) {cause : RemoveCause}
    (kind : e.change = .remove cause) :
    lists (walkChanges base es).members e.id = false ∧
      (e ∈ (walkChanges base es).kept ↔ lists base e.id = true) := by
  obtain ⟨w, u, step, before, fresh, after, kept⟩ := walk_at_entry base distinct held
  simp only [lists_eq_isSome, kept, after, ← before] at *
  cases step with
  | inserted asks => simp [Asks, kind] at asks
  | noRoom asks => simp [Asks, kind] at asks
  | addListed other => simp [kind] at other
  | removed _ listed =>
    rw [lists_eq_isSome] at listed
    simp [seat_removed, listed]
  | removeUnlisted _ unlisted =>
    rw [lists_eq_isSome] at unlisted
    simp [unlisted, fresh]
  | refreshed other => simp [kind] at other

/-- A walk lists no station but those of the base and of the entries. -/
theorem walk_only {id : Nat} (listed : lists (walkChanges base es).members id = true) :
    lists base id = true ∨ ∃ e ∈ es, e.id = id := by
  by_cases entry : ∃ e ∈ es, e.id = id
  · exact .inr entry
  · refine .inl ?_
    rw [lists_eq_isSome] at listed ⊢
    rwa [seat_walkChanges (by simpa using entry)] at listed

theorem walkStep_refresh {w u : Walk} (step : WalkStep w e u) (carried : w.refresh = true) : u.refresh = true := by
  cases step with
  | refreshed => rfl
  | inserted => exact carried
  | noRoom => exact carried
  | addListed => exact carried
  | removed => exact carried
  | removeUnlisted => exact carried

theorem foldl_walkEntry_refresh (es : List ChangeEntry) {w : Walk} (carried : w.refresh = true) :
    (es.foldl walkEntry w).refresh = true := by
  induction es generalizing w with
  | nil => exact carried
  | cons e es ih => exact ih (walkStep_refresh (walkStep w e) carried)

/-- A REFRESH or a REMOVE of a station that the base lists makes the list differ. -/
theorem differs_of_entry (distinct : (es.map (·.id)).Nodup) (held : e ∈ es) (listed : lists base e.id = true)
    (kind : (∃ legs, e.change = .refresh legs) ∨ ∃ cause, e.change = .remove cause) :
    Differs base (walkChanges base es) := by
  obtain ⟨legs, kind⟩ | ⟨cause, kind⟩ := kind
  · obtain ⟨before, after, rfl⟩ := List.append_of_mem held
    rw [List.map_append, List.map_cons] at distinct
    have beforeOther : ∀ x ∈ before, x.id ≠ e.id := fun x hx =>
      (List.nodup_append.mp distinct).2.2 x.id (List.mem_map_of_mem hx) e.id List.mem_cons_self
    refine .inl ?_
    have split_ : walkChanges base (before ++ e :: after) =
        after.foldl walkEntry (walkEntry (walkChanges base before) e) := by simp [walkChanges]
    rw [split_]
    refine foldl_walkEntry_refresh after ?_
    rw [walkEntry_refreshed kind]
    rwa [lists_eq_isSome, seat_walkChanges beforeOther, ← lists_eq_isSome]
  · refine .inr fun same => ?_
    have ids : (walkChanges base es).members.map (·.id) = base.map (·.id) := by
      simpa [List.map_map, Function.comp_def] using congrArg (List.map Prod.fst) same
    obtain ⟨m, hm, is⟩ := lists_iff.mp listed
    have still : e.id ∈ (walkChanges base es).members.map (·.id) := ids ▸ is ▸ List.mem_map_of_mem hm
    obtain ⟨n, hn, is'⟩ := List.mem_map.mp still
    exact lists_eq_false_iff.mp (walk_remove (base := base) distinct held kind).1 n hn is'

/-- ADDs of listed and REMOVEs of unlisted stations leave the base as it is and the list empty. -/
theorem walkChanges_satisfied (satisfied : ∀ e ∈ es, (∃ legs, e.change = .add legs ∧ lists base e.id = true) ∨
    (∃ cause, e.change = .remove cause ∧ lists base e.id = false)) :
    walkChanges base es = { members := base, kept := [], dropped := [], refresh := false } := by
  induction es with
  | nil => rfl
  | cons e es ih =>
    obtain ⟨first, rest⟩ := List.forall_mem_cons.mp satisfied
    have stands : walkEntry { members := base, kept := [], dropped := [], refresh := false } e =
        { members := base, kept := [], dropped := [], refresh := false } := by
      obtain ⟨legs, kind, listed⟩ | ⟨cause, kind, unlisted⟩ := first
      · exact walkEntry_addListed kind listed
      · exact walkEntry_removeUnlisted kind unlisted
    rw [walkChanges, List.foldl_cons, stands]
    exact ih rest

end

end

/-- Settles O43: the build is the walk of the change list, and what the walk makes of each entry. -/
theorem recastBuilt : Obligations.RecastBuilt := by
  unfold Obligations.RecastBuilt
  intro s base based ascending distinct
  have order := walkChanges_ascending ascending s.mbc.changes
  refine ⟨?_, ?_, ?_, ?_, ⟨_, _, _, _, walked_walkChanges ascending s.mbc.changes⟩, ?_⟩
  · intro t r built
    obtain ⟨rfl, rfl⟩ := buildRecast_some based built
    refine ⟨rfl, rfl, rfl, by simp [recastOf], ?_, by simpa [recastOf, List.map_map, Function.comp_def] using order,
      ?_, ?_, ?_, ?_, ?_, ?_, ?_, rfl, rfl, rfl, rfl⟩
    · intro m hm
      obtain ⟨n, -, rfl⟩ := List.mem_map.mp hm
      rfl
    · intro stations legs
      have room := fits_iff.mp (walkChanges_fits (fits_iff.mpr ⟨stations, legs⟩) s.mbc.changes)
      rw [recastOf_legTotal]
      exact ⟨by simpa [recastOf] using room.1, room.2⟩
    · intro e held legs kind
      obtain ⟨listed, unlisted⟩ := walk_add (base := base.members) distinct held kind
      rw [recastOf_lists]
      refine ⟨listed, fun absent => ⟨fun kept => ?_, (unlisted absent).2⟩⟩
      obtain ⟨m, found, rfl⟩ := (unlisted absent).1 kept
      exact recastOf_member s base found
    · intro e held legs kind
      rw [recastOf_lists]
      exact walk_refresh distinct held kind
    · intro e held cause kind
      rw [recastOf_lists]
      exact walk_remove distinct held kind
    · intro m hm others
      refine recastOf_member s base ?_
      rw [seat_walkChanges others]
      exact seat_of_mem ascending hm
    · intro x hx
      refine walk_only (es := s.mbc.changes) ?_
      rw [← recastOf_lists s base]
      exact lists_iff.mpr ⟨x, hx, rfl⟩
    · exact fun e kept => (walkChanges_kept_sublist _ _).subset kept
  · intro t built
    rw [buildRecast_none based built]
    exact ⟨rfl, rfl, rfl, fun e kept => (walkChanges_kept_sublist _ _).subset kept⟩
  · intro satisfied
    have walk := walkChanges_satisfied satisfied
    refine ⟨_, buildRecast_same based (by simp [Differs, walk]), ?_, ?_⟩
    · simp [builtPart, walk]
    · simp [builtPart, walk]
  · rintro ⟨e, held, listed, kind⟩
    exact ⟨_, _, buildRecast_differing based (differs_of_entry distinct held listed kind)⟩
  · rintro ms kept dropped refresh u walked rfl
    have walk := walked.eq ascending
    constructor
    · intro differs
      have built := buildRecast_differing based (show Differs _ _ by rw [walk]; exact differs)
      rwa [walk] at built
    · intro refresh same
      have built := buildRecast_same based (show ¬ Differs _ _ by simp [Differs, walk, refresh, same])
      rwa [walk] at built

/-! ### The snapshot of a start mark (R32, R112) -/

section
variable {s u : State} {k : FrameKind} {payload : List Byte}

theorem buildRecast_withdrawn (built : buildRecast s = (u, none)) : u.tli.requests.recast = false := by
  cases based : baseView s with
  | none =>
    simp only [buildRecast, based, Prod.mk.injEq, and_true] at built
    rw [← built]
    rfl
  | some base => rw [buildRecast_none based built]

theorem takeSnapshot_recast {r : RecastContent} (asked : s.tli.requests.recast = true)
    (built : buildRecast s = (u, some r)) :
    takeSnapshot s = (u, some { kind := .recast, payload := encodeRecast r, renewal := false }) := by
  rw [takeSnapshot, if_pos asked, built]

theorem takeSnapshot_others (without : (s.tli.requests.recast = false ∧ u = s) ∨
    (s.tli.requests.recast = true ∧ buildRecast s = (u, none))) :
    takeSnapshot s = (u, takeSnapshot.others u) := by
  obtain ⟨free, rfl⟩ | ⟨asked, built⟩ := without
  · rw [takeSnapshot, if_neg (by simp [free])]
  · rw [takeSnapshot, if_pos asked, built]

/-- The snapshot that R32 says is the one the model takes. -/
theorem Snapshot.taken (snapshot : Snapshot s u k payload) :
    takeSnapshot s = (u, some { kind := k, payload := payload, renewal := false }) := by
  obtain ⟨asked, rfl, r, built, rfl⟩ | ⟨without, other⟩ := snapshot
  · exact takeSnapshot_recast asked built
  · rw [takeSnapshot_others without, takeSnapshot.others]
    obtain ⟨leave, rfl, v, current, rfl⟩ | ⟨leave, hail, rfl, rfl⟩ | ⟨leave, hail, claim, rfl, v, current, rfl⟩ := other
    · rw [if_pos leave, claimContent, current]
      rfl
    · rw [if_neg (by simp [leave]), if_pos hail]
    · rw [if_neg (by simp [leave]), if_neg (by simp [hail]), if_pos claim, claimContent, current]
      rfl

/-- A snapshot asks for a request. -/
theorem Snapshot.asked (snapshot : Snapshot s u k payload) : s.tli.requests.any = true := by
  obtain ⟨asked, -⟩ | ⟨⟨free, rfl⟩ | ⟨asked, -⟩, other⟩ := snapshot
  · simp [Requests.any, asked]
  · obtain ⟨leave, -⟩ | ⟨-, hail, -⟩ | ⟨-, -, claim, -⟩ := other
    · simp [Requests.any, leave]
    · simp [Requests.any, hail]
    · simp [Requests.any, claim]
  · simp [Requests.any, asked]

/-- A start mark of a station with a request takes its snapshot. -/
theorem talkMark_of_start (idle : s.cfg.fp.tb ≤ s.tli.idle) (waiting : s.tli.rx.phase = .waiting)
    (silent : s.tli.flight = none) (clear : s.tli.stuck = false) (asked : s.tli.requests.any = true) :
    talkMark s = lowMark (startFrame s) := by
  rw [talkMark, waiting]
  exact (if_pos ⟨idle, clear⟩).trans (if_pos ⟨asked, silent⟩)

theorem originateDue_of (runs : s.mbc.station.running = true) (idle : 2 * s.cfg.fp.tb ≤ s.tli.idle)
    (waiting : s.tli.rx.phase = .waiting) (silent : s.tli.flight = none) (clear : s.tli.stuck = false)
    (asked : s.tli.requests.any = true) : originateDue s = true := by
  have long : 2 * s.TB ≤ s.tli.idle := idle
  simp [originateDue, runs, long, waiting, silent, clear, asked]

end

/-- Settles O42: a start mark takes the snapshot, and an empty one leaves no mark of the station's own. -/
theorem frameOriginateTaken : Obligations.FrameOriginateTaken := by
  unfold Obligations.FrameOriginateTaken
  rintro s ⟨released, runs⟩ idle waiting silent clear
  constructor
  · intro u k payload snapshot
    have start : startFrame s =
        { u with tli := { u.tli with rx := Rx.started, flight := some { kind := k, payload, renewal := false } } } := by
      rw [startFrame, snapshot.taken]
    refine ⟨_, rfl, fun high => ?_, fun long => ?_⟩
    · refine (exec_due (c := .talkMark) rfl released (by simp [runs, high])).trans ?_
      rw [talkMark_of_start idle waiting silent clear snapshot.asked, start]
      rfl
    · have due := originateDue_of runs long waiting silent clear snapshot.asked
      refine (exec_due (c := .frameOriginate) rfl released due).trans ?_
      rw [if_pos (by rw [startsFrame, due, snapshot.taken]; rfl), originate, snapshot.taken, start]
      rfl
  · intro u asked built leave hail claim
    have any : s.tli.requests.any = true := by simp [Requests.any, asked]
    have snapshot : takeSnapshot s = (u, none) := by
      rw [takeSnapshot_others (.inr ⟨asked, built⟩), takeSnapshot.others]
      simp [leave, hail, claim]
    refine ⟨buildRecast_withdrawn built, fun high => ?_, fun long => ?_⟩
    · refine (exec_due (c := .talkMark) rfl released (by simp [runs, high])).trans ?_
      rw [talkMark_of_start idle waiting silent clear any, startFrame, snapshot]
      rfl
    · have due := originateDue_of runs long waiting silent clear any
      refine (exec_due (c := .frameOriginate) rfl released due).trans ?_
      rw [if_neg (by rw [startsFrame, snapshot]; simp), originate, snapshot]

end Sys2Proof.Machine

/-! ## Hearing a station (R71 to R73, R76, R78) -/

namespace Sys2Proof.Machine

section
variable {m s t : State} {k : FrameKind} {sender : Nat} {payload : List Byte} {cycle : U16}

/-! ### Holds, returns and updates -/

theorem heldEntry_iff (m : State) (id : Nat) : heldEntry m id = true ↔ HeldIn m id := by
  have listed : ∀ w : Option PendingView, listedIn (pendingOf w) id = true ↔
      ∃ v, w = some v ∧ lists v.view.members id = true := by
    rintro (_ | v) <;> simp [pendingOf, listedIn]
  unfold heldEntry HeldIn
  cases m.mbc.station <;> simp [Station.inGroup, Station.following, listed]

/-- A LOST sender's entry returns where the model's test says so. -/
theorem returns_iff {p : Peer} (found : findPeer m.peers sender = some p) :
    Returns m sender p ↔ p.kind = .lost ∧ mayReturn m sender = true := by
  unfold Returns mayReturn
  cases held : m.mbc.pending with
  | none => simp [found]
  | some w => simp [found, pendingOf, listedIn]

theorem Returns.found {p : Peer} (h : Returns m sender p) : findPeer m.peers sender = some p := h.1

theorem update_eq_heardBy (fp : Fingerprint) (k : FrameKind) (payload : List Byte) (q : Peer) :
    Peer.update fp k payload { q with silence := 0 } = heardBy fp k payload q := by
  cases k with
  | hail => rfl
  | claim =>
    simp only [Peer.update, heardBy, LegRecord.receive]
    cases (decodeClaim payload).demand1 <;> rfl
  | recast =>
    simp only [Peer.update, heardBy, recastLegs]
    cases (decodeRecast payload).members.find? (fun m => m.id == q.id) <;> rfl
  | leave => rfl

@[simp] theorem heardBy_id (fp : Fingerprint) (k : FrameKind) (payload : List Byte) (q : Peer) :
    (heardBy fp k payload q).id = q.id := by cases k <;> rfl

/-- What the frame brings into the sender's entry, in a table that has taken its sender. -/
def noted (fp : Fingerprint) (k : FrameKind) (sender : Nat) (payload : List Byte) (ps : List Peer) : List Peer :=
  updatePeer ps sender (heardBy fp k payload)

theorem hearFrame_eq (cycle : Option U16) (m : State) (k : FrameKind) (sender : Nat) (payload : List Byte) :
    hearFrame cycle m k sender payload =
      { returnPeer cycle (enterSender cycle m sender k) sender with
        peers := noted (returnPeer cycle (enterSender cycle m sender k) sender).cfg.fp k sender payload
          (returnPeer cycle (enterSender cycle m sender k) sender).peers } := by
  simp only [hearFrame, noted, update_eq_heardBy]

/-! ### The cases of a sender -/

/-- A sender that has an entry and does not return: its entry alone is updated. -/
theorem hearFrame_known {p : Peer} (found : findPeer m.peers sender = some p) (stays : ¬ Returns m sender p)
    (cycle : Option U16) (k : FrameKind) (payload : List Byte) :
    hearFrame cycle m k sender payload =
      { m with peers := updatePeer m.peers sender (heardBy m.cfg.fp k payload) } := by
  have entered : enterSender cycle m sender k = m := if_pos (by simp [found])
  have returned : returnPeer cycle m sender = m := by
    simp only [returnPeer, found]
    exact if_neg ((returns_iff found).not.mp stays)
  rw [hearFrame_eq, entered, returned]
  rfl

theorem not_returns_of_kind {p : Peer} (kind : p.kind ≠ .lost) : ¬ Returns m sender p := fun h => kind h.2.1

/-- A station that has an entry which is not LOST does not return. -/
theorem returnPeer_of_not_lost {p : Peer} (found : findPeer m.peers sender = some p) (kind : p.kind ≠ .lost)
    (cycle : Option U16) : returnPeer cycle m sender = m := by
  simp only [returnPeer, found]
  exact if_neg fun h => kind h.1

/-- A new entry of a sender, updated by its frame in its place. -/
theorem noted_insertPeer {ps : List Peer} (ascending : (ps.map (·.id)).Pairwise (· < ·))
    (absent : ∀ q ∈ ps, q.id ≠ sender) (fp : Fingerprint) (k : FrameKind) (payload : List Byte) :
    noted fp k sender payload (insertPeer ps (newPeer sender .heard none)) = seated fp k sender payload ps := by
  have lower : ∀ q ∈ ps.filter (fun q => decide (q.id < sender)), q.id ≠ sender :=
    fun q hq => absent q (List.mem_filter.mp hq).1
  have higher : ∀ q ∈ ps.filter (fun q => decide (sender < q.id)), q.id ≠ sender :=
    fun q hq => absent q (List.mem_filter.mp hq).1
  have placed := insertPeer_eq (p := newPeer sender .heard none) ascending absent
  rw [noted, placed, updatePeer, List.map_append, List.map_cons]
  refine congrArg₂ _ (updatePeer_of_absent lower) (congrArg₂ _ (if_pos rfl) (updatePeer_of_absent higher))

theorem findPeer_insertPeer_new {ps : List Peer} {p : Peer} (absent : ∀ q ∈ ps, q.id ≠ p.id) :
    findPeer (insertPeer ps p) p.id = some p := by
  induction ps with
  | nil => simp [insertPeer, findPeer]
  | cons q ps ih =>
    obtain ⟨first, rest⟩ := List.forall_mem_cons.mp absent
    unfold insertPeer
    split
    · simp [findPeer]
    · simpa [findPeer, first] using ih rest

/-- A stranger with a place in the table: its new entry, updated by the frame, and PEER_HEARD. -/
theorem hearFrame_placed {ps : List Peer} (absent : ∀ q ∈ ps, q.id ≠ sender) (payload : List Byte)
    (entered : enterSender (some cycle) m sender k =
      postHeard (some cycle) { m with peers := insertPeer ps (newPeer sender .heard none) } .peerHeard sender k) :
    hearFrame (some cycle) m k sender payload =
      { m with
        peers := noted m.cfg.fp k sender payload (insertPeer ps (newPeer sender .heard none))
        evq := { m.evq with records := arrive m.evq.records (about cycle .peerHeard sender (kindCode k)) } } := by
  have found : findPeer (enterSender (some cycle) m sender k).peers sender = some (newPeer sender .heard none) := by
    rw [entered]
    exact findPeer_insertPeer_new (p := newPeer sender .heard none) absent
  rw [hearFrame_eq, returnPeer_of_not_lost found (by simp [newPeer]), entered]
  rfl

theorem hearFrame_stranger (stranger : findPeer m.peers sender = none) (room : m.peers.length < 20) (cycle : U16)
    (k : FrameKind) (payload : List Byte) :
    hearFrame (some cycle) m k sender payload =
      { m with
        peers := noted m.cfg.fp k sender payload (insertPeer m.peers (newPeer sender .heard none))
        evq := { m.evq with records := arrive m.evq.records (about cycle .peerHeard sender (kindCode k)) } } := by
  refine hearFrame_placed (findPeer_eq_none_iff.mp stranger) payload ?_
  exact (if_neg (by simp [stranger])).trans (if_pos room)

theorem hearFrame_entered (ascending : (m.peers.map (·.id)).Pairwise (· < ·)) (stranger : findPeer m.peers sender = none)
    (room : m.peers.length < 20) (cycle : U16) (k : FrameKind) (payload : List Byte) :
    hearFrame (some cycle) m k sender payload =
      { m with
        peers := seated m.cfg.fp k sender payload m.peers
        evq := { m.evq with records := arrive m.evq.records (about cycle .peerHeard sender (kindCode k)) } } := by
  rw [hearFrame_stranger stranger room, noted_insertPeer ascending (findPeer_eq_none_iff.mp stranger)]

theorem hearFrame_evicting (ascending : (m.peers.map (·.id)).Pairwise (· < ·)) (stranger : findPeer m.peers sender = none)
    (full : 20 ≤ m.peers.length) {old : Peer} (goes : evictee m = some old) (cycle : U16) (k : FrameKind)
    (payload : List Byte) :
    hearFrame (some cycle) m k sender payload =
      { m with
        peers := seated m.cfg.fp k sender payload (m.peers.filter (fun q => !(q.id == old.id)))
        evq := { m.evq with records := arrive m.evq.records (about cycle .peerHeard sender (kindCode k)) } } := by
  have absent : ∀ q ∈ removePeer m.peers old.id, q.id ≠ sender :=
    fun q hq => findPeer_eq_none_iff.mp stranger q (mem_removePeer.mp hq).1
  have entered : enterSender (some cycle) m sender k = postHeard (some cycle)
      { m with peers := insertPeer (removePeer m.peers old.id) (newPeer sender .heard none) } .peerHeard sender k := by
    refine (if_neg (by simp [stranger])).trans ((if_neg (by omega)).trans ?_)
    simp only [goes]
  rw [hearFrame_placed absent payload entered, noted_insertPeer (removePeer_ascending old.id ascending) absent]
  rfl

theorem hearFrame_full (stranger : findPeer m.peers sender = none) (full : 20 ≤ m.peers.length)
    (stays : evictee m = none) (cycle : U16) (k : FrameKind) (payload : List Byte) :
    hearFrame (some cycle) m k sender payload =
      { m with evq := { m.evq with
          records := arrive m.evq.records (about cycle .tableFull sender (kindCode k)) } } := by
  have entered : enterSender (some cycle) m sender k = postHeard (some cycle) m .tableFull sender k := by
    refine (if_neg (by simp [stranger])).trans ((if_neg (by omega)).trans ?_)
    simp only [stays]
  have nobody : returnPeer (some cycle) (postHeard (some cycle) m .tableFull sender k) sender =
      postHeard (some cycle) m .tableFull sender k := by
    simp only [returnPeer, postHeard, postAt, stranger]
  rw [hearFrame_eq, entered, nobody]
  have same : noted m.cfg.fp k sender payload m.peers = m.peers := updatePeer_of_absent (findPeer_eq_none_iff.mp stranger)
  exact congrArg (fun ps => { m with
    peers := ps
    evq := { m.evq with records := arrive m.evq.records (about cycle .tableFull sender (kindCode k)) } }) same

/-- The change list of a MEMBER whose sender returns. -/
def withdrawn (m : State) (sender : Nat) : List ChangeEntry :=
  m.mbc.changes.filter (fun e => !(e.id == sender && e.change == .remove .lost))

theorem withdrawLost_eq (m : State) (sender : Nat) : withdrawLost m sender = { m with mbc := { m.mbc with
    changes := withdrawn m sender
    backoff := if withdrawn m sender = [] ∧ m.mbc.changes ≠ [] then none else m.mbc.backoff } } := by
  by_cases stands : (withdrawn m sender).length = m.mbc.changes.length
  · have same : withdrawn m sender = m.mbc.changes := List.filter_sublist.eq_of_length stands
    have kept : ¬ (m.mbc.changes = [] ∧ m.mbc.changes ≠ []) := fun h => h.2 h.1
    rw [same, if_neg kept]
    exact if_pos stands
  · have held : m.mbc.changes ≠ [] := by
      rintro empty
      exact stands (by simp [withdrawn, empty])
    refine (if_neg stands).trans ((clearBackoffIfEmpty_eq _).trans ?_)
    simp only [held, ne_eq, not_false_eq_true, and_true]
    rfl

/-- A LOST sender that returns: MEMBER again, PEER_RETURNED with the silence it held, and in MEMBER no REMOVE for it. -/
theorem hearFrame_returned {p : Peer} (returns : Returns m sender p) (cycle : U16) (k : FrameKind) (payload : List Byte) :
    hearFrame (some cycle) m k sender payload =
      { m with
        peers := updatePeer m.peers sender (fun q => { heardBy m.cfg.fp k payload q with kind := .member })
        mbc := if m.mbc.station = .member then { m.mbc with
            changes := withdrawn m sender
            backoff := if withdrawn m sender = [] ∧ m.mbc.changes ≠ [] then none else m.mbc.backoff }
          else m.mbc
        evq := { m.evq with records := arrive m.evq.records (about cycle .peerReturned sender p.silence) } } := by
  have entered : enterSender (some cycle) m sender k = m := if_pos (by simp [returns.found])
  have back := (returns_iff returns.found).mp returns
  have twice : noted m.cfg.fp k sender payload (updatePeer m.peers sender (fun q => { q with kind := .member })) =
      updatePeer m.peers sender (fun q => { heardBy m.cfg.fp k payload q with kind := .member }) := by
    rw [noted, updatePeer_updatePeer (f := fun q => { q with kind := .member }) fun _ => rfl]
    refine updatePeer_congr fun q _ _ => ?_
    cases k <;> rfl
  rw [hearFrame_eq, entered, ← twice]
  simp only [returnPeer, returns.found, back, and_self, if_true]
  split
  · rw [withdrawLost_eq]
    rfl
  · rfl

/-- Outside MEMBER the table moves its entries and the event queue alone. -/
theorem hearFrame_outside (other : m.mbc.station ≠ .member) (cycle : Option U16) (k : FrameKind) (sender : Nat)
    (payload : List Byte) : ∃ ps records, hearFrame cycle m k sender payload =
      { m with peers := ps, evq := { m.evq with records := records } } := by
  have entered : ∃ ps records, enterSender cycle m sender k =
      { m with peers := ps, evq := { m.evq with records := records } } := by
    unfold enterSender
    split
    · exact ⟨_, _, rfl⟩
    · split
      · exact ⟨_, _, rfl⟩
      · split
        · exact ⟨_, _, rfl⟩
        · exact ⟨_, _, rfl⟩
  obtain ⟨ps, records, entered⟩ := entered
  have returned : ∃ ps' records', returnPeer cycle (enterSender cycle m sender k) sender =
      { m with peers := ps', evq := { m.evq with records := records' } } := by
    rw [entered]
    unfold returnPeer
    split
    · split
      · exact ⟨_, _, rfl⟩
      · exact ⟨_, _, rfl⟩
    · exact ⟨_, _, rfl⟩
  obtain ⟨ps', records', returned⟩ := returned
  rw [hearFrame_eq, returned]
  exact ⟨_, _, rfl⟩

/-! ### What the table takes, as R71 to R73 say it -/

theorem evictee_some (ascending : (m.peers.map (·.id)).Pairwise (· < ·)) {old : Peer} (goes : evictee m = some old) :
    old ∈ m.peers ∧ old.kind = .heard ∧ ¬ HeldIn m old.id ∧
      ∀ q ∈ m.peers, q ≠ old → q.kind = .heard → ¬ HeldIn m q.id →
        q.silence < old.silence ∨ (q.silence = old.silence ∧ q.id < old.id) := by
  obtain ⟨place, most⟩ := mostSilent_some goes
  simp only [List.mem_filter, Bool.and_eq_true, beq_iff_eq, Bool.not_eq_true', ← Bool.not_eq_true, heldEntry_iff]
    at place most
  refine ⟨place.1, place.2.1, place.2.2, fun q hq other heard free => ?_⟩
  have apart : q.id ≠ old.id := fun same =>
    other (Option.some.inj ((findPeer_of_mem ascending hq).symm.trans (same ▸ findPeer_of_mem ascending place.1)))
  have silent := most q ⟨hq, heard, free⟩
  unfold SilentAs at silent
  omega

theorem evictee_none (stays : evictee m = none) : ∀ q ∈ m.peers, q.kind = .heard → HeldIn m q.id := by
  intro q hq heard
  by_contra free
  rw [← heldEntry_iff, Bool.not_eq_true] at free
  have empty := mostSilent_eq_none_iff.mp stays
  exact List.not_mem_nil (empty ▸ List.mem_filter.mpr ⟨hq, by simp [heard, free]⟩)

/-- What the table takes with the change list and the timer untouched. -/
theorem TableTakes.of_quiet {ps : List Peer} {posted : List Event} (heard : Heard m cycle k sender payload ps posted)
    (quiet : ¬ ((∃ p, Returns m sender p) ∧ m.mbc.station = .member))
    (taken : t = { m with peers := ps, evq := { m.evq with records := posted.foldl arrive m.evq.records } }) :
    TableTakes m cycle k sender payload t := by
  subst taken
  refine ⟨⟨posted, heard, rfl⟩, fun returns member => absurd ⟨returns, member⟩ quiet, fun _ => rfl, ?_, rfl⟩
  exact (if_neg fun h => h.2 h.1).symm

/-- The model's table takes a frame as R71 to R73 and R76 say. -/
theorem tableTakes_hearFrame (ascending : (m.peers.map (·.id)).Pairwise (· < ·)) (cycle : U16) (k : FrameKind)
    (sender : Nat) (payload : List Byte) :
    TableTakes m cycle k sender payload (hearFrame (some cycle) m k sender payload) := by
  cases found : findPeer m.peers sender with
  | some p =>
    by_cases returns : Returns m sender p
    · have taken := hearFrame_returned returns cycle k payload
      by_cases member : m.mbc.station = .member
      · rw [if_pos member] at taken
        rw [taken]
        exact ⟨⟨_, .returned returns, rfl⟩, fun _ _ => rfl, fun other => absurd ⟨⟨p, returns⟩, member⟩ other, rfl, rfl⟩
      · rw [if_neg member] at taken
        exact .of_quiet (.returned returns) (fun h => member h.2) taken
    · have nobody : ¬ ((∃ q, Returns m sender q) ∧ m.mbc.station = .member) := by
        rintro ⟨⟨q, back⟩, -⟩
        obtain rfl : p = q := Option.some.inj (found.symm.trans back.found)
        exact returns back
      exact .of_quiet (.known found returns) nobody (hearFrame_known found returns ..)
  | none =>
    have nobody : ¬ ((∃ q, Returns m sender q) ∧ m.mbc.station = .member) := by
      rintro ⟨⟨q, back⟩, -⟩
      exact absurd (found.symm.trans back.found) (by simp)
    by_cases room : m.peers.length < 20
    · exact .of_quiet (.entered found room) nobody (hearFrame_entered ascending found room ..)
    · have full : 20 ≤ m.peers.length := by omega
      cases goes : evictee m with
      | some old =>
        obtain ⟨held, heard, free, most⟩ := evictee_some ascending goes
        exact .of_quiet (.evicting found full held heard free most) nobody (hearFrame_evicting ascending found full goes ..)
      | none => exact .of_quiet (.full found full (evictee_none goes)) nobody (hearFrame_full found full goes ..)

/-- Of a sender that does not return, the table alone takes the frame. -/
theorem hearFrame_quiet (ascending : (m.peers.map (·.id)).Pairwise (· < ·)) (quiet : ∀ p, ¬ Returns m sender p)
    (cycle : U16) (k : FrameKind) (payload : List Byte) :
    ∃ ps posted, Heard m cycle k sender payload ps posted ∧ hearFrame (some cycle) m k sender payload =
      { m with peers := ps, evq := { m.evq with records := posted.foldl arrive m.evq.records } } := by
  have takes := tableTakes_hearFrame ascending cycle k sender payload
  obtain ⟨posted, heard, records⟩ := takes.heard
  have changes := takes.stands fun h => h.1.elim quiet
  have backoff := takes.backoff
  rw [changes, if_neg fun h => h.2 h.1] at backoff
  refine ⟨_, posted, heard, takes.rest.trans ?_⟩
  rw [changes, backoff, records]

/-- What is heard depends on the entries, the fingerprint, who returns and which entries are held alone. -/
theorem Heard.of_same {ps : List Peer} {posted : List Event} (heard : Heard m cycle k sender payload ps posted)
    (peers : t.peers = m.peers) (cfg : t.cfg.fp = m.cfg.fp) (returns : ∀ p, Returns t sender p ↔ Returns m sender p)
    (held : ∀ id, HeldIn t id ↔ HeldIn m id) : Heard t cycle k sender payload ps posted := by
  cases heard with
  | known found stays => exact peers ▸ cfg ▸ .known (peers ▸ found) ((returns _).not.mpr stays)
  | returned back => exact peers ▸ cfg ▸ .returned ((returns _).mpr back)
  | entered stranger room => exact peers ▸ cfg ▸ .entered (peers ▸ stranger) (peers ▸ room)
  | evicting stranger full place heard free most =>
    refine peers ▸ cfg ▸ .evicting (peers ▸ stranger) (peers ▸ full) (peers ▸ place) heard ((held _).not.mpr free) ?_
    exact fun q hq other kind out => most q (peers ▸ hq) other kind ((held _).not.mp out)
  | full stranger full kept =>
    refine peers ▸ .full (peers ▸ stranger) (peers ▸ full) fun q hq kind => ?_
    exact (held _).mpr (kept q (peers ▸ hq) kind)

theorem Heard.congr {ps : List Peer} {posted : List Event} (heard : Heard m cycle k sender payload ps posted)
    (peers : t.peers = m.peers) (cfg : t.cfg.fp = m.cfg.fp) (mbc : t.mbc = m.mbc) :
    Heard t cycle k sender payload ps posted :=
  heard.of_same peers cfg (fun p => by rw [Returns, Returns, peers, mbc]) fun id => by rw [HeldIn, HeldIn, mbc]

end

end Sys2Proof.Machine

/-! ## Accepted frames: delivery, and the tests of RECASTs and CLAIMs (R30, R36, R40, R95, R101) -/

namespace Sys2Proof.Machine

section
variable {s t : State} {k : FrameKind} {sender : Nat} {payload : List Byte}

/-! ### The tests of a RECAST -/

theorem ascending_iff (ids : List Nat) : ascending ids = true ↔ ids.Pairwise (· < ·) := by
  rw [← List.isChain_iff_pairwise]
  induction ids with
  | nil => simp [ascending]
  | cons a ids ih =>
    cases ids with
    | nil => simp [ascending]
    | cons b rest => simp [ascending, ih]

theorem malformed_eq_false_iff (s : State) (r : RecastContent) (bytes : Nat) :
    malformed r bytes = false ↔ recastTest s r bytes 0 := by
  simp only [malformed, Bool.or_eq_false_iff, Bool.not_eq_false', beq_iff_eq, ascending_iff, List.any_eq_false,
    Bool.or_eq_true, not_or, decide_eq_false_iff_not, Nat.not_lt, and_assoc, recastTest]

theorem superseded_eq_false_iff (s : State) (r : RecastContent) (bytes : Nat) :
    superseded s r.epoch = false ↔ recastTest s r bytes 2 := by
  simp only [superseded, recastTest, Bool.or_eq_false_iff]
  refine and_congr ?_ ?_
  · cases s.mbc.current <;> simp
  · cases s.mbc.pending <;> simp

theorem switchInReach_iff (s : State) (r : RecastContent) (bytes : Nat) :
    switchInReach s r.switchCycle = true ↔ recastTest s r bytes 3 := by
  simp [switchInReach, recastTest]

/-- A RECAST that passes the four tests fails none. -/
theorem recastFailure_none {r : RecastContent} {bytes : Nat} (passes : ∀ n, n ≤ 3 → recastTest s r bytes n) :
    recastFailure s r bytes = none := by
  have formed := (malformed_eq_false_iff s r bytes).mpr (passes 0 (by decide))
  have own : r.fp = s.cfg.fp := passes 1 (by decide)
  have fresh := (superseded_eq_false_iff s r bytes).mpr (passes 2 (by decide))
  have near := (switchInReach_iff s r bytes).mpr (passes 3 (by decide))
  simp [recastFailure, formed, own, fresh, near]

/-- A RECAST is rejected with the first test it fails. -/
theorem recastFailure_some {r : RecastContent} {bytes n : Nat} (within : n ≤ 3) (fails : ¬ recastTest s r bytes n)
    (before : ∀ i, i < n → recastTest s r bytes i) : recastFailure s r bytes = some n := by
  have formed : 0 < n → malformed r bytes = false := fun h => (malformed_eq_false_iff s r bytes).mpr (before 0 h)
  have own : 1 < n → r.fp = s.cfg.fp := before 1
  have fresh : 2 < n → superseded s r.epoch = false := fun h => (superseded_eq_false_iff s r bytes).mpr (before 2 h)
  obtain rfl | rfl | rfl | rfl : n = 0 ∨ n = 1 ∨ n = 2 ∨ n = 3 := by omega
  · rw [← malformed_eq_false_iff, Bool.not_eq_false] at fails
    simp [recastFailure, fails]
  · have other : ¬ r.fp = s.cfg.fp := fails
    simp [recastFailure, formed, other]
  · rw [← superseded_eq_false_iff, Bool.not_eq_false] at fails
    simp [recastFailure, formed, own, fails]
  · rw [← switchInReach_iff, Bool.not_eq_true] at fails
    simp [recastFailure, formed, own, fresh, fails]

/-- A RECAST passes the tests, or there is a first one it fails. -/
theorem recastTest_cases (s : State) (r : RecastContent) (bytes : Nat) :
    (∀ n, n ≤ 3 → recastTest s r bytes n) ∨
      ∃ n, n ≤ 3 ∧ ¬ recastTest s r bytes n ∧ ∀ i, i < n → recastTest s r bytes i := by
  classical
  by_cases fails : ∃ n, n ≤ 3 ∧ ¬ recastTest s r bytes n
  · refine .inr ⟨Nat.find fails, (Nat.find_spec fails).1, (Nat.find_spec fails).2, fun i before => ?_⟩
    have within : i ≤ 3 := before.le.trans (Nat.find_spec fails).1
    have not_ := Nat.find_min fails before
    push Not at not_
    exact not_ within
  · push Not at fails
    exact .inl fails

theorem recastTest_congr (current : t.mbc.current = s.mbc.current) (pending : t.mbc.pending = s.mbc.pending)
    (cfg : t.cfg = s.cfg) (cyt : t.cyt = s.cyt) (r : RecastContent) (bytes n : Nat) :
    recastTest t r bytes n ↔ recastTest s r bytes n := by
  unfold recastTest
  rw [current, pending, cfg, cyt]

/-! ### The tests of a CLAIM in MEMBER -/

/-- The count test of R101. -/
theorem claimCounts_iff (cycle mine : U16) :
    (ahead (cycle + 2) mine = 1 ∨ ahead (cycle + 2) mine = 2) ↔ (cycle = mine ∨ cycle + 1 = mine) := by
  unfold ahead
  constructor
  · rintro (one | two)
    · exact .inr (by bv_omega)
    · exact .inl (by bv_omega)
  · rintro (rfl | rfl)
    · exact .inr (by bv_omega)
    · exact .inl (by bv_omega)

theorem outOfStep_eq_false_iff (s : State) (sender : Nat) (c : ClaimContent) :
    outOfStep s sender c = false ↔ InStep s sender c := by
  simp only [outOfStep, Bool.or_eq_false_iff, Bool.not_eq_false', Bool.or_eq_true, beq_iff_eq, claimCounts_iff, InStep]
  refine and_congr_right fun _ => ?_
  cases s.mbc.current with
  | none => simp
  | some v =>
    have pending : (match s.mbc.pending with
        | some p => newer c.epoch p.view.epoch
        | none => true) = false ↔ ∃ w, s.mbc.pending = some w ∧ newer c.epoch w.view.epoch = false := by
      cases s.mbc.pending <;> simp
    simp only [Option.some.injEq, forall_eq', Bool.and_eq_false_iff, ← pending]
    cases lists v.members sender
    · simp
    · simp <;> rfl

theorem inViews_iff (s : State) (id : Nat) :
    (listedIn s.mbc.current id || listedIn (pendingOf s.mbc.pending) id) = true ↔ InViews s id := by
  simp only [InViews, Bool.or_eq_true]
  refine or_congr ?_ ?_
  · cases s.mbc.current <;> simp [listedIn]
  · cases s.mbc.pending <;> simp [listedIn, pendingOf]

theorem InViews.congr {id : Nat} (h : InViews s id) (mbc : t.mbc = s.mbc) : InViews t id := by
  rw [InViews, mbc]
  exact h

theorem InStep.congr {c : ClaimContent} (h : InStep s sender c) (mbc : t.mbc = s.mbc) (cyt : t.cyt = s.cyt) :
    InStep t sender c := by
  rw [InStep, mbc, cyt]
  exact h

/-- A CLAIM of a listed station in step moves nothing at the controller. -/
theorem memberClaim_inStep {c : ClaimContent} (listed : InViews s sender) (inStep : InStep s sender c) :
    memberClaim s sender c = s := by
  rw [memberClaim, if_pos ((inViews_iff s sender).mpr listed)]
  exact if_neg (by simp [(outOfStep_eq_false_iff s sender c).mpr inStep])

/-! ### Acceptance -/

/-- The part with its assembler back at rest. -/
def idled (s : State) : State := { s with tli := { s.tli with rx := Rx.idle } }

theorem Complete.due (complete : Complete s k sender payload) : acceptedDue k s = true := by
  have whole : frameComplete s = true :=
    (frameComplete_iff s).mpr ⟨complete.phase, complete.cells.1, complete.cells.2, complete.ended⟩
  simp [acceptedDue, complete.runs.2, whole, complete.veto, complete.kind]

theorem exec_accepted (complete : Complete s k sender payload) (tableFirst : Bool) :
    exec (acceptRow tableFirst k) s = .next (settle (acceptFrame tableFirst s)) := by
  have due := complete.due
  cases k with
  | recast => exact exec_due (c := .recastAccepted tableFirst) rfl complete.runs.1 due
  | leave => exact exec_due (c := .leaveAccepted tableFirst) rfl complete.runs.1 due
  | hail => exact exec_due (c := .hailAccepted tableFirst) rfl complete.runs.1 due
  | claim => exact exec_due (c := .claimAccepted tableFirst) rfl complete.runs.1 due

/-- A frame of another station is delivered. -/
theorem exec_other (complete : Complete s k sender payload) (silent : s.tli.flight = none) (other : sender ≠ s.cfg.id)
    (tableFirst : Bool) : exec (acceptRow tableFirst k) s =
      .next (settle (deliver tableFirst (idled s) k sender payload false s.tli.rx.boundary)) := by
  rw [exec_accepted complete, acceptFrame]
  split
  next f sending => simp [silent] at sending
  · rw [complete.kind, complete.sender, complete.payload, if_neg other]
    rfl

/-- What the Peer Table makes of the frame of another station at this acceptance (R149). -/
def hears (s : State) (k : FrameKind) (sender : Nat) (payload : List Byte) (m : State) : State :=
  hearFrame (some s.cyt.cycle) m k sender payload

/-- What the Membership Controller makes of the frame of another station. -/
def judges (s : State) (k : FrameKind) (sender : Nat) (payload : List Byte) (m : State) : State :=
  controllerFrame m k sender payload false s.tli.rx.boundary

/-- With the table first, the controller judges the part that the table leaves. -/
theorem exec_tableFirst (complete : Complete s k sender payload) (silent : s.tli.flight = none)
    (other : sender ≠ s.cfg.id) : exec (acceptRow true k) s =
      .next (settle (judges s k sender payload (hears s k sender payload (idled s)))) := by
  have now : stamp (idled s) = some s.cyt.cycle := if_pos complete.runs.2
  rw [exec_other complete silent other]
  simp only [deliver, if_true, now, planFrame, tableFrame, Bool.false_and, Bool.false_eq_true, if_false]
  rfl

/-- With the controller first, the table takes the frame on the part that the controller leaves, and flags the sender
that lost a comparison. -/
theorem exec_controllerFirst (complete : Complete s k sender payload) (silent : s.tli.flight = none)
    (other : sender ≠ s.cfg.id) : exec (acceptRow false k) s =
      .next (settle (flagForeign (foreignWins (idled s) k sender payload)
        (hears s k sender payload (judges s k sender payload (idled s))) sender)) := by
  have now : stamp (idled s) = some s.cyt.cycle := if_pos complete.runs.2
  rw [exec_other complete silent other]
  simp only [deliver, now, planFrame, tableFrame, Bool.false_and, Bool.false_eq_true, if_false, Bool.not_false,
    Bool.true_and]
  rfl

/-- Nothing but a CLAIM or RECAST in MEMBER of a station in neither view is compared. -/
theorem foreignWins_eq_false (native : s.mbc.station = .member → k = .claim ∨ k = .recast → InViews s sender) :
    foreignWins (idled s) k sender payload = false := by
  by_contra wins
  rw [Bool.not_eq_false] at wins
  simp only [foreignWins, Bool.and_eq_true, beq_iff_eq, Bool.not_eq_true'] at wins
  obtain ⟨⟨⟨member, current⟩, pending⟩, kind⟩ := wins
  have compared : k = .claim ∨ k = .recast := by
    cases k with
    | claim => exact .inl rfl
    | recast => exact .inr rfl
    | hail => cases kind
    | leave => cases kind
  have listed := (inViews_iff s sender).mpr (native member compared)
  rw [Bool.or_eq_true] at listed
  rcases listed with listed | listed
  · exact Bool.false_ne_true (current.symm.trans listed)
  · exact Bool.false_ne_true (pending.symm.trans listed)

/-- The station's own frame: the sender's records are settled, then the Plan Unit and the controller take it. -/
theorem exec_own {f : Flight} (complete : Complete s k s.cfg.id payload) (sending : s.tli.flight = some f)
    (tableFirst : Bool) : exec (acceptRow tableFirst k) s =
      .next (settle (controllerFrame (planFrame (completeSender (idled s) f) k payload true) k s.cfg.id payload true
        s.tli.rx.boundary)) := by
  rw [exec_accepted complete, acceptFrame]
  simp only [sending, complete.kind, complete.sender, complete.payload]
  cases tableFirst <;> rfl

end

/-! ### The controller's part, by station state and kind -/

section
variable {m : State} {k : FrameKind} {sender : Nat} {payload : List Byte} {own boundary : Bool}

theorem controllerFrame_listening (listening : m.mbc.station = .listening) :
    controllerFrame m k sender payload own boundary = hearListening m := by
  simp only [controllerFrame, listening]

theorem controllerFrame_following (following : m.mbc.station.following = true) :
    controllerFrame m k sender payload own boundary = controllerFrame.follow m k sender payload own boundary := by
  cases station : m.mbc.station <;> simp_all [Station.following, controllerFrame]

theorem controllerFrame_member_hail (member : m.mbc.station = .member) :
    controllerFrame m .hail sender payload false boundary = judgeHail m sender (decodeHail payload) := by
  simp [controllerFrame, member]

theorem controllerFrame_member_leave (member : m.mbc.station = .member) :
    controllerFrame m .leave sender payload false boundary = takeLeave m sender := by
  simp [controllerFrame, member]

theorem controllerFrame_member_claim (member : m.mbc.station = .member) :
    controllerFrame m .claim sender payload own boundary = memberClaim m sender (decodeClaim payload) := by
  simp only [controllerFrame, member]

theorem controllerFrame_recast (grouped : m.mbc.station.inGroup = true) :
    controllerFrame m .recast sender payload own boundary =
      memberRecast m sender (decodeRecast payload) payload.length := by
  cases station : m.mbc.station <;> simp_all [Station.inGroup, controllerFrame]

theorem controllerFrame_leaving (leaving : m.mbc.station = .leaving) (other : k ≠ .recast) :
    controllerFrame m k sender payload own boundary = m := by
  cases k with
  | recast => exact absurd rfl other
  | leave => simp [controllerFrame, leaving]
  | hail => simp [controllerFrame, leaving]
  | claim => simp [controllerFrame, leaving]

end

/-! ### Frames in LISTENING -/

section
variable {s : State} {k : FrameKind} {sender : Nat} {payload : List Byte}

/-- In LISTENING the table takes the frame, before or after the listen window has begun anew. -/
theorem exec_listening (complete : Complete s k sender payload) (silent : s.tli.flight = none)
    (other : sender ≠ s.cfg.id) (listening : s.mbc.station = .listening) (tableFirst : Bool) :
    ∃ m ps records, m = { idled s with mbc := m.mbc } ∧
      hearFrame (some s.cyt.cycle) m k sender payload =
        { m with peers := ps, evq := { m.evq with records := records } } ∧
      exec (acceptRow tableFirst k) s = .next (settle
        { idled s with
          mbc := { s.mbc with listenCount := 0 }, peers := ps, evq := { s.evq with records := records } }) := by
  have outside : s.mbc.station ≠ .member := by simp [listening]
  cases tableFirst with
  | true =>
    obtain ⟨ps, records, heard⟩ := hearFrame_outside (m := idled s) outside (some s.cyt.cycle) k sender payload
    refine ⟨idled s, ps, records, rfl, heard, ?_⟩
    rw [exec_tableFirst complete silent other, hears, heard, judges, controllerFrame_listening (by exact listening)]
    rfl
  | false =>
    obtain ⟨ps, records, heard⟩ :=
      hearFrame_outside (m := hearListening (idled s)) outside (some s.cyt.cycle) k sender payload
    refine ⟨hearListening (idled s), ps, records, rfl, heard, ?_⟩
    rw [exec_controllerFirst complete silent other, judges, controllerFrame_listening (by exact listening), hears, heard,
      foreignWins_eq_false fun member => absurd member outside]
    rfl

end

/-- Settles O45: the listen window begins anew, and the sender's entry is the one it held or a new one. -/
theorem listeningHears : Obligations.ListeningHears := by
  unfold Obligations.ListeningHears
  intro s k sender payload tableFirst complete silent other listening
  obtain ⟨m, ps, records, rest, heard, taken⟩ := exec_listening complete silent other listening tableFirst
  have untouched : Untouched s (settle { idled s with
      mbc := { s.mbc with listenCount := 0 }, peers := ps, evq := { s.evq with records := records } }) :=
    ⟨rfl, rfl, rfl, rfl, rfl, rfl, rfl, rfl⟩
  have peers : m.peers = s.peers := by rw [rest]; rfl
  have cfg : m.cfg = s.cfg := by rw [rest]; rfl
  have evq : m.evq = s.evq := by rw [rest]; rfl
  refine ⟨_, taken, rfl, rfl, rfl, rfl, rfl, untouched, ?_, ?_⟩
  · intro stranger room
    rw [hearFrame_stranger (peers ▸ stranger) (peers ▸ room), peers, cfg, evq] at heard
    obtain rfl : _ = ps := congrArg State.peers heard
    refine ⟨(congrArg (·.evq.records) heard).symm, heardBy s.cfg.fp k payload (newPeer sender .heard none), ?_, ?_⟩
    · have placed : findPeer (insertPeer s.peers (newPeer sender .heard none)) sender =
          some (newPeer sender .heard none) :=
        findPeer_insertPeer_new (p := newPeer sender .heard none) (findPeer_eq_none_iff.mp stranger)
      refine (findPeer_updatePeer fun _ => heardBy_id ..).trans ?_
      rw [placed]
      exact congrArg some (if_pos rfl)
    · refine ⟨by cases k <;> rfl, by cases k <;> rfl, ?_, ?_⟩
      · rintro rfl
        exact ⟨rfl, rfl⟩
      · rintro rfl
        exact ⟨rfl, rfl⟩
  · intro p found kind
    rw [hearFrame_known (peers ▸ found) (not_returns_of_kind kind), peers, cfg] at heard
    obtain rfl : _ = ps := congrArg State.peers heard
    refine ⟨(congrArg (·.evq.records) heard).symm.trans (by rw [evq]), heardBy s.cfg.fp k payload p, ?_, ?_, ?_⟩
    · refine (findPeer_updatePeer fun _ => heardBy_id ..).trans ?_
      rw [found]
      exact congrArg some (if_pos (findPeer_some found).2)
    · cases k <;> rfl
    · cases k <;> rfl

end Sys2Proof.Machine

/-! ## The station's own frames, and those that bear its id (R36, R39, R40, R66, R94, R101, R113) -/

namespace Sys2Proof.Machine

section
variable {s q : State} {k : FrameKind} {payload : List Byte} {f : Flight}

/-- The requests that a completed own frame leaves: its kind's is cleared unless the frame was renewed (R36). -/
theorem completeSender_eq (kind : f.kind = k) : completeSender (idled s) f = { s with tli := { s.tli with
    rx := Rx.idle, failures := 0, flight := none
    requests :=
      { recast := s.tli.requests.recast && (f.renewal || !(k == .recast))
        leave := s.tli.requests.leave && (f.renewal || !(k == .leave))
        hail := s.tli.requests.hail && (f.renewal || !(k == .hail))
        claim := s.tli.requests.claim && (f.renewal || !(k == .claim)) } } } := by
  cases renewed : f.renewal
  · cases k <;> simp [completeSender, idled, renewed, Requests.setKind, kind]
  · simp [completeSender, idled, renewed]

/-- The Plan Unit takes no own frame but a CLAIM in MEMBER. -/
theorem planFrame_of_not (other : k = .claim → q.mbc.station ≠ .member) : planFrame q k payload true = q := by
  unfold planFrame
  split
  next claims =>
    have claim : k = .claim := by simpa using claims
    exact if_neg (other claim)
  · rfl

/-- In ALIGNING, HAILING and LEAVING, and for an own HAIL or LEAVE in MEMBER, an own frame moves nothing at the
controller. -/
theorem controllerFrame_own_still {sender : Nat} {boundary : Bool} (still : q.mbc.station.following = true ∨
    (q.mbc.station = .member ∧ (k = .hail ∨ k = .leave)) ∨ (q.mbc.station = .leaving ∧ k ≠ .recast)) :
    controllerFrame q k sender payload true boundary = q := by
  obtain following | ⟨member, rfl | rfl⟩ | ⟨leaving, other⟩ := still
  · rw [controllerFrame_following following]
    rfl
  · simp [controllerFrame, member]
  · simp [controllerFrame, member]
  · exact controllerFrame_leaving leaving other

theorem takeLoopback_eq (member : q.mbc.station = .member) (c : ClaimContent) : takeLoopback q c = { q with
    plu := { q.plu with
      leg0 := { q.plu.leg0 with pending := some { demand := c.demand0, applyCycle := c.cycle + 2 } }
      leg1 := if c.demand1.isSome then
          { q.plu.leg1 with pending := some { demand := c.demand1.getD 0, applyCycle := c.cycle + 2 } }
        else q.plu.leg1
      age := 0
      claimed := true } } := by
  rw [takeLoopback, if_pos member]
  cases c.demand1 <;> rfl

/-- A RECAST in LEAVING of a station that the current view lists, by the first test it fails (R94 to R96). -/
theorem testRecast_leaving {r : RecastContent} {bytes sender : Nat} (leaving : q.mbc.station = .leaving) :
    ((∀ n, n ≤ 3 → recastTest q r bytes n) →
      testRecast q sender r bytes = { q with mbc := { q.mbc with pending := some (pendingView r) } }) ∧
    (∀ n, n ≤ 3 → ¬ recastTest q r bytes n → (∀ i, i < n → recastTest q r bytes i) →
      testRecast q sender r bytes = appended q
        { kind := .recastRejected, cycle := some q.cyt.cycle, station := some sender
          detail := some { code := n, value := r.epoch.toNat } }) := by
  have runs : q.mbc.station.running = true := by rw [leaving]; rfl
  constructor
  · intro passes
    simp only [testRecast, recastFailure_none passes, leaving, reduceCtorEq, if_false]
  · intro n within fails before
    simp only [testRecast, recastFailure_some within fails before, leaving, reduceCtorEq, if_false,
      post_eq_appended runs]

end

/-- Settles O46: a foreign frame with the own id detaches, an own frame settles the sender's records, and what the Plan
Unit and the controller take of it. -/
theorem ownIdFramesTaken : Obligations.OwnIdFramesTaken := by
  unfold Obligations.OwnIdFramesTaken
  constructor
  · intro s k payload tableFirst complete silent
    rw [exec_accepted complete, acceptFrame]
    split
    next f sending => simp [silent] at sending
    · rw [complete.kind, complete.sender, if_pos rfl, duplicateId, post_eq_appended (by exact complete.runs.2)]
      rfl
  · intro s q k payload f tableFirst complete sending kind is
    have done : completeSender (idled s) f = q := (completeSender_eq kind).trans is.symm
    have mbc : q.mbc = s.mbc := by rw [is]
    have cfg : q.cfg = s.cfg := by rw [is]
    have cyt : q.cyt = s.cyt := by rw [is]
    have row := exec_own complete sending tableFirst
    rw [done] at row
    refine ⟨fun listening => ?_, fun still => ?_, fun c claim content member listed inStep => ?_,
      fun r v recast content leaving current => ?_⟩
    · rw [row, planFrame_of_not fun _ => by rw [mbc, listening]; simp, controllerFrame_listening (mbc ▸ listening)]
      rfl
    · have unplanned : k = .claim → q.mbc.station ≠ .member := by
        rintro rfl member
        rw [mbc] at member
        obtain following | ⟨-, hail | leave⟩ | ⟨leaving, -⟩ := still
        · rw [member] at following
          cases following
        · cases hail
        · cases leave
        · rw [member] at leaving
          cases leaving
      rw [row, planFrame_of_not unplanned, controllerFrame_own_still (mbc ▸ still)]
    · subst claim content
      have takes : planFrame q .claim payload true = takeLoopback q (decodeClaim payload) := rfl
      have looped := takeLoopback_eq (mbc ▸ member) (decodeClaim payload)
      rw [takes, looped, controllerFrame_member_claim (by exact mbc ▸ member),
        memberClaim_inStep (listed.congr (by exact mbc)) (inStep.congr (by exact mbc) (by exact cyt))] at row
      exact ⟨_, row, rfl, rfl⟩
    · subst recast content
      have station : q.mbc.station = .leaving := mbc ▸ leaving
      have judged : controllerFrame q .recast s.cfg.id payload true s.tli.rx.boundary =
          memberRecast q s.cfg.id (decodeRecast payload) payload.length := controllerFrame_recast (by rw [station]; rfl)
      rw [planFrame_of_not (by simp), judged, memberRecast] at row
      have list : listedIn q.mbc.current s.cfg.id = lists v.members s.cfg.id := by rw [mbc, current]; rfl
      rw [list] at row
      refine ⟨fun unlisted => ?_, fun listed => ?_⟩
      · rw [row, if_neg (by simp [unlisted]), if_neg (by simp [station])]
      · have test : ∀ n, recastTest q (decodeRecast payload) payload.length n ↔
            recastTest s (decodeRecast payload) payload.length n :=
          recastTest_congr (by rw [mbc]) (by rw [mbc]) cfg cyt _ _
        obtain ⟨passes, fails⟩ := testRecast_leaving (r := decodeRecast payload) (bytes := payload.length)
          (sender := s.cfg.id) station
        simp only [test] at passes fails
        rw [cyt] at fails
        rw [if_pos listed] at row
        exact ⟨fun all => row.trans (by rw [passes all]; rfl),
          fun n within failed before => row.trans (by rw [fails n within failed before])⟩

end Sys2Proof.Machine

/-! ## HAIL, LEAVE and RECAST in MEMBER (R87 to R97) -/

namespace Sys2Proof.Machine

section
variable {m s t c : State} {k : FrameKind} {sender : Nat} {payload : List Byte} {v : View}

/-! ### What an entry's update leaves of the ranks -/

/-- Two tables agree on which stations are LOST. -/
def SameLost (ps qs : List Peer) : Prop :=
  ∀ id, (findPeer ps id).any (fun p => p.kind == .lost) = (findPeer qs id).any (fun p => p.kind == .lost)

@[simp] theorem heardBy_kind (fp : Fingerprint) (k : FrameKind) (payload : List Byte) (q : Peer) :
    (heardBy fp k payload q).kind = q.kind := by cases k <;> rfl

theorem sameLost_noted (fp : Fingerprint) (k : FrameKind) (sender : Nat) (payload : List Byte) (ps : List Peer) :
    SameLost (noted fp k sender payload ps) ps := by
  intro id
  rw [noted, findPeer_updatePeer fun _ => heardBy_id ..]
  cases findPeer ps id with
  | none => rfl
  | some p =>
    by_cases is : p.id = sender
    · simp [is]
    · simp [is]

theorem RankIs.of_sameLost {n : Nat} (h : RankIs s n) (current : t.mbc.current = s.mbc.current) (cfg : t.cfg = s.cfg)
    (peers : SameLost t.peers s.peers) (changes : t.mbc.changes = s.mbc.changes) : RankIs t n := by
  unfold RankIs at h ⊢
  rw [current, cfg, changes]
  simpa only [peers _] using h

theorem BackoffSet.carry {requests : Requests} (h : BackoffSet requests s) (mbc : t.mbc = s.mbc) (cfg : t.cfg = s.cfg)
    (peers : SameLost t.peers s.peers) (same : t.tli.requests = s.tli.requests) : BackoffSet requests t := by
  obtain ⟨n, rank, first, later⟩ := h
  refine ⟨n, rank.of_sameLost (by rw [mbc]) cfg peers (by rw [mbc]), ?_, ?_⟩
  · rwa [mbc, same]
  · rwa [mbc, same]

/-- A change placed on a part is placed on any that holds the same change list, views, timer and requests. -/
theorem PlacedIn.carry {records : List Event} {e : ChangeEntry} (h : PlacedIn records m c e) (before : m.mbc = s.mbc)
    (cyt : m.cyt = s.cyt) (asked : m.tli.requests = s.tli.requests) (mbc : t.mbc = c.mbc) (cfg : t.cfg = c.cfg)
    (posted : t.evq.records = c.evq.records) (requests : t.tli.requests = c.tli.requests)
    (peers : SameLost t.peers c.peers) : PlacedIn records s t e where
  list := by
    rw [mbc, posted, ← before, ← cyt]
    exact h.list
  rest := by
    rw [mbc, ← before]
    exact h.rest
  later held := by
    rw [mbc, requests, ← before, ← asked]
    exact h.later (before ▸ held)
  first empty := by
    rw [← asked]
    exact (h.first (before ▸ empty)).carry mbc cfg peers requests

/-! ### The room test -/

theorem roomFor_iff (ms : List Member) (id legs : Nat) (refresh : Bool) :
    RoomFor ms id legs refresh ↔ fits (withCandidate ms id legs refresh) = true := by
  unfold RoomFor withCandidate
  cases lists ms id with
  | false => simpa using (fits_insertMember ms { id := id, legs := legs, new := false }).symm
  | true =>
    simp only [reduceCtorEq, false_implies, true_and, forall_const, if_true, fits_iff]
    cases refresh
    · rfl
    · simp [setLegs]

theorem projectedMembers_eq {base : View} (based : baseView m = some base) :
    projectedMembers m sender = (walkChanges base.members (m.mbc.changes.filter (fun e => !(e.id == sender)))).members := by
  simp only [projectedMembers, based]

theorem listedIn_current (current : m.mbc.current = some v) (id : Nat) : listedIn m.mbc.current id = lists v.members id := by
  rw [current]
  rfl

/-! ### HAIL and LEAVE -/

/-- The change that a HAIL asks for (R88). -/
def hailChange (v : View) (sender : Nat) (h : HailContent) : Change :=
  if lists v.members sender then .refresh h.legs else .add h.legs

theorem judgeHail_mismatch {h : HailContent} (runs : m.mbc.station.running = true) (other : h.fp ≠ m.cfg.fp) :
    judgeHail m sender h = appended m (about m.cyt.cycle .hailRefused sender 0) :=
  (if_pos other).trans (post_eq_appended runs ..)

theorem judgeHail_placed {h : HailContent} (own : h.fp = m.cfg.fp) (current : m.mbc.current = some v)
    (room : RoomFor (projectedMembers m sender) sender h.legs (lists v.members sender)) :
    judgeHail m sender h = placeChange m sender (hailChange v sender h) := by
  rw [roomFor_iff, ← listedIn_current current] at room
  rw [hailChange, ← listedIn_current current]
  exact (if_neg (not_not.mpr own)).trans (if_pos room)

theorem judgeHail_full {h : HailContent} (runs : m.mbc.station.running = true) (own : h.fp = m.cfg.fp)
    (current : m.mbc.current = some v)
    (full : ¬ RoomFor (projectedMembers m sender) sender h.legs (lists v.members sender)) :
    judgeHail m sender h = appended m (about m.cyt.cycle .hailRefused sender 1) := by
  rw [roomFor_iff, ← listedIn_current current] at full
  exact (if_neg (not_not.mpr own)).trans ((if_neg full).trans (refuseHail_full runs sender))

theorem placeable_hailChange (held : List ChangeEntry) (v : View) (sender : Nat) (h : HailContent) :
    Placeable held sender (hailChange v sender h) := by
  rintro ⟨cause, kind⟩
  unfold hailChange at kind
  split at kind <;> cases kind

theorem takeLeave_listed (current : m.mbc.current = some v) (listed : lists v.members sender = true) :
    takeLeave m sender = placeChange m sender (.remove .leave) := if_pos ((listedIn_current current sender).trans listed)

theorem takeLeave_unlisted (current : m.mbc.current = some v) (unlisted : lists v.members sender = false) :
    takeLeave m sender = m := if_neg (by simp [listedIn_current current, unlisted])

/-! ### RECAST -/

theorem covered_iff (ms : List Member) (e : ChangeEntry) : covered ms e = true ↔ CoveredBy ms e := by
  unfold covered CoveredBy
  cases e.change <;> simp

/-- The entries that an adopted list covers leave the change list (R96). -/
theorem filter_covered (ms : List Member) (held : List ChangeEntry) :
    (held.filter (fun e => !covered ms e)).Sublist held ∧
      ∀ e, e ∈ held.filter (fun e => !covered ms e) ↔ e ∈ held ∧ ¬ CoveredBy ms e :=
  ⟨List.filter_sublist, fun e => by simp [← covered_iff]⟩

/-- The backoff timer handled again in MEMBER (R97): its requests, records and change list. -/
theorem restartBackoff_spec (member : m.mbc.station = .member) (current : m.mbc.current = some v) :
    (restartBackoff m).mbc.changes = m.mbc.changes ∧ (restartBackoff m).evq.records = m.evq.records ∧
    (m.mbc.changes = [] → (restartBackoff m).mbc.backoff = none ∧ (restartBackoff m).tli = m.tli) ∧
    (m.mbc.changes ≠ [] → BackoffSet m.tli.requests (restartBackoff m)) := by
  by_cases empty : m.mbc.changes = []
  · rw [restartBackoff, if_pos empty]
    exact ⟨rfl, rfl, fun _ => ⟨rfl, rfl⟩, fun held => absurd empty held⟩
  · rw [restartBackoff, if_neg empty]
    exact ⟨setBackoff_changes m, setBackoff_records m, fun none_ => absurd none_ empty,
      fun _ => backoffSet_setBackoff member current⟩

theorem restartBackoff_flight (silent : m.tli.flight = none) : (restartBackoff m).tli.flight = none := by
  unfold restartBackoff
  split
  · exact silent
  · exact setBackoff_flight silent

/-- The part once a RECAST has become the pending view: in MEMBER without the changes it covers (R96). -/
def recastAdopted (m : State) (r : RecastContent) : State :=
  { m with mbc := { m.mbc with
      pending := some (pendingView r)
      changes := if m.mbc.station = .member then m.mbc.changes.filter (fun e => !covered r.members e) else m.mbc.changes
      backoff := if m.mbc.station = .member ∧ m.mbc.changes.filter (fun e => !covered r.members e) = [] then none
        else m.mbc.backoff } }

/-- The part once a RECAST has been rejected by a test (R95). -/
def recastRejected (m : State) (sender : Nat) (r : RecastContent) (n : Nat) : State :=
  appended m { kind := .recastRejected, cycle := some m.cyt.cycle, station := some sender
               detail := some { code := n, value := r.epoch.toNat } }

/-- The timer handled again, in MEMBER. -/
def backoffAgain (m : State) : State := if m.mbc.station = .member then restartBackoff m else m

theorem testRecast_passes {r : RecastContent} {bytes : Nat} (passes : ∀ n, n ≤ 3 → recastTest m r bytes n) :
    testRecast m sender r bytes = backoffAgain (recastAdopted m r) := by
  by_cases member : m.mbc.station = .member
  · simp only [testRecast, recastFailure_none passes, backoffAgain, recastAdopted, member, if_true, coverChanges,
      clearBackoffIfEmpty_eq, true_and]
  · simp only [testRecast, recastFailure_none passes, backoffAgain, recastAdopted, member, if_false, false_and]

theorem testRecast_fails {r : RecastContent} {bytes n : Nat} (runs : m.mbc.station.running = true) (within : n ≤ 3)
    (fails : ¬ recastTest m r bytes n) (before : ∀ i, i < n → recastTest m r bytes i) :
    testRecast m sender r bytes = backoffAgain (recastRejected m sender r n) := by
  simp only [testRecast, recastFailure_some within fails before, post_eq_appended runs]
  rfl

theorem memberRecast_listed (current : m.mbc.current = some v) (listed : lists v.members sender = true)
    (r : RecastContent) (bytes : Nat) : memberRecast m sender r bytes = testRecast m sender r bytes :=
  if_pos ((listedIn_current current sender).trans listed)

/-! ### The two orders of delivery for a sender with an entry -/

/-- The part with its assembler at rest and these entries. -/
def idledWith (s : State) (ps : List Peer) : State := { idled s with peers := ps }

/-- A frame of a station that holds an entry which is not LOST: the controller judges the part, with the table's entries
as they were or as the frame leaves them, and the sender's entry takes the frame. -/
theorem exec_known (complete : Complete s k sender payload) (silent : s.tli.flight = none) (other : sender ≠ s.cfg.id)
    {p : Peer} (found : findPeer s.peers sender = some p) (kind : p.kind ≠ .lost)
    (native : s.mbc.station = .member → k = .claim ∨ k = .recast → InViews s sender)
    (aside : ∀ ps, Aside (idledWith s ps) (judges s k sender payload (idledWith s ps))) (tableFirst : Bool) :
    ∃ ps, SameLost (updatePeer s.peers sender (heardBy s.cfg.fp k payload)) ps ∧
      exec (acceptRow tableFirst k) s = .next (settle { judges s k sender payload (idledWith s ps) with
        peers := updatePeer s.peers sender (heardBy s.cfg.fp k payload) }) := by
  have known : ∀ m, m.peers = s.peers → m.cfg = s.cfg → hears s k sender payload m =
      { m with peers := updatePeer s.peers sender (heardBy s.cfg.fp k payload) } := by
    intro m peers cfg
    rw [hears, hearFrame_known (peers.symm ▸ found) (not_returns_of_kind kind), peers, cfg]
  cases tableFirst with
  | true =>
    refine ⟨updatePeer s.peers sender (heardBy s.cfg.fp k payload), fun _ => rfl, ?_⟩
    have stands := (aside (updatePeer s.peers sender (heardBy s.cfg.fp k payload))).peers
    rw [exec_tableFirst complete silent other, known (idled s) rfl rfl]
    exact congrArg (fun ps => Host.Outcome.next (settle { judges s k sender payload (idledWith s (updatePeer s.peers sender
      (heardBy s.cfg.fp k payload))) with peers := ps })) stands
  | false =>
    have stands := aside s.peers
    refine ⟨s.peers, sameLost_noted _ _ _ _ _, ?_⟩
    rw [exec_controllerFirst complete silent other, foreignWins_eq_false native]
    exact congrArg (fun t => Host.Outcome.next (settle t)) (known _ stands.peers stands.cfg)

/-- A HAIL or LEAVE heard in MEMBER moves the change list, its timer, the requests and the event queue alone. -/
theorem judges_hail (member : m.mbc.station = .member) : judges s .hail sender payload m =
    judgeHail m sender (decodeHail payload) := controllerFrame_member_hail member

theorem judges_leave (member : m.mbc.station = .member) : judges s .leave sender payload m = takeLeave m sender :=
  controllerFrame_member_leave member

theorem judges_recast (grouped : m.mbc.station.inGroup = true) (current : m.mbc.current = some v)
    (listed : lists v.members sender = true) : judges s .recast sender payload m =
      testRecast m sender (decodeRecast payload) payload.length :=
  (controllerFrame_recast grouped).trans (memberRecast_listed current listed ..)

theorem exec_hail {p : Peer} (complete : Complete s .hail sender payload) (silent : s.tli.flight = none)
    (other : sender ≠ s.cfg.id) (member : s.mbc.station = .member) (found : findPeer s.peers sender = some p)
    (kind : p.kind ≠ .lost) (tableFirst : Bool) :
    ∃ ps, SameLost (updatePeer s.peers sender (heardBy s.cfg.fp .hail payload)) ps ∧
      exec (.hailAccepted tableFirst) s = .next (settle { judgeHail (idledWith s ps) sender (decodeHail payload) with
        peers := updatePeer s.peers sender (heardBy s.cfg.fp .hail payload) }) := by
  have is : ∀ ps, judges s .hail sender payload (idledWith s ps) =
      judgeHail (idledWith s ps) sender (decodeHail payload) := fun ps => judges_hail member
  obtain ⟨ps, lost, row⟩ := exec_known complete silent other found kind (by simp)
    (fun ps => is ps ▸ (confined_judgeHail ..).aside) tableFirst
  exact ⟨ps, lost, is ps ▸ row⟩

theorem exec_leaveFrame {p : Peer} (complete : Complete s .leave sender payload) (silent : s.tli.flight = none)
    (other : sender ≠ s.cfg.id) (member : s.mbc.station = .member) (found : findPeer s.peers sender = some p)
    (kind : p.kind ≠ .lost) (tableFirst : Bool) :
    ∃ ps, SameLost (updatePeer s.peers sender (fun q => { q with silence := 0 })) ps ∧
      exec (.leaveAccepted tableFirst) s = .next (settle { takeLeave (idledWith s ps) sender with
        peers := updatePeer s.peers sender (fun q => { q with silence := 0 }) }) := by
  have is : ∀ ps, judges s .leave sender payload (idledWith s ps) = takeLeave (idledWith s ps) sender :=
    fun ps => judges_leave member
  obtain ⟨ps, lost, row⟩ := exec_known complete silent other found kind (by simp)
    (fun ps => is ps ▸ (confined_takeLeave ..).aside) tableFirst
  exact ⟨ps, lost, is ps ▸ row⟩

/-- What is confined to the change list, with an entry updated beside it, reaches nothing outside the part. -/
theorem Confined.untouched_beside {ps : List Peer} (moved : Confined (idledWith s ps) c) (qs : List Peer) :
    Untouched s (settle { c with peers := qs }) where
  cfg := moved.cfg
  locked := (congrArg State.locked moved.eq :)
  port := moved.hpt
  enables := (congrArg (·.evq.enables) moved.eq :)
  reset := (congrArg State.resetAsserted moved.eq :)
  sel := (congrArg State.selLow moved.eq :)
  queue := (congrArg State.pending moved.eq :)
  prescaler := (congrArg (·.cyt.prescRunning) moved.eq :)

theorem judgeHail_flight (silent : m.tli.flight = none) (h : HailContent) : (judgeHail m sender h).tli.flight = none := by
  unfold judgeHail
  dsimp only
  split
  · exact silent
  · split
    · exact placeChange_flight silent ..
    · exact silent

theorem takeLeave_flight (silent : m.tli.flight = none) : (takeLeave m sender).tli.flight = none := by
  unfold takeLeave
  split
  · exact placeChange_flight silent ..
  · exact silent

end

/-- Settles O51: the LEAVE, the HAIL and the loss place their changes as `placedIn_placeChange` says. -/
theorem changesPlaced : Obligations.ChangesPlaced := by
  unfold Obligations.ChangesPlaced
  constructor
  · intro s k payload sender p v base tableFirst complete silent other member current found kind is ascending
    have based : baseView s = some base := by
      rw [is]
      unfold baseView
      cases s.mbc.pending with
      | none => exact current
      | some w => rfl
    have runs : s.mbc.station.running = true := by rw [member]; rfl
    constructor
    · rintro rfl listed place
      obtain ⟨ps, lost, row⟩ := exec_leaveFrame complete silent other member found kind tableFirst
      have taken := takeLeave_listed (m := idledWith s ps) current listed
      have moved := confined_takeLeave (idledWith s ps) sender
      have placed := placedIn_placeChange (s := idledWith s ps) (change := .remove .leave) member current fun _ => place
      rw [← taken] at placed
      exact ⟨_, row, moved.cyt, moved.plu, moved.sli, moved.untouched_beside _, rfl,
        moved.tli_silent silent (takeLeave_flight silent), placed.carry rfl rfl rfl rfl rfl rfl rfl (moved.peers ▸ lost)⟩
    · rintro h ms kept dropped refresh rfl rfl own walked
      obtain ⟨ps, lost, row⟩ := exec_hail complete silent other member found kind tableFirst
      have moved := confined_judgeHail (idledWith s ps) sender (decodeHail payload)
      have projected : projectedMembers (idledWith s ps) sender = ms := by
        rw [projectedMembers_eq (by exact based)]
        exact congrArg Walk.members (walked.eq ascending)
      have entry : heardBy s.cfg.fp .hail payload = fun q => { q with
          silence := 0, legs := some (decodeHail payload).legs, verdict := .isMatch } :=
        funext fun q => by simp [heardBy, own]
      rw [entry] at lost row
      refine ⟨_, row, moved.cyt, moved.plu, moved.sli, moved.untouched_beside _, rfl,
        moved.tli_silent silent (judgeHail_flight (m := idledWith s ps) silent _), fun room => ?_, fun full => ?_⟩
      · have taken := judgeHail_placed (m := idledWith s ps) own current (projected.symm ▸ room)
        have placed := placedIn_placeChange (s := idledWith s ps) member current
          (placeable_hailChange _ v sender (decodeHail payload))
        rw [← taken] at placed
        exact placed.carry rfl rfl rfl rfl rfl rfl rfl (moved.peers ▸ lost)
      · rw [judgeHail_full (m := idledWith s ps) runs own current (projected.symm ▸ full)]
        exact ⟨rfl, rfl, rfl⟩
  · intro s id p v released member current found kind overdue place
    have runs : s.mbc.station.running = true := by rw [member]; rfl
    let marked := appended { s with peers := updatePeer s.peers id (fun q => { q with kind := .lost }) }
      (about s.cyt.cycle .peerLost id p.silence)
    have row := exec_due (c := .peerLost id) rfl released (peerLostDue_of (by rw [member]; rfl) found kind overdue)
    have taken : losePeer s id = placeChange marked id (.remove .lost) := by
      rw [losePeer_eq runs found]
      exact if_pos member
    rw [taken] at row
    have moved := confined_placeChange marked id (.remove .lost)
    have placed := placedIn_placeChange (s := marked) (change := .remove .lost) member current fun _ => place
    refine ⟨_, row, moved.cyt, moved.plu, moved.sli, taken ▸ (inside_losePeer s id).untouched.settle, moved.peers,
      moved.tli, ?_⟩
    exact placed.carry rfl rfl rfl rfl rfl rfl rfl fun _ => rfl

end Sys2Proof.Machine

/-! ## HAILs and LEAVEs to an empty change list, and RECASTs in MEMBER and LEAVING (R87 to R97) -/

namespace Sys2Proof.Machine

section
variable {m s t : State} {sender : Nat} {payload : List Byte} {v : View}

/-- In an empty change list a change is the only entry, and nothing is posted. -/
theorem PlacedIn.of_empty {records : List Event} {e : ChangeEntry} (h : PlacedIn records s t e)
    (empty : s.mbc.changes = []) : t.mbc.changes = [e] ∧ t.evq.records = records := by
  obtain ⟨refused, placed, stands, -⟩ := h.list
  rw [empty] at placed
  generalize t.mbc.changes = changes at placed ⊢
  cases placed with
  | replaced held => simp at held
  | appended => exact ⟨rfl, stands rfl⟩
  | displaced whole => simp at whole
  | refused _ full => simp at full

/-- At the lowest id of the view the rank is 0, so a timer that is set requests a RECAST at once (R90, R91). -/
theorem BackoffSet.at_once {requests : Requests} (h : BackoffSet requests t) (current : t.mbc.current = some v)
    (lowest : ∀ m ∈ v.members, t.cfg.id ≤ m.id) :
    t.mbc.backoff = none ∧ t.tli.requests = { requests with recast := true } := by
  obtain ⟨n, ⟨w, held, count⟩, first, -⟩ := h
  obtain rfl : v = w := Option.some.inj (current.symm.trans held)
  refine first (count.trans (List.length_eq_zero_iff.mpr (List.filter_eq_nil_iff.mpr fun m hm => ?_)))
  simp [lowest m hm]

theorem projectedMembers_of_empty (current : m.mbc.current = some v) (pending : m.mbc.pending = none)
    (empty : m.mbc.changes = []) : projectedMembers m sender = v.members := by
  rw [projectedMembers_eq (base := v) (by simp [baseView, pending, current]), empty]
  rfl

end

/-- Settles O49, with what `placedIn_placeChange` says of an empty change list. -/
theorem hailAndLeaveTakenByMember : Obligations.HailAndLeaveTakenByMember := by
  unfold Obligations.HailAndLeaveTakenByMember
  constructor
  · rintro s h payload sender p v tableFirst complete rfl silent other member current pending empty found kind
    have runs : s.mbc.station.running = true := by rw [member]; rfl
    obtain ⟨ps, lost, row⟩ := exec_hail complete silent other member found kind tableFirst
    have moved := confined_judgeHail (idledWith s ps) sender (decodeHail payload)
    have projected : projectedMembers (idledWith s ps) sender = v.members :=
      projectedMembers_of_empty current pending empty
    have room : RoomFor v.members sender (decodeHail payload).legs (lists v.members sender) ↔
        fits (if lists v.members sender then setLegs v.members sender (decodeHail payload).legs
          else insertMember v.members { id := sender, legs := (decodeHail payload).legs, new := false }) = true := by
      rw [roomFor_iff, withCandidate]
      cases lists v.members sender <;> rfl
    refine ⟨_, row, rfl, fun foreign => ?_, fun own fit => ?_, fun own full => ?_, moved.cyt, moved.plu, moved.sli,
      moved.untouched_beside _⟩
    · rw [judgeHail_mismatch (m := idledWith s ps) runs foreign]
      exact ⟨rfl, rfl, rfl⟩
    · have taken := judgeHail_placed (m := idledWith s ps) (sender := sender) own current
        (by rw [projected]; exact room.mpr fit)
      have placed := placedIn_placeChange (s := idledWith s ps) member current
        (placeable_hailChange _ v sender (decodeHail payload))
      rw [← taken] at placed
      obtain ⟨changes, records⟩ := placed.of_empty empty
      refine ⟨records, changes, fun lowest => ?_⟩
      obtain ⟨backoff, requests⟩ := (placed.first empty).at_once (moved.current.trans current) (moved.cfg ▸ lowest)
      exact ⟨(congrArg Requests.recast requests :), backoff⟩
    · have refused : ¬ RoomFor v.members sender (decodeHail payload).legs (lists v.members sender) := by
        rw [room, full]
        simp
      rw [judgeHail_full (m := idledWith s ps) runs own current (projected.symm ▸ refused)]
      exact ⟨rfl, rfl⟩
  · intro s payload sender p v tableFirst complete silent other member current empty found kind
    obtain ⟨ps, lost, row⟩ := exec_leaveFrame complete silent other member found kind tableFirst
    have moved := confined_takeLeave (idledWith s ps) sender
    have listed_ : lists v.members sender = true → (takeLeave (idledWith s ps) sender).mbc.changes =
        [{ id := sender, change := .remove .leave, trigger := s.cyt.cycle }] ∧
        (takeLeave (idledWith s ps) sender).evq.records = s.evq.records := by
      intro listed
      rw [takeLeave_listed (m := idledWith s ps) current listed]
      refine (placedIn_placeChange (s := idledWith s ps) member current fun _ => ?_).of_empty empty
      exact .inl (by rw [show (idledWith s ps).mbc.changes = [] from empty]; simp)
    have unlisted_ := takeLeave_unlisted (m := idledWith s ps) (sender := sender) current
    refine ⟨_, row, rfl, fun listed => ⟨(listed_ listed).1, moved.current, moved.pendingView⟩, fun unlisted => ?_, ?_,
      moved.cyt, moved.plu, moved.sli, moved.untouched_beside _⟩
    · rw [unlisted_ unlisted]
      exact ⟨rfl, rfl⟩
    · cases listed : lists v.members sender with
      | true => exact (listed_ listed).2
      | false =>
        rw [unlisted_ listed]
        rfl

/-! ### RECASTs -/

section
variable {m s t : State} {sender n : Nat} {payload : List Byte} {v : View} {r : RecastContent}

theorem confined_backoffAgain (m : State) : Confined m (backoffAgain m) := .ite (confined_restartBackoff m) (.refl m)

theorem backoffAgain_stands (current : m.mbc.current = some v) :
    (backoffAgain m).mbc.changes = m.mbc.changes ∧ (backoffAgain m).evq.records = m.evq.records := by
  unfold backoffAgain
  split
  next member =>
    obtain ⟨changes, records, -⟩ := restartBackoff_spec member current
    exact ⟨changes, records⟩
  · exact ⟨rfl, rfl⟩

/-- The backoff timer once a RECAST has been taken or rejected stands as R97 says. -/
theorem backoffAgain_spec (current : m.mbc.current = some v) :
    BackoffAgain m (backoffAgain m) := by
  by_cases member : m.mbc.station = .member
  · obtain ⟨changes, -, empty, held⟩ := restartBackoff_spec member current
    rw [backoffAgain, if_pos member]
    refine ⟨fun _ none_ => ?_, fun _ some_ => held (changes ▸ some_), fun leaving => ?_⟩
    · obtain ⟨backoff, tli⟩ := empty (changes ▸ none_)
      exact ⟨backoff, congrArg TalkLine.requests tli⟩
    · rw [member] at leaving
      cases leaving
  · rw [backoffAgain, if_neg member]
    exact ⟨fun is => absurd is member, fun is => absurd is member, fun _ => ⟨rfl, rfl⟩⟩

/-- The state of a RECAST that is tested: adopted, or rejected by the first test it fails (R95). -/
theorem testRecast_cases (runs : m.mbc.station.running = true) (sender : Nat) (r : RecastContent) (bytes : Nat) :
    ((∀ n, n ≤ 3 → recastTest m r bytes n) ∧ testRecast m sender r bytes = backoffAgain (recastAdopted m r)) ∨
    ∃ n, n ≤ 3 ∧ ¬ recastTest m r bytes n ∧ (∀ i, i < n → recastTest m r bytes i) ∧
      testRecast m sender r bytes = backoffAgain (recastRejected m sender r n) := by
  obtain passes | ⟨n, within, fails, before⟩ := recastTest_cases m r bytes
  · exact .inl ⟨passes, testRecast_passes passes⟩
  · exact .inr ⟨n, within, fails, before, testRecast_fails runs within fails before⟩

/-- In MEMBER the entries that stay are those not covered; in LEAVING the list stands. -/
theorem recastAdopted_changes (m : State) (r : RecastContent) :
    (m.mbc.station = .member → (recastAdopted m r).mbc.changes.Sublist m.mbc.changes ∧
      ∀ e, e ∈ (recastAdopted m r).mbc.changes ↔ e ∈ m.mbc.changes ∧ ¬ CoveredBy r.members e) ∧
    (m.mbc.station = .leaving → (recastAdopted m r).mbc.changes = m.mbc.changes) := by
  constructor
  · intro member
    have kept : (recastAdopted m r).mbc.changes = m.mbc.changes.filter (fun e => !covered r.members e) := if_pos member
    rw [kept]
    exact filter_covered r.members m.mbc.changes
  · intro leaving
    exact if_neg (by simp [leaving])

/-- What a RECAST of a listed station makes of the controller, in MEMBER and LEAVING (R94 to R97). -/
structure RecastTaken (m : State) (sender : Nat) (r : RecastContent) (bytes : Nat) (t : State) : Prop where
  mbc : t.mbc = { m.mbc with pending := t.mbc.pending, changes := t.mbc.changes, backoff := t.mbc.backoff }
  passes : (∀ n, n ≤ 3 → recastTest m r bytes n) →
    t.mbc.pending = some { view := { epoch := r.epoch, members := r.members, fp := r.fp }
                           switchCycle := r.switchCycle } ∧
    t.evq.records = m.evq.records ∧
    (m.mbc.station = .member → t.mbc.changes.Sublist m.mbc.changes ∧
      ∀ e, e ∈ t.mbc.changes ↔ e ∈ m.mbc.changes ∧ ¬ CoveredBy r.members e) ∧
    (m.mbc.station = .leaving → t.mbc.changes = m.mbc.changes)
  fails : ∀ n, n ≤ 3 → ¬ recastTest m r bytes n → (∀ i, i < n → recastTest m r bytes i) →
    t.mbc.pending = m.mbc.pending ∧ t.mbc.changes = m.mbc.changes ∧
    t.evq.records = arrive m.evq.records
      { kind := .recastRejected, cycle := some m.cyt.cycle, station := some sender
        detail := some { code := n, value := r.epoch.toNat } }
  again : BackoffAgain m t
  alone : t = { m with
    mbc := t.mbc, evq := { m.evq with records := t.evq.records }
    tli := { m.tli with requests := t.tli.requests, flight := t.tli.flight } }

theorem recastTaken_testRecast (grouped : m.mbc.station.inGroup = true) (current : m.mbc.current = some v)
    (sender : Nat) (r : RecastContent) (bytes : Nat) :
    RecastTaken m sender r bytes (testRecast m sender r bytes) := by
  have runs := running_of_inGroup grouped
  obtain ⟨passes, taken⟩ | ⟨n, within, fails, before, taken⟩ := testRecast_cases runs sender r bytes
  · obtain ⟨changes, records⟩ := backoffAgain_stands (m := recastAdopted m r) current
    have moved := confined_backoffAgain (recastAdopted m r)
    have again := backoffAgain_spec (m := recastAdopted m r) current
    obtain ⟨member, leaving⟩ := recastAdopted_changes m r
    rw [taken]
    refine ⟨by rw [moved.mbc]; rfl, fun _ => ⟨congrArg Membership.pending moved.mbc, records, ?_, ?_⟩,
      fun n within fails _ => absurd (passes n within) fails, ⟨again.empty, again.held, fun is => ?_⟩,
      by rw [moved.eq]; rfl⟩
    · rwa [changes]
    · rwa [changes]
    · obtain ⟨backoff, requests⟩ := again.leaving is
      exact ⟨backoff.trans (if_neg (by simp [is])), requests⟩
  · obtain ⟨changes, records⟩ := backoffAgain_stands (m := recastRejected m sender r n) current
    have moved := confined_backoffAgain (recastRejected m sender r n)
    have again := backoffAgain_spec (m := recastRejected m sender r n) current
    rw [taken]
    refine ⟨by rw [moved.mbc]; rfl, fun passes => absurd (passes n within) fails, fun i small failed earlier => ?_,
      ⟨again.empty, again.held, again.leaving⟩, by rw [moved.eq]; rfl⟩
    obtain rfl : n = i := by
      rcases lt_trichotomy n i with less | same | more
      · exact absurd (earlier n less) fails
      · exact same
      · exact absurd (before i more) failed
    exact ⟨(congrArg Membership.pending moved.mbc :), changes, records⟩

/-- A RECAST leaves no frame in flight where there was none. -/
theorem testRecast_flight (runs : m.mbc.station.running = true) (silent : m.tli.flight = none) (sender : Nat)
    (r : RecastContent) (bytes : Nat) : (testRecast m sender r bytes).tli.flight = none := by
  have quiet : ∀ q : State, q.tli.flight = none → (backoffAgain q).tli.flight = none := by
    intro q none_
    unfold backoffAgain
    split
    · exact restartBackoff_flight none_
    · exact none_
  obtain ⟨-, taken⟩ | ⟨n, -, -, -, taken⟩ := testRecast_cases runs sender r bytes
  · rw [taken]
    exact quiet _ silent
  · rw [taken]
    exact quiet _ silent

/-- What a RECAST taken reaches outside the part, with the entries beside it. -/
theorem RecastTaken.untouched {bytes : Nat} (taken : RecastTaken m sender r bytes t) (before : Untouched s m)
    (qs : List Peer) : Untouched s (settle { t with peers := qs }) where
  cfg := (congrArg State.cfg taken.alone).trans before.cfg
  locked := (congrArg State.locked taken.alone).trans before.locked
  port := (congrArg State.hpt taken.alone).trans before.port
  enables := (congrArg (·.evq.enables) taken.alone).trans before.enables
  reset := (congrArg State.resetAsserted taken.alone).trans before.reset
  sel := (congrArg State.selLow taken.alone).trans before.sel
  queue := (congrArg State.pending taken.alone).trans before.queue
  prescaler := (congrArg (·.cyt.prescRunning) taken.alone).trans before.prescaler

/-- The entry of a RECAST's sender: silence 0, and the leg count of its own member byte. -/
theorem updatePeer_recast (ps : List Peer) (fp : Fingerprint) (payload : List Byte) (sender : Nat) :
    updatePeer ps sender (heardBy fp .recast payload) = updatePeer ps sender (fun q => { q with
      silence := 0, legs := recastLegs (decodeRecast payload).members sender q.legs }) :=
  updatePeer_congr fun q _ is => by rw [← is]; rfl

/-- A RECAST of a listed station that has an entry: the controller tests it, and the entry takes the frame. -/
theorem exec_recastFrame {p : Peer} (complete : Complete s .recast sender payload) (silent : s.tli.flight = none)
    (other : sender ≠ s.cfg.id) (grouped : s.mbc.station.inGroup = true) (current : s.mbc.current = some v)
    (listed : lists v.members sender = true) (found : findPeer s.peers sender = some p) (kind : p.kind ≠ .lost)
    (tableFirst : Bool) :
    ∃ ps seats, seats = updatePeer s.peers sender (fun q => { q with
        silence := 0, legs := recastLegs (decodeRecast payload).members sender q.legs }) ∧ SameLost seats ps ∧
      exec (.recastAccepted tableFirst) s = .next (settle
        { testRecast (idledWith s ps) sender (decodeRecast payload) payload.length with peers := seats }) := by
  have is : ∀ ps, judges s .recast sender payload (idledWith s ps) =
      testRecast (idledWith s ps) sender (decodeRecast payload) payload.length :=
    fun ps => judges_recast grouped current listed
  have inView : InViews s sender := .inl ⟨v, current, listed⟩
  obtain ⟨ps, lost, row⟩ := exec_known complete silent other found kind (fun _ _ => inView)
    (fun ps => is ps ▸ aside_testRecast ..) tableFirst
  rw [updatePeer_recast] at lost row
  exact ⟨ps, _, rfl, lost, is ps ▸ row⟩

end

/-- Settles O50. -/
theorem recastOfMemberTaken : Obligations.RecastOfMemberTaken := by
  unfold Obligations.RecastOfMemberTaken
  rintro s r payload sender p v tableFirst complete rfl silent other grouped current listed found kind
  obtain ⟨ps, seats, is, -, row⟩ := exec_recastFrame complete silent other grouped current listed found kind tableFirst
  have taken := recastTaken_testRecast (m := idledWith s ps) grouped current sender (decodeRecast payload) payload.length
  have test : ∀ n, recastTest (idledWith s ps) (decodeRecast payload) payload.length n ↔
      recastTest s (decodeRecast payload) payload.length n := fun n => recastTest_congr rfl rfl rfl rfl ..
  refine ⟨_, row, fun passes => taken.passes fun n within => (test n).mpr (passes n within),
    fun n within fails before => taken.fails n within ((test n).not.mpr fails) fun i less => (test i).mpr (before i less),
    is, (congrArg Membership.current taken.mbc :), (congrArg Membership.station taken.mbc :),
    (congrArg State.cyt taken.alone :), (congrArg State.plu taken.alone :), (congrArg State.sli taken.alone :), ?_⟩
  exact taken.untouched (s := s) ⟨rfl, rfl, rfl, rfl, rfl, rfl, rfl, rfl⟩ seats

theorem completeSender_recast {s : State} {f : Flight} (kind : f.kind = .recast) : completeSender (idled s) f =
    { s with tli := { s.tli with
      rx := Rx.idle, failures := 0, flight := none
      requests := { s.tli.requests with recast := s.tli.requests.recast && f.renewal } } } := by
  rw [completeSender_eq kind]
  simp

/-- Settles O52: another station's RECAST and the station's own come to the same test, on a line settled before it. -/
theorem recastRestartsBackoff : Obligations.RecastRestartsBackoff := by
  unfold Obligations.RecastRestartsBackoff
  rintro s r payload sender v tableFirst settled seats complete rfl member current listed which
  have grouped : s.mbc.station.inGroup = true := by rw [member]; rfl
  obtain ⟨ps, lost, silent, row⟩ : ∃ ps, SameLost seats ps ∧ settled.flight = none ∧
      exec (.recastAccepted tableFirst) s = .next (settle
        { testRecast { s with tli := settled, peers := ps } sender (decodeRecast payload) payload.length with
          peers := seats }) := by
    obtain ⟨silent, other, ⟨p, found, kind⟩, rfl, rfl⟩ | ⟨f, sending, kind, rfl, rfl, rfl⟩ := which
    · obtain ⟨ps, seats, rfl, lost, row⟩ :=
        exec_recastFrame complete silent other grouped current listed found kind tableFirst
      exact ⟨ps, lost, silent, row⟩
    · refine ⟨s.peers, fun _ => rfl, rfl, ?_⟩
      have row := exec_own complete sending tableFirst
      rw [completeSender_recast kind, planFrame_of_not (by simp), controllerFrame_recast (by exact grouped),
        memberRecast_listed (by exact current) listed] at row
      refine row.trans ?_
      exact congrArg (fun qs => Host.Outcome.next (settle { testRecast _ _ _ _ with peers := qs }))
        (aside_testRecast _ _ _ _).peers
  let q : State := { s with tli := settled, peers := ps }
  have taken := recastTaken_testRecast (m := q) grouped current sender (decodeRecast payload) payload.length
  have test : ∀ n, recastTest q (decodeRecast payload) payload.length n ↔
      recastTest s (decodeRecast payload) payload.length n := fun n => recastTest_congr rfl rfl rfl rfl ..
  have still := testRecast_flight (m := q) (running_of_inGroup grouped) silent sender (decodeRecast payload) payload.length
  have line : (testRecast q sender (decodeRecast payload) payload.length).tli = { settled with
      requests := (testRecast q sender (decodeRecast payload) payload.length).tli.requests } := by
    have moved := congrArg State.tli taken.alone
    rw [still] at moved
    exact moved.trans (by rw [← silent])
  have aside := aside_testRecast q sender (decodeRecast payload) payload.length
  refine ⟨_, row, taken.mbc, fun passes => ?_, fun n within fails before => ?_, fun empty => ?_, fun held => ?_, rfl,
    (congrArg State.cyt taken.alone :), (congrArg State.plu taken.alone :), (congrArg State.sli taken.alone :), ?_⟩
  · obtain ⟨pending, records, kept, -⟩ := taken.passes fun n within => (test n).mpr (passes n within)
    obtain ⟨sub, entries⟩ := kept member
    exact ⟨pending, sub, entries, records⟩
  · exact taken.fails n within ((test n).not.mpr fails) fun i less => (test i).mpr (before i less)
  · obtain ⟨backoff, requests⟩ := taken.again.empty member empty
    exact ⟨backoff, line.trans (by rw [requests])⟩
  · exact ⟨(taken.again.held member held).carry rfl rfl (aside.peers ▸ lost) rfl, line⟩
  · exact taken.untouched (s := s) ⟨rfl, rfl, rfl, rfl, rfl, rfl, rfl, rfl⟩ seats

end Sys2Proof.Machine

/-! ## What the Membership Controller makes of a frame of another station (R16, R52, R88 to R97, R101, R105 to R107) -/

namespace Sys2Proof.Machine

section
variable {m s t : State} {k : FrameKind} {sender : Nat} {payload : List Byte} {v : View}

/-! ### Followers -/

theorem observedEpoch_iff (o : Observed) (e : U16) : observedEpoch o = some e ↔ ObservedEpochIs o e := by
  unfold observedEpoch ObservedEpochIs
  cases best : o.best with
  | none => cases o.pending <;> simp [eq_comm (a := e)]
  | some b =>
    cases o.pending with
    | none => simp [eq_comm (a := e)]
    | some p =>
      cases fresh : newer p.view.epoch b.epoch <;> simp [fresh, eq_comm (a := e)]

theorem observable_iff (s : State) (sender : Nat) (r : RecastContent) (bytes : Nat) :
    observable s sender r bytes = true ↔ FollowerTakes s sender r bytes := by
  have epoch : (match observedEpoch s.mbc.observed with
      | some e => newer r.epoch e
      | none => true) = true ↔ ∀ e, ObservedEpochIs s.mbc.observed e → newer r.epoch e = true := by
    simp only [← observedEpoch_iff]
    cases observedEpoch s.mbc.observed <;> simp
  have formed := malformed_eq_false_iff s r bytes
  have near := switchInReach_iff s r bytes
  constructor
  · intro takes
    simp only [observable, Bool.and_eq_true, List.contains_iff_mem, Bool.not_eq_true', beq_iff_eq] at takes
    obtain ⟨⟨⟨⟨⟨best, wellFormed⟩, own⟩, newer_⟩, adopted⟩, reach⟩ := takes
    exact ⟨best, formed.mp wellFormed, own, epoch.mp newer_, adopted, near.mp reach⟩
  · rintro ⟨best, wellFormed, own, newer_, adopted, reach⟩
    simp only [observable, Bool.and_eq_true, List.contains_iff_mem, Bool.not_eq_true', beq_iff_eq]
    exact ⟨⟨⟨⟨⟨best, formed.mpr wellFormed⟩, own⟩, epoch.mpr newer_⟩, adopted⟩, near.mpr reach⟩

theorem claimCase_lower_iff (o : Observed) (sender : Nat) (c : ClaimContent) :
    claimCase o sender c = .lower ↔ FromLowerView o sender c := by
  unfold claimCase FromLowerView
  cases o.best with
  | none => simp
  | some b =>
    by_cases same : c.identity = b.identity
    · simp [same]
    · by_cases moved : sender ∈ o.senders ∧ newer c.epoch b.epoch = true
      · simp [same, moved]
      · have stays : ¬ (o.senders.contains sender && newer c.epoch b.epoch) = true := by simpa using moved
        have later : sender ∈ o.senders → newer c.epoch b.epoch = false := by simpa using moved
        simp only [same, stays, if_false]
        cases above : ranksAbove c.identity b.identity
        · simpa [same, above] using later
        · simp [same, above]

/-- An ALIGNING part with lock and the adopted flag enters HAILING (R52). -/
theorem tryHail_hails (aligning : s.mbc.station = .aligning) (lock : s.cyt.lockCount = 4)
    (adopted : s.cyt.adopted = true) : tryHail s = hailed s := by
  unfold tryHail
  rw [if_pos ⟨aligning, by simp [lockFlag, lock], adopted⟩]
  dsimp only
  rw [postRequest_eq_requested (by rfl)]
  simp [hailed, requested, setStation, Requests.withdraw, permitted, Requests.empty]

theorem tryHail_stays (not_ : ¬ (s.mbc.station = .aligning ∧ s.cyt.lockCount = 4)) : tryHail s = s := by
  unfold tryHail
  refine if_neg fun h => not_ ⟨h.1, ?_⟩
  simpa [lockFlag] using h.2.1

/-- The part once a follower has taken a CLAIM's cycle number and observed record, before it may hail (R16, R106). -/
def followed (s : State) (sender : Nat) (c : ClaimContent) (boundary : Bool) : State :=
  { s with
    cyt := { s.cyt with cycle := if boundary then c.cycle + 1 else c.cycle, adopted := true, begun := false }
    mbc := { s.mbc with observed := observeClaim s.mbc.observed sender c } }

theorem followClaim_lower {c : ClaimContent} {boundary : Bool} (lower : FromLowerView s.mbc.observed sender c) :
    followClaim s sender c boundary = s := if_pos ((claimCase_lower_iff ..).mpr lower)

theorem followClaim_takes {c : ClaimContent} {boundary : Bool} (higher : ¬ FromLowerView s.mbc.observed sender c) :
    followClaim s sender c boundary = if s.mbc.station = .aligning ∧ s.cyt.lockCount = 4 then
      hailed (followed s sender c boundary) else followed s sender c boundary := by
  refine (if_neg ((claimCase_lower_iff ..).not.mpr higher)).trans ?_
  split
  next locks => exact tryHail_hails (s := followed s sender c boundary) locks.1 locks.2 rfl
  next stays => exact tryHail_stays (s := followed s sender c boundary) stays

theorem followRecast_takes {r : RecastContent} {bytes : Nat} (takes : FollowerTakes s sender r bytes) :
    followRecast s sender r bytes = { s with mbc := { s.mbc with observed := { s.mbc.observed with
      pending := some (pendingView r) } } } := if_pos ((observable_iff ..).mpr takes)

theorem followRecast_ignores {r : RecastContent} {bytes : Nat} (ignores : ¬ FollowerTakes s sender r bytes) :
    followRecast s sender r bytes = s := if_neg ((observable_iff ..).not.mpr ignores)

theorem judges_following (following : m.mbc.station.following = true) :
    (k = .hail ∨ k = .leave → judges s k sender payload m = m) ∧
    (k = .claim → judges s k sender payload m = followClaim m sender (decodeClaim payload) s.tli.rx.boundary) ∧
    (k = .recast → judges s k sender payload m = followRecast m sender (decodeRecast payload) payload.length) := by
  have follow : judges s k sender payload m = controllerFrame.follow m k sender payload false s.tli.rx.boundary :=
    controllerFrame_following following
  rw [follow]
  refine ⟨?_, ?_, ?_⟩
  · rintro (rfl | rfl) <;> rfl
  · rintro rfl
    rfl
  · rintro rfl
    rfl

theorem judged_following (following : m.mbc.station.following = true) :
    Judged m k sender payload (judges s k sender payload m) := by
  obtain ⟨still, claim, recast⟩ := judges_following (s := s) (k := k) (sender := sender) (payload := payload) following
  cases k with
  | hail =>
    rw [still (.inl rfl)]
    exact .ignores following (.inl rfl)
  | leave =>
    rw [still (.inr rfl)]
    exact .ignores following (.inr (.inl rfl))
  | claim =>
    rw [claim rfl]
    by_cases lower : FromLowerView m.mbc.observed sender (decodeClaim payload)
    · rw [followClaim_lower lower]
      exact .ignores following (.inr (.inr (.inl ⟨rfl, lower⟩)))
    · rw [followClaim_takes lower]
      refine .follows following rfl rfl lower (n := if s.tli.rx.boundary then (decodeClaim payload).cycle + 1
        else (decodeClaim payload).cycle) ?_ rfl
      cases s.tli.rx.boundary
      · exact .inl rfl
      · exact .inr rfl
  | recast =>
    rw [recast rfl]
    by_cases takes : FollowerTakes m sender (decodeRecast payload) payload.length
    · rw [followRecast_takes takes]
      exact .observes following rfl rfl takes
    · rw [followRecast_ignores takes]
      exact .ignores following (.inr (.inr (.inr ⟨rfl, takes⟩)))

/-! ### MEMBER and LEAVING -/

theorem Confined.alone (moved : Confined s t) (silent : s.tli.flight = none) (still : t.tli.flight = none) :
    ControllerAlone s t := by
  have whole := moved.eq
  unfold confine at whole
  rw [← moved.mbc, ← moved.tli, moved.tli_silent silent still] at whole
  exact whole

theorem RecastTaken.controllerAlone {r : RecastContent} {bytes : Nat} (taken : RecastTaken m sender r bytes t)
    (silent : m.tli.flight = none) (still : t.tli.flight = none) : ControllerAlone m t := by
  have whole := taken.alone
  rw [still, ← silent] at whole
  exact whole

theorem baseView_some (current : m.mbc.current = some v) : ∃ base, baseView m = some base := by
  unfold baseView
  cases m.mbc.pending with
  | none => exact ⟨v, current⟩
  | some w => exact ⟨w.view, rfl⟩

theorem judged_hail (member : m.mbc.station = .member) (current : m.mbc.current = some v)
    (silent : m.tli.flight = none)
    (ascending : ∀ base, baseView m = some base → (base.members.map (·.id)).Pairwise (· < ·)) :
    Judged m .hail sender payload (judges s .hail sender payload m) := by
  have runs : m.mbc.station.running = true := by rw [member]; rfl
  have moved := confined_judgeHail m sender (decodeHail payload)
  have alone := moved.alone silent (judgeHail_flight silent (decodeHail payload))
  rw [judges_hail member]
  by_cases own : (decodeHail payload).fp = m.cfg.fp
  · obtain ⟨base, based⟩ := baseView_some current
    have walked := walked_walkChanges (ascending base based) (m.mbc.changes.filter (fun e => !(e.id == sender)))
    rw [← projectedMembers_eq based] at walked
    by_cases room : RoomFor (projectedMembers m sender) sender (decodeHail payload).legs (lists v.members sender)
    · have taken := judgeHail_placed own current room
      have placed := placedIn_placeChange member current
        (placeable_hailChange m.mbc.changes v sender (decodeHail payload))
      rw [← taken] at placed
      exact .proposed member rfl rfl own current based walked room placed alone
    · rw [judgeHail_full runs own current room]
      exact .noRoom member rfl rfl own current based walked room
  · rw [judgeHail_mismatch runs own]
    exact .mismatch member rfl own

theorem judged_leave (member : m.mbc.station = .member) (current : m.mbc.current = some v)
    (silent : m.tli.flight = none) (place : Placeable m.mbc.changes sender (.remove .leave)) :
    Judged m .leave sender payload (judges s .leave sender payload m) := by
  rw [judges_leave member]
  cases listed : lists v.members sender with
  | true =>
    have alone := (confined_takeLeave m sender).alone silent (takeLeave_flight silent)
    have placed := placedIn_placeChange member current place
    rw [← takeLeave_listed current listed] at placed
    exact .leaves member rfl current listed placed alone
  | false =>
    rw [takeLeave_unlisted current listed]
    exact .unlisted (by rw [member]; rfl) (.inl rfl) current listed

theorem judged_recast (grouped : m.mbc.station.inGroup = true) (current : m.mbc.current = some v)
    (silent : m.tli.flight = none) (native : m.mbc.station = .member → InViews m sender) :
    Judged m .recast sender payload (judges s .recast sender payload m) := by
  cases listed : lists v.members sender with
  | true =>
    have runs := running_of_inGroup grouped
    rw [judges_recast grouped current listed]
    have taken := recastTaken_testRecast grouped current sender (decodeRecast payload) payload.length
    have alone := taken.controllerAlone silent (testRecast_flight runs silent ..)
    obtain passes | ⟨n, within, fails, before⟩ := recastTest_cases m (decodeRecast payload) payload.length
    · obtain ⟨pending, records, kept, stands⟩ := taken.passes passes
      have mbc := taken.mbc
      rw [pending] at mbc
      exact .adopted grouped rfl rfl current listed passes mbc records stands kept taken.again alone
    · obtain ⟨pending, changes, records⟩ := taken.fails n within fails before
      have mbc := taken.mbc
      rw [pending, changes] at mbc
      exact .rejected grouped rfl rfl current listed within fails before mbc records taken.again alone
  | false =>
    have stands : judges s .recast sender payload m = m := by
      refine (controllerFrame_recast grouped).trans ((if_neg (by simp [listedIn_current current, listed])).trans ?_)
      refine if_neg fun h => ?_
      obtain ⟨w, held, inside⟩ | ⟨w, held, inside⟩ := native h.1
      · obtain rfl : v = w := Option.some.inj (current.symm.trans held)
        exact Bool.false_ne_true (listed.symm.trans inside)
      · have outside := h.2
        rw [held] at outside
        exact Bool.false_ne_true (outside.symm.trans inside)
    rw [stands]
    exact .unlisted grouped (.inr rfl) current listed

/-- What makes a frame one that the controller neither finds out of step nor compares, and whose change has a place. -/
structure Plain (m : State) (k : FrameKind) (sender : Nat) (payload : List Byte) : Prop where
  hail : m.mbc.station = .member → k = .hail →
    ∀ base, baseView m = some base → (base.members.map (·.id)).Pairwise (· < ·)
  leave : m.mbc.station = .member → k = .leave → Placeable m.mbc.changes sender (.remove .leave)
  inStep : m.mbc.station = .member → k = .claim → InStep m sender (decodeClaim payload)
  native : m.mbc.station = .member → k = .claim ∨ k = .recast → InViews m sender

/-- What the model's controller makes of a plain frame is what `Judged` says. -/
theorem judged_judges (runs : m.mbc.station.running = true) (silent : m.tli.flight = none)
    (current : m.mbc.current.isSome = m.mbc.station.inGroup) (plain : Plain m k sender payload) :
    Judged m k sender payload (judges s k sender payload m) := by
  have view : m.mbc.station.inGroup = true → ∃ v, m.mbc.current = some v := fun grouped =>
    Option.isSome_iff_exists.mp (current.trans grouped)
  cases station : m.mbc.station with
  | unconfigured => simp [station, Station.running] at runs
  | detached => simp [station, Station.running] at runs
  | listening =>
    rw [judges, controllerFrame_listening station]
    exact .listens station
  | aligning => exact judged_following (by rw [station]; rfl)
  | hailing => exact judged_following (by rw [station]; rfl)
  | member =>
    obtain ⟨v, held⟩ := view (by rw [station]; rfl)
    cases k with
    | hail => exact judged_hail station held silent (plain.hail station rfl)
    | leave => exact judged_leave station held silent (plain.leave station rfl)
    | claim =>
      have stands : judges s .claim sender payload m = m := (controllerFrame_member_claim station).trans
        (memberClaim_inStep (plain.native station (.inl rfl)) (plain.inStep station rfl))
      rw [stands]
      exact .inStep rfl (.inr ⟨station, plain.inStep station rfl⟩)
    | recast =>
      exact judged_recast (by rw [station]; rfl) held silent fun _ => plain.native station (.inr rfl)
  | leaving =>
    obtain ⟨v, held⟩ := view (by rw [station]; rfl)
    have still : k ≠ .recast → judges s k sender payload m = m := controllerFrame_leaving station
    cases k with
    | hail =>
      rw [still (by simp)]
      exact .leaving station (.inl rfl)
    | leave =>
      rw [still (by simp)]
      exact .leaving station (.inr rfl)
    | claim =>
      rw [still (by simp)]
      exact .inStep rfl (.inl station)
    | recast => exact judged_recast (by rw [station]; rfl) held silent fun is => by rw [station] at is; cases is

/-! ### Both blocks, in each order -/

/-- What a controller judges leaves the Peer Table. -/
theorem Judged.peers (judged : Judged s k sender payload t) : t.peers = s.peers := by
  have alone : ControllerAlone s t → t.peers = s.peers := fun h => (congrArg State.peers h :)
  cases judged with
  | listens => rfl
  | ignores => rfl
  | observes => rfl
  | follows _ _ _ _ _ is =>
    subst is
    split <;> rfl
  | inStep => rfl
  | leaving => rfl
  | unlisted => rfl
  | leaves _ _ _ _ _ moved => exact alone moved
  | mismatch => rfl
  | proposed _ _ _ _ _ _ _ _ _ moved => exact alone moved
  | noRoom => rfl
  | adopted _ _ _ _ _ _ _ _ _ _ _ moved => exact alone moved
  | rejected _ _ _ _ _ _ _ _ _ _ _ moved => exact alone moved

end

/-- A list of 16 places, with a place for a REMOVE of the station, has one too once a REMOVE is withdrawn. -/
theorem placeable_withdrawn {m : State} {sender : Nat} (place : m.mbc.changes.length < 16 ∨
    (m.mbc.changes.length = 16 ∧ ∃ x ∈ m.mbc.changes, x.id = sender ∨ ∀ c, x.change ≠ .remove c)) :
    Placeable (withdrawn m sender) sender (.remove .leave) := by
  intro _
  by_cases room : (withdrawn m sender).length < 16
  · exact .inl room
  · have sub : (withdrawn m sender).Sublist m.mbc.changes := List.filter_sublist
    obtain little | ⟨full, entry⟩ := place
    · exact absurd (sub.length_le.trans_lt little) room
    · have same : withdrawn m sender = m.mbc.changes := sub.eq_of_length_le (by omega)
      rw [same]
      exact .inr entry

end Sys2Proof.Machine

/-! ## Frames of other stations at the Peer Table and the controller, in each order (O48, O54, O55) -/

namespace Sys2Proof.Machine

section
variable {m s t : State} {k : FrameKind} {sender : Nat} {payload : List Byte} {cycle : U16}

/-- What the table takes leaves the controller's station state, views and cycle number. -/
theorem TableTakes.still_plain (takes : TableTakes m cycle k sender payload t) (plain : Plain m k sender payload)
    (place : m.mbc.station = .member → k = .leave → Placeable (Machine.withdrawn m sender) sender (.remove .leave)) :
    Plain t k sender payload := by
  have mbc : t.mbc = { m.mbc with changes := t.mbc.changes, backoff := t.mbc.backoff } :=
    (congrArg State.mbc takes.rest :)
  have station : t.mbc.station = m.mbc.station := (congrArg Membership.station mbc :)
  have current : t.mbc.current = m.mbc.current := (congrArg Membership.current mbc :)
  have pending : t.mbc.pending = m.mbc.pending := (congrArg Membership.pending mbc :)
  have cyt : t.cyt = m.cyt := (congrArg State.cyt takes.rest :)
  refine ⟨fun member hail => ?_, fun member leave => ?_, fun member claim => ?_, fun member kinds => ?_⟩
  · rw [baseView, pending, current]
    exact plain.hail (station ▸ member) hail
  · by_cases back : ∃ p, Returns m sender p
    · rw [takes.withdrawn back (station ▸ member)]
      exact place (station ▸ member) leave
    · rw [takes.stands fun h => back h.1]
      exact plain.leave (station ▸ member) leave
  · have inStep := plain.inStep (station ▸ member) claim
    rw [InStep, current, pending, cyt]
    exact inStep
  · have native := plain.native (station ▸ member) kinds
    rw [InViews, current, pending]
    exact native

/-- Settles O55: the table takes the frame and the controller judges it, in the order of the operand. -/
theorem tableHearsLostAndFull : Obligations.TableHearsLostAndFull := by
  unfold Obligations.TableHearsLostAndFull
  rintro s u k payload sender tableFirst complete silent other law current rfl member
  have plain : Plain (idled s) k sender payload := by
    refine ⟨fun is hail => ?_, fun is leave => ?_, fun is claim => ?_, fun is kinds => ?_⟩
    · exact (member is).1 hail
    · exact fun _ => ((member is).2.1 leave).imp id fun h => h.2
    · exact ((member is).2.2.1 claim).congr rfl rfl
    · exact ((member is).2.2.2 kinds).congr rfl
  have place : s.mbc.station = .member → k = .leave → Placeable (withdrawn (idled s) sender) sender (.remove .leave) :=
    fun is leave => placeable_withdrawn ((member is).2.1 leave)
  cases tableFirst with
  | true =>
    have takes : TableTakes (idled s) s.cyt.cycle k sender payload (hears s k sender payload (idled s)) :=
      tableTakes_hearFrame (m := idled s) law.ascending ..
    have rest := takes.rest
    have station : (hears s k sender payload (idled s)).mbc.station = s.mbc.station :=
      (congrArg (·.mbc.station) rest :)
    have judged : Judged (hears s k sender payload (idled s)) k sender payload
        (judges s k sender payload (hears s k sender payload (idled s))) :=
      judged_judges (by rw [station]; exact complete.runs.2) ((congrArg (·.tli.flight) rest :).trans silent)
        ((congrArg (·.mbc.current.isSome) rest :).trans (current.trans (by rw [station])))
        (takes.still_plain plain place)
    exact ⟨_, _, exec_tableFirst complete silent other, fun _ => ⟨takes, judged⟩, fun h => absurd h (by simp)⟩
  | false =>
    have judged : Judged (idled s) k sender payload (judges s k sender payload (idled s)) :=
      judged_judges complete.runs.2 silent current plain
    have takes : TableTakes (judges s k sender payload (idled s)) s.cyt.cycle k sender payload
        (hears s k sender payload (judges s k sender payload (idled s))) :=
      tableTakes_hearFrame (judged.peers ▸ law.ascending) ..
    have row := exec_controllerFirst complete silent other
    rw [foreignWins_eq_false fun is => (member is).2.2.2] at row
    exact ⟨_, _, row, fun h => absurd h (by simp), fun _ => ⟨judged, takes⟩⟩

/-! ### Followers -/

/-- Outside MEMBER and LEAVING no peer is LOST, so none returns. -/
theorem not_returns_of_heard (heard : ∀ p ∈ m.peers, p.kind = .heard) (p : Peer) : ¬ Returns m sender p := by
  rintro ⟨found, lost, -⟩
  rw [heard p (findPeer_some found).1] at lost
  cases lost

theorem not_inGroup_of_following {st : Station} (following : st.following = true) : st.inGroup = false := by
  cases st with
  | aligning => rfl
  | hailing => rfl
  | unconfigured => cases following
  | detached => cases following
  | listening => cases following
  | member => cases following
  | leaving => cases following

/-- A follower judges a frame without a look at the table or the event queue. -/
theorem judges_beside {m : State} (following : m.mbc.station.following = true) (ps : List Peer) (queue : EventUnit) :
    judges s k sender payload { m with peers := ps, evq := queue } =
      { judges s k sender payload m with peers := ps, evq := queue } := by
  obtain ⟨still, claim, recast⟩ := judges_following (s := s) (k := k) (sender := sender) (payload := payload) following
  obtain ⟨still', claim', recast'⟩ := judges_following (s := s) (k := k) (sender := sender) (payload := payload)
    (m := { m with peers := ps, evq := queue }) following
  cases k with
  | hail => rw [still (.inl rfl), still' (.inl rfl)]
  | leave => rw [still (.inr rfl), still' (.inr rfl)]
  | claim =>
    rw [claim rfl, claim' rfl]
    by_cases lower : FromLowerView m.mbc.observed sender (decodeClaim payload)
    · rw [followClaim_lower lower, followClaim_lower (by exact lower)]
    · rw [followClaim_takes lower, followClaim_takes (by exact lower)]
      by_cases locks : m.mbc.station = .aligning ∧ m.cyt.lockCount = 4
      · rw [if_pos locks, if_pos locks]
        rfl
      · rw [if_neg locks, if_neg locks]
        rfl
  | recast =>
    rw [recast rfl, recast' rfl]
    by_cases takes : FollowerTakes m sender (decodeRecast payload) payload.length
    · rw [followRecast_takes takes]
      exact followRecast_takes (s := { m with peers := ps, evq := queue }) { takes with }
    · rw [followRecast_ignores takes]
      exact followRecast_ignores (s := { m with peers := ps, evq := queue }) fun other => takes { other with }

/-- A follower's frame moves the timer, the controller's record and the requests alone. -/
theorem judges_following_rest {m : State} (following : m.mbc.station.following = true) :
    ∃ cyt mbc requests flight, judges s k sender payload m =
      { m with cyt := cyt, mbc := mbc, tli := { m.tli with requests := requests, flight := flight } } := by
  obtain ⟨still, claim, recast⟩ := judges_following (s := s) (k := k) (sender := sender) (payload := payload) following
  cases k with
  | hail => exact ⟨_, _, _, _, still (.inl rfl)⟩
  | leave => exact ⟨_, _, _, _, still (.inr rfl)⟩
  | claim =>
    rw [claim rfl]
    by_cases lower : FromLowerView m.mbc.observed sender (decodeClaim payload)
    · exact ⟨_, _, _, _, followClaim_lower lower⟩
    · rw [followClaim_takes lower]
      split
      · exact ⟨_, _, _, _, rfl⟩
      · exact ⟨_, _, _, _, rfl⟩
  | recast =>
    rw [recast rfl]
    by_cases takes : FollowerTakes m sender (decodeRecast payload) payload.length
    · exact ⟨_, _, _, _, followRecast_takes takes⟩
    · exact ⟨_, _, _, _, followRecast_ignores takes⟩

/-- A follower's frame: the controller and the table move apart, each on the part as the other leaves it. -/
theorem exec_following (complete : Complete s k sender payload) (silent : s.tli.flight = none)
    (other : sender ≠ s.cfg.id) (following : s.mbc.station.following = true) (law : TableLaw s) (tableFirst : Bool) :
    ∃ t posted, exec (acceptRow tableFirst k) s = .next t ∧ t.plu = s.plu ∧ t.sli = s.sli ∧ Untouched s t ∧
      Heard { s with mbc := if tableFirst then s.mbc else t.mbc } s.cyt.cycle k sender payload t.peers posted ∧
      t.evq.records = posted.foldl arrive s.evq.records ∧
      t.cyt = (judges s k sender payload (idled s)).cyt ∧ t.mbc = (judges s k sender payload (idled s)).mbc ∧
      t.tli = (judges s k sender payload (idled s)).tli := by
  have alone := not_inGroup_of_following following
  obtain ⟨cyt, mbc, requests, flight, judged⟩ := judges_following_rest (s := s) (k := k) (sender := sender)
    (payload := payload) (m := idled s) following
  have besides := judges_beside (s := s) (k := k) (sender := sender) (payload := payload) (m := idled s) following
  rw [judged] at besides
  have prescaler : cyt.prescRunning = s.cyt.prescRunning := by
    have still := (inside_controllerFrame (p := True) (idled s) k sender payload false s.tli.rx.boundary).prescaler
    exact (congrArg (·.cyt.prescRunning) judged).symm.trans still
  rw [judged]
  cases tableFirst with
  | true =>
    obtain ⟨ps, posted, heard, takes⟩ := hearFrame_quiet (m := idled s) (sender := sender) law.ascending
      (not_returns_of_heard (m := idled s) (law.heard alone)) s.cyt.cycle k payload
    have row := exec_tableFirst complete silent other
    rw [hears, takes, besides] at row
    exact ⟨_, posted, row, rfl, rfl, ⟨rfl, rfl, rfl, rfl, rfl, rfl, rfl, prescaler⟩, heard.congr rfl rfl rfl, rfl, rfl,
      rfl, rfl⟩
  | false =>
    have outside : s.mbc.station ≠ .member := fun is => by
      rw [is] at following
      cases following
    obtain ⟨ps, posted, heard, takes⟩ := hearFrame_quiet (sender := sender)
      (m := { idled s with
        cyt := cyt, mbc := mbc, tli := { (idled s).tli with requests := requests, flight := flight } })
      law.ascending (not_returns_of_heard (law.heard alone)) s.cyt.cycle k payload
    have row := exec_controllerFirst complete silent other
    rw [foreignWins_eq_false fun is => absurd is outside, judged, hears, takes] at row
    exact ⟨_, posted, row, rfl, rfl, ⟨rfl, rfl, rfl, rfl, rfl, rfl, rfl, prescaler⟩, heard.congr rfl rfl rfl, rfl, rfl,
      rfl, rfl⟩

/-! ### A CLAIM at a follower -/

/-- What a CLAIM that a follower takes leaves of the controller and the timer. -/
structure ClaimFollowed (s : State) (sender : Nat) (c : ClaimContent) (t : State) : Prop where
  cyt : t.cyt = { s.cyt with
    cycle := if s.tli.rx.boundary then c.cycle + 1 else c.cycle, adopted := true, begun := false }
  observed : t.mbc.observed = observeClaim s.mbc.observed sender c
  hails : s.mbc.station = .aligning → s.cyt.lockCount = 4 →
    t.mbc.station = .hailing ∧ t.mbc.hailCount = 1 ∧ t.mbc.hailInterval = 0 ∧ t.tli.requests.hail = true
  stays : ¬ (s.mbc.station = .aligning ∧ s.cyt.lockCount = 4) →
    t.mbc.station = s.mbc.station ∧ t.tli.requests = s.tli.requests

theorem claimFollowed {c : ClaimContent} (higher : ¬ FromLowerView s.mbc.observed sender c) :
    ClaimFollowed s sender c (followClaim (idled s) sender c s.tli.rx.boundary) := by
  rw [followClaim_takes (s := idled s) higher]
  by_cases locks : s.mbc.station = .aligning ∧ s.cyt.lockCount = 4
  · rw [if_pos (show (idled s).mbc.station = .aligning ∧ (idled s).cyt.lockCount = 4 from locks)]
    exact ⟨rfl, rfl, fun _ _ => ⟨rfl, rfl, rfl, rfl⟩, fun not_ => absurd locks not_⟩
  · rw [if_neg (show ¬ ((idled s).mbc.station = .aligning ∧ (idled s).cyt.lockCount = 4) from locks)]
    exact ⟨rfl, rfl, fun aligning lock => absurd ⟨aligning, lock⟩ locks, fun _ => ⟨rfl, rfl⟩⟩

theorem ClaimFollowed.carry {c : ClaimContent} (h : ClaimFollowed s sender c m) (cyt : t.cyt = m.cyt)
    (mbc : t.mbc = m.mbc) (tli : t.tli = m.tli) : ClaimFollowed s sender c t := by
  refine ⟨cyt.trans h.cyt, by rw [mbc, h.observed], ?_, ?_⟩
  · rw [mbc, tli]
    exact h.hails
  · rw [mbc, tli]
    exact h.stays

theorem ClaimFollowed.following {c : ClaimContent} (h : ClaimFollowed s sender c t)
    (following : s.mbc.station.following = true) : t.mbc.station.following = true := by
  by_cases locks : s.mbc.station = .aligning ∧ s.cyt.lockCount = 4
  · rw [(h.hails locks.1 locks.2).1]
    rfl
  · rw [(h.stays locks).1]
    exact following

/-- A follower holds the entries of its observed pending view (R73). -/
theorem heldIn_following (following : m.mbc.station.following = true) (id : Nat) :
    HeldIn m id ↔ ∃ w, m.mbc.observed.pending = some w ∧ lists w.view.members id = true := by
  have alone := not_inGroup_of_following following
  have outside : m.mbc.station ≠ .member := fun is => by
    rw [is] at following
    cases following
  simp [HeldIn, alone, outside, following]

/-- The best senders of a follower with one more: the 16 lowest ids (R105). -/
theorem mem_insertId {ids : List Nat} {id x : Nat} : x ∈ insertId ids id ↔ x = id ∨ x ∈ ids := by
  induction ids with
  | nil => simp [insertId]
  | cons y ids ih =>
    unfold insertId
    split
    · simp
    · split
      next same => simp [same]
      · simp [ih, or_left_comm]

theorem insertId_ascending {ids : List Nat} (ascending : ids.Pairwise (· < ·)) (id : Nat) :
    (insertId ids id).Pairwise (· < ·) := by
  induction ids with
  | nil => simp [insertId]
  | cons y ids ih =>
    obtain ⟨first, rest⟩ := List.pairwise_cons.mp ascending
    unfold insertId
    split
    next before =>
      refine List.pairwise_cons.mpr ⟨List.forall_mem_cons.mpr ⟨before, fun x hx => ?_⟩, ascending⟩
      exact before.trans (first x hx)
    · split
      · exact ascending
      next after other =>
        refine List.pairwise_cons.mpr ⟨fun x hx => ?_, ih rest⟩
        obtain rfl | held := mem_insertId.mp hx
        · omega
        · exact first x held

theorem lowestSixteen_addSender {ids : List Nat} (ascending : ids.Pairwise (· < ·)) (id : Nat) :
    LowestSixteen ids id (addSender ids id) := by
  have order := insertId_ascending ascending id
  refine ⟨order.sublist (List.take_sublist ..), List.length_take_le .., fun x hx => ?_, fun x hx => ?_⟩
  · exact mem_insertId.mp (List.mem_of_mem_take hx)
  · have whole : insertId ids id = addSender ids id ++ (insertId ids id).drop 16 := (List.take_append_drop ..).symm
    have held : x ∈ addSender ids id ++ (insertId ids id).drop 16 := whole ▸ mem_insertId.mpr hx
    rcases List.mem_append.mp held with within | beyond
    · exact .inl within
    · rw [whole] at order
      obtain ⟨-, -, below⟩ := List.pairwise_append.mp order
      have long : 0 < ((insertId ids id).drop 16).length := List.length_pos_of_mem beyond
      rw [List.length_drop] at long
      exact .inr ⟨by rw [addSender, List.length_take]; omega, fun y hy => below y hy x beyond⟩

/-- Settles O48. -/
theorem followerAdoptsClaim : Obligations.FollowerAdoptsClaim := by
  unfold Obligations.FollowerAdoptsClaim
  rintro s c payload sender tableFirst complete rfl silent other following empty law
  have is : judges s .claim sender payload (idled s) =
      followClaim (idled s) sender (decodeClaim payload) s.tli.rx.boundary := (judges_following (m := idled s) following).2.1 rfl
  have higher : ¬ FromLowerView s.mbc.observed sender (decodeClaim payload) := by
    rintro ⟨b, best, -⟩
    rw [empty] at best
    cases best
  obtain ⟨t, posted, row, plu, sli, untouched, heard, records, cyt, mbc, tli⟩ :=
    exec_following complete silent other following law tableFirst
  have taken : ClaimFollowed s sender (decodeClaim payload) t :=
    (is ▸ claimFollowed higher).carry cyt mbc tli
  have observed := taken.observed
  rw [empty] at observed
  have alone := not_inGroup_of_following following
  refine ⟨t, posted, row, taken.cyt, observed, taken.hails, taken.stays, plu, sli, untouched, ?_, records⟩
  cases tableFirst with
  | true => exact heard
  | false =>
    refine heard.of_same rfl rfl (fun p => ?_) fun id => ?_
    · exact iff_of_false (not_returns_of_heard (law.heard alone) p)
        (not_returns_of_heard (m := { s with mbc := t.mbc }) (law.heard alone) p)
    · refine (heldIn_following following id).trans (Iff.trans ?_
        (heldIn_following (m := { s with mbc := t.mbc }) (taken.following following) id).symm)
      refine iff_of_false ?_ ?_
      · rintro ⟨w, held, -⟩
        rw [empty] at held
        cases held
      · rintro ⟨w, held, -⟩
        rw [show ({ s with mbc := t.mbc } : State).mbc.observed = _ from observed] at held
        cases held

end

/-! ### A follower with a best identity -/

section
variable {o : Observed} {sender : Nat} {c : ClaimContent} {b : BestIdentity}

theorem observeClaim_equal (best : o.best = some b) (same : c.identity = b.identity) :
    observeClaim o sender c = { o with
      best := some { b with epoch := if newer c.epoch b.epoch = true then c.epoch else b.epoch }
      senders := addSender o.senders sender } := by
  have case_ : claimCase o sender c = .equal := by simp [claimCase, best, same]
  simp only [observeClaim, case_, best, Option.map_some]

theorem observeClaim_movedOn (best : o.best = some b) (differs : c.identity ≠ b.identity) (known : sender ∈ o.senders)
    (fresh : newer c.epoch b.epoch = true) :
    observeClaim o sender c = {
      best := some { identity := c.identity, epoch := c.epoch }, senders := [sender]
      pending := o.pending.filter (fun p => newer p.view.epoch c.epoch) } := by
  have case_ : claimCase o sender c = .movedOn := by simp [claimCase, best, differs, known, fresh]
  simp only [observeClaim, case_]

theorem observeClaim_higher (best : o.best = some b) (differs : c.identity ≠ b.identity)
    (stays : ¬ (sender ∈ o.senders ∧ newer c.epoch b.epoch = true)) (above : ranksAbove c.identity b.identity = true) :
    observeClaim o sender c = {
      best := some { identity := c.identity, epoch := c.epoch }, senders := [sender], pending := none } := by
  have case_ : claimCase o sender c = .higher := by
    have not_ : ¬ (o.senders.contains sender && newer c.epoch b.epoch) = true := by simpa using stays
    simp only [claimCase, best, differs, not_, above, if_false, if_true, Bool.false_eq_true]
  simp only [observeClaim, case_]

theorem fromLowerView_iff (best : o.best = some b) : FromLowerView o sender c ↔ c.identity ≠ b.identity ∧
    ¬ (sender ∈ o.senders ∧ newer c.epoch b.epoch = true) ∧ ranksAbove c.identity b.identity = false := by
  simp [FromLowerView, best]

end

/-- Settles O54. -/
theorem followerJudgesFrames : Obligations.FollowerJudgesFrames := by
  unfold Obligations.FollowerJudgesFrames
  intro s payload sender b tableFirst silent other following best law
  constructor
  · rintro c complete rfl
    obtain ⟨t, posted, row, plu, sli, untouched, heard, records, cyt, mbc, tli⟩ :=
      exec_following complete silent other following law tableFirst
    have is : judges s .claim sender payload (idled s) =
        followClaim (idled s) sender (decodeClaim payload) s.tli.rx.boundary :=
      (judges_following (m := idled s) following).2.1 rfl
    have taken : ¬ FromLowerView s.mbc.observed sender (decodeClaim payload) →
        ClaimFollowed s sender (decodeClaim payload) t := fun higher =>
      (is ▸ claimFollowed higher).carry cyt mbc tli
    have lower_iff := fromLowerView_iff (sender := sender) (c := decodeClaim payload) best
    refine ⟨t, posted, row, plu, sli, untouched, heard, records, fun same => ?_, fun differs known fresh => ?_,
      fun differs stays => ⟨fun above => ?_, fun below => ?_⟩, fun taken_ => ?_⟩
    · have higher := taken fun lower => (lower_iff.mp lower).1 same
      rw [higher.observed, observeClaim_equal best same]
      exact ⟨rfl, fun ascending _ => lowestSixteen_addSender ascending sender, rfl⟩
    · have higher := taken fun lower => (lower_iff.mp lower).2.1 ⟨known, fresh⟩
      rw [higher.observed, observeClaim_movedOn best differs known fresh]
      refine ⟨rfl, rfl, fun none_ => by simp [none_], fun w held => ?_⟩
      simp [held, Option.filter]
    · have higher := taken fun lower => Bool.false_ne_true ((lower_iff.mp lower).2.2.symm.trans above)
      rw [higher.observed, observeClaim_higher best differs stays above]
    · have lower : FromLowerView s.mbc.observed sender (decodeClaim payload) := lower_iff.mpr ⟨differs, stays, below⟩
      rw [is, followClaim_lower (by exact lower)] at cyt mbc tli
      exact ⟨mbc, cyt, tli⟩
    · have higher := taken fun lower => by
        obtain ⟨differs, stays, below⟩ := lower_iff.mp lower
        obtain same | moved | above := taken_
        · exact differs same
        · exact stays moved
        · exact Bool.false_ne_true (below.symm.trans above)
      exact ⟨higher.cyt, higher.hails, higher.stays⟩
  · rintro r e complete rfl epoch
    obtain ⟨t, posted, row, plu, sli, untouched, heard, records, cyt, mbc, tli⟩ :=
      exec_following complete silent other following law tableFirst
    have is : judges s .recast sender payload (idled s) =
        followRecast (idled s) sender (decodeRecast payload) payload.length :=
      (judges_following (m := idled s) following).2.2 rfl
    have takes_iff : FollowerTakes (idled s) sender (decodeRecast payload) payload.length ↔
        (sender ∈ s.mbc.observed.senders ∧ recastTest s (decodeRecast payload) payload.length 0 ∧
          (decodeRecast payload).fp = s.cfg.fp ∧ newer (decodeRecast payload).epoch e = true ∧
          s.cyt.adopted = true ∧ recastTest s (decodeRecast payload) payload.length 3) := by
      constructor
      · exact fun h => ⟨h.sender, h.wellFormed, h.fingerprint, h.epoch e epoch, h.adopted, h.inReach⟩
      · rintro ⟨known, formed, own, fresh, adopted, near⟩
        refine ⟨known, formed, own, fun e' epoch' => ?_, adopted, near⟩
        obtain rfl : e = e' := Option.some.inj (((observedEpoch_iff ..).mpr epoch).symm.trans
          ((observedEpoch_iff ..).mpr epoch'))
        exact fresh
    rw [is] at cyt mbc tli
    by_cases takes : FollowerTakes (idled s) sender (decodeRecast payload) payload.length
    · rw [followRecast_takes takes] at cyt mbc tli
      exact ⟨t, posted, row, cyt, plu, sli, tli, untouched, heard, records, fun _ => mbc,
        fun not_ => absurd (takes_iff.mp takes) not_⟩
    · rw [followRecast_ignores takes] at cyt mbc tli
      exact ⟨t, posted, row, cyt, plu, sli, tli, untouched, heard, records, fun h => absurd (takes_iff.mpr h) takes,
        fun _ => mbc⟩

end Sys2Proof.Machine

/-! ## CLAIMs out of step and foreign frames in MEMBER (R63, R64, R83, R101 to R104) -/

namespace Sys2Proof.Machine

section
variable {m s t : State} {k : FrameKind} {sender : Nat} {payload : List Byte} {cycle : U16} {v : View} {e : Event}

/-! ### A frame that moves the table alone -/

/-- What a frame's controller reads of a part: the station state, the views, the cycle number and the configuration. -/
structure ReadsAs (s m : State) : Prop where
  station : m.mbc.station = s.mbc.station
  current : m.mbc.current = s.mbc.current
  pending : m.mbc.pending = s.mbc.pending
  cyt : m.cyt = s.cyt
  cfg : m.cfg = s.cfg

theorem readsAs_idled (s : State) : ReadsAs s (idled s) := ⟨rfl, rfl, rfl, rfl, rfl⟩

theorem TableTakes.readsAs (takes : TableTakes (idled s) cycle k sender payload t) : ReadsAs s t := by
  have mbc : t.mbc = { s.mbc with changes := t.mbc.changes, backoff := t.mbc.backoff } :=
    (congrArg State.mbc takes.rest :)
  exact ⟨(congrArg Membership.station mbc :), (congrArg Membership.current mbc :), (congrArg Membership.pending mbc :),
    (congrArg State.cyt takes.rest :), (congrArg State.cfg takes.rest :)⟩

/-- A sender whose entry, if it has one, is not LOST does not return. -/
theorem not_returns_of_found (kinds : ∀ p, findPeer m.peers sender = some p → p.kind ≠ .lost) (p : Peer) :
    ¬ Returns m sender p := fun back => kinds p back.found back.2.1

/-- A frame of a sender that does not return, and of which the controller makes nothing, moves the table alone. -/
theorem exec_still (complete : Complete s k sender payload) (silent : s.tli.flight = none) (other : sender ≠ s.cfg.id)
    (law : TableLaw s) (kinds : ∀ p, findPeer s.peers sender = some p → p.kind ≠ .lost)
    (still : ∀ m, ReadsAs s m → judges s k sender payload m = m)
    (native : foreignWins (idled s) k sender payload = false) (tableFirst : Bool) :
    ∃ t posted, exec (acceptRow tableFirst k) s = .next t ∧ Heard s s.cyt.cycle k sender payload t.peers posted ∧
      t = settle { s with
        tli := { s.tli with rx := Rx.idle }
        peers := t.peers
        evq := { s.evq with records := posted.foldl arrive s.evq.records } } := by
  obtain ⟨ps, posted, heard, takes⟩ := hearFrame_quiet (m := idled s) (sender := sender) law.ascending
    (not_returns_of_found kinds) s.cyt.cycle k payload
  refine ⟨settle { idled s with peers := ps, evq := { s.evq with records := posted.foldl arrive s.evq.records } }, posted,
    ?_, heard.congr rfl rfl rfl, rfl⟩
  cases tableFirst with
  | true =>
    have stands := still { idled s with
      peers := ps, evq := { s.evq with records := posted.foldl arrive s.evq.records } } ⟨rfl, rfl, rfl, rfl, rfl⟩
    rw [exec_tableFirst complete silent other, hears, takes]
    exact congrArg (fun t => Host.Outcome.next (settle t)) stands
  | false =>
    rw [exec_controllerFirst complete silent other, native, still _ (readsAs_idled s), hears, takes]
    rfl

/-! ### A frame that puts the station out of its group -/

/-- The part that leaves MEMBER for ALIGNING after it has posted a record; `zero` tells whether its published demands
become 0 (R61, R63, R64). -/
def outed (zero : Bool) (m : State) : State := if zero then zeroPublished (memberToAligning m) else memberToAligning m

theorem outed_eq (zero : Bool) (m : State) : outed zero m = { m with
    cyt := { m.cyt with adopted := false, lockCount := 0 }
    sli := { m.sli with markerActive := false, markerLeft := 0 }
    tli := { m.tli with requests := Requests.empty }
    mbc := { m.mbc with station := .aligning, alignCount := 0, current := none, pending := none,
                        observed := Observed.empty, changes := [], backoff := none }
    peers := m.peers.map demoted
    plu := { m.plu with
      plan := none, prev0 := none, prev1 := none, complete := false
      leg0 := if zero then { m.plu.leg0 with published := 0, pending := none } else m.plu.leg0
      leg1 := if zero then { m.plu.leg1 with published := 0, pending := none } else m.plu.leg1 }
    los := { m.los with supp0 := false, supp1 := false } } := by
  cases zero
  · exact enterAligning_eq _
  · exact congrArg zeroPublished (enterAligning_eq _)

/-- What a station put out of its group holds, but for the table and the event queue. -/
structure PutOut (zero : Bool) (s t : State) : Prop where
  mbc : t.mbc = { s.mbc with
    station := .aligning, alignCount := 0, current := none, pending := none, observed := Observed.empty, changes := []
    backoff := none }
  cyt : t.cyt = { s.cyt with adopted := false, lockCount := 0 }
  sli : t.sli = { s.sli with markerActive := false, markerLeft := 0 }
  requests : t.tli.requests = Requests.empty
  plan : t.plu.plan = none
  leg0 : t.plu.leg0 = if zero then { s.plu.leg0 with published := 0, pending := none } else s.plu.leg0
  leg1 : t.plu.leg1 = if zero then { s.plu.leg1 with published := 0, pending := none } else s.plu.leg1
  lease : t.plu.lease = s.plu.lease
  untouched : Untouched s t

/-- An entry of a station that is no longer in a group. -/
def Outside (q : Peer) : Prop := q.kind = .heard ∧ q.leg0.valid = false ∧ q.leg1.valid = false

theorem outside_demoted (p : Peer) : Outside (demoted p) := ⟨rfl, rfl, rfl⟩

theorem outside_heardBy {q : Peer} (outside : Outside q) (fp : Fingerprint) (k : FrameKind) (payload : List Byte) :
    Outside (heardBy fp k payload q) := by
  obtain ⟨kind, leg0, leg1⟩ := outside
  cases k with
  | hail => exact ⟨kind, leg0, leg1⟩
  | claim =>
    refine ⟨kind, leg0, ?_⟩
    simp only [heardBy]
    split
    · exact leg1
    · exact leg1
  | recast => exact ⟨kind, leg0, leg1⟩
  | leave => exact ⟨kind, leg0, leg1⟩

theorem mem_seated {fp : Fingerprint} {ps : List Peer} {q : Peer} (h : q ∈ seated fp k sender payload ps) :
    q ∈ ps ∨ q = heardBy fp k payload (newPeer sender .heard none) := by
  rcases List.mem_append.mp h with lower | rest
  · exact .inl (List.mem_filter.mp lower).1
  · rcases List.mem_cons.mp rest with rfl | higher
    · exact .inr rfl
    · exact .inl (List.mem_filter.mp higher).1

/-- In a table of entries outside a group a frame leaves no other. -/
theorem Heard.outside {ps : List Peer} {posted : List Event} (heard : Heard m cycle k sender payload ps posted)
    (before : ∀ q ∈ m.peers, Outside q) : ∀ q ∈ ps, Outside q := by
  have fresh : Outside (heardBy m.cfg.fp k payload (newPeer sender .heard none)) :=
    outside_heardBy ⟨rfl, rfl, rfl⟩ ..
  cases heard with
  | known =>
    intro q hq
    obtain ⟨p, held, -, rfl⟩ | ⟨held, -⟩ := mem_updatePeer.mp hq
    · exact outside_heardBy (before p held) ..
    · exact before q held
  | returned back =>
    have heard := (before _ (findPeer_some back.found).1).1
    rw [back.2.1] at heard
    cases heard
  | entered =>
    intro q hq
    obtain held | rfl := mem_seated hq
    · exact before q held
    · exact fresh
  | evicting =>
    intro q hq
    obtain held | rfl := mem_seated hq
    · exact before q (List.mem_filter.mp held).1
    · exact fresh
  | full => exact before

/-- A frame on which the controller posts a record and leaves for ALIGNING, in each order. -/
theorem exec_putOut {zero : Bool} (complete : Complete s k sender payload) (silent : s.tli.flight = none)
    (other : sender ≠ s.cfg.id) (law : TableLaw s)
    (judge : ∀ m, ReadsAs s m → judges s k sender payload m = outed zero (appended m e))
    (native : foreignWins (idled s) k sender payload = false) (tableFirst : Bool) :
    ∃ t, exec (acceptRow tableFirst k) s = .next t ∧ PutOut zero s t ∧ (∀ q ∈ t.peers, Outside q) ∧
      (tableFirst = true → ∃ seats posted, Heard s s.cyt.cycle k sender payload seats posted ∧
        t.peers = seats.map demoted ∧ t.evq.records = arrive (posted.foldl arrive s.evq.records) e) ∧
      (tableFirst = false → ∃ posted,
        Heard { s with peers := s.peers.map demoted, mbc := t.mbc } s.cyt.cycle k sender payload t.peers posted ∧
        t.evq.records = posted.foldl arrive (arrive s.evq.records e)) := by
  have allOutside : ∀ ps : List Peer, ∀ q ∈ ps.map demoted, Outside q := by
    intro ps q hq
    obtain ⟨p, -, rfl⟩ := List.mem_map.mp hq
    exact outside_demoted p
  cases tableFirst with
  | true =>
    have takes : TableTakes (idled s) s.cyt.cycle k sender payload (hears s k sender payload (idled s)) :=
      tableTakes_hearFrame (m := idled s) law.ascending ..
    obtain ⟨posted, heard, records⟩ := takes.heard
    have row := exec_tableFirst complete silent other
    rw [judge _ takes.readsAs, outed_eq] at row
    obtain ⟨ps, changes, backoff, queue, is⟩ : ∃ ps changes backoff queue, hears s k sender payload (idled s) =
        { idled s with
          peers := ps
          mbc := { s.mbc with changes := changes, backoff := backoff }
          evq := { s.evq with records := queue } } := ⟨_, _, _, _, takes.rest⟩
    rw [is] at row heard records
    obtain rfl : queue = posted.foldl arrive s.evq.records := records
    exact ⟨_, row, ⟨rfl, rfl, rfl, rfl, rfl, rfl, rfl, rfl, ⟨rfl, rfl, rfl, rfl, rfl, rfl, rfl, rfl⟩⟩, allOutside ps,
      fun _ => ⟨ps, posted, heard.congr rfl rfl rfl, rfl, rfl⟩, fun no => absurd no (by simp)⟩
  | false =>
    have row := exec_controllerFirst complete silent other
    rw [native, judge _ (readsAs_idled s), outed_eq] at row
    have order : ((s.peers.map demoted).map (·.id)).Pairwise (· < ·) := by
      rw [map_id_of_keeps (f := demoted) fun _ => rfl]
      exact law.ascending
    obtain ⟨ps, posted, heard, takes⟩ := hearFrame_quiet (sender := sender)
      (m := { appended (idled s) e with
        cyt := { s.cyt with adopted := false, lockCount := 0 }
        sli := { s.sli with markerActive := false, markerLeft := 0 }
        tli := { (idled s).tli with requests := Requests.empty }
        mbc := { s.mbc with station := .aligning, alignCount := 0, current := none, pending := none,
                            observed := Observed.empty, changes := [], backoff := none }
        peers := s.peers.map demoted
        plu := { s.plu with
          plan := none, prev0 := none, prev1 := none, complete := false
          leg0 := if zero then { s.plu.leg0 with published := 0, pending := none } else s.plu.leg0
          leg1 := if zero then { s.plu.leg1 with published := 0, pending := none } else s.plu.leg1 }
        los := { s.los with supp0 := false, supp1 := false } })
      order (not_returns_of_heard fun p hp => (allOutside s.peers p hp).1) s.cyt.cycle k payload
    have row := row.trans (congrArg (fun t => Host.Outcome.next (settle t)) takes)
    exact ⟨_, row, ⟨rfl, rfl, rfl, rfl, rfl, rfl, rfl, rfl, ⟨rfl, rfl, rfl, rfl, rfl, rfl, rfl, rfl⟩⟩,
      heard.outside (allOutside s.peers), fun no => absurd no (by simp),
      fun _ => ⟨posted, heard.congr rfl rfl rfl, rfl⟩⟩

end

/-! ### CLAIMs of listed stations -/

/-- Settles O47: in step the table alone moves, out of step the station leaves for ALIGNING. -/
theorem claimOfMemberTaken : Obligations.ClaimOfMemberTaken := by
  unfold Obligations.ClaimOfMemberTaken
  rintro s c payload sender v tableFirst complete rfl silent other member current listed law
  have native : foreignWins (idled s) .claim sender payload = false := foreignWins_eq_false fun _ _ => listed
  have claims : ∀ m, ReadsAs s m → judges s .claim sender payload m = memberClaim m sender (decodeClaim payload) :=
    fun m reads => controllerFrame_member_claim (reads.station.trans member)
  have inViews : ∀ m, ReadsAs s m → InViews m sender := fun m reads => by
    rw [InViews, reads.current, reads.pending]
    exact listed
  have steps : ∀ m, ReadsAs s m → (InStep m sender (decodeClaim payload) ↔ InStep s sender (decodeClaim payload)) :=
    fun m reads => by rw [InStep, InStep, reads.current, reads.pending, reads.cyt]
  constructor
  · intro inStep kinds
    exact exec_still complete silent other law kinds (fun m reads => (claims m reads).trans
      (memberClaim_inStep (inViews m reads) ((steps m reads).mpr inStep))) native tableFirst
  · intro outOfStep_
    have judge : ∀ m, ReadsAs s m → judges s .claim sender payload m = outed false (appended m
        { kind := .outOfStep, cycle := some s.cyt.cycle, station := some sender, detail := none }) := by
      intro m reads
      have runs : m.mbc.station.running = true := by
        rw [reads.station, member]
        rfl
      have out : outOfStep m sender (decodeClaim payload) = true := by
        rw [← Bool.not_eq_false, outOfStep_eq_false_iff, steps m reads]
        exact outOfStep_
      rw [claims m reads, memberClaim, if_pos ((inViews_iff ..).mpr (inViews m reads)), if_pos out,
        post_eq_appended runs, reads.cyt]
      rfl
    obtain ⟨t, row, put, outside, first, last⟩ := exec_putOut complete silent other law judge native tableFirst
    have mbc := put.mbc
    exact ⟨t, row, (congrArg Membership.station mbc :), (congrArg Membership.alignCount mbc :),
      (congrArg Membership.current mbc :), (congrArg Membership.pending mbc :), (congrArg Membership.changes mbc :),
      (congrArg Membership.reason mbc :), put.cyt, put.plan, put.leg0, put.leg1, put.lease, put.requests, outside,
      put.untouched, first, last⟩

/-! ### Foreign frames -/

section
variable {m s t : State} {k : FrameKind} {sender : Nat} {payload : List Byte} {cycle : U16} {v : View}

/-- The table with the foreign flag set in the sender's entry. -/
def flagged (sender : Nat) (ps : List Peer) : List Peer := updatePeer ps sender (fun q => { q with foreign := true })

/-- The record of a won comparison: once per sender that has an entry (R83, R104). -/
def wonRecords (s : State) (sender : Nat) : List Event :=
  if (findPeer s.peers sender).any (·.foreign) then [] else [about s.cyt.cycle .foreignView sender 1]

theorem flagged_of_flagged {ps : List Peer} (ascending : (ps.map (·.id)).Pairwise (· < ·)) {p : Peer}
    (found : findPeer ps sender = some p) (foreign : p.foreign = true) : flagged sender ps = ps := by
  refine (List.map_congr_left fun q hq => ?_).trans (List.map_id' ps)
  split
  next is =>
    obtain rfl : p = q := Option.some.inj (found.symm.trans ((findPeer_eq_some_iff ascending).mpr ⟨hq, is⟩))
    rw [← foreign]
  · rfl

theorem flagged_of_absent {ps : List Peer} (absent : findPeer ps sender = none) : flagged sender ps = ps :=
  updatePeer_of_absent (findPeer_eq_none_iff.mp absent)

/-- A comparison that the own view wins flags the sender's entry and posts once. -/
theorem foreignWon_eq (runs : m.mbc.station.running = true) (ascending : (m.peers.map (·.id)).Pairwise (· < ·)) :
    foreignWon m sender = { m with
      peers := flagged sender m.peers
      evq := { m.evq with records := (wonRecords m sender).foldl arrive m.evq.records } } := by
  unfold foreignWon wonRecords
  cases found : findPeer m.peers sender with
  | none =>
    rw [flagged_of_absent found]
    exact post_eq_appended runs ..
  | some p =>
    cases foreign : p.foreign with
    | true =>
      simp only [foreign, flagged_of_flagged ascending found foreign]
      simp [foreign]
    | false =>
      simp only [foreign, Option.any_some]
      exact post_eq_appended (s := { m with peers := flagged sender m.peers }) runs ..

theorem heardBy_foreign (fp : Fingerprint) (k : FrameKind) (payload : List Byte) (q : Peer) :
    (heardBy fp k payload q).foreign = q.foreign := by cases k <;> rfl

theorem findPeer_seated (fp : Fingerprint) (k : FrameKind) (sender : Nat) (payload : List Byte) (ps : List Peer) :
    findPeer (seated fp k sender payload ps) sender = some (heardBy fp k payload (newPeer sender .heard none)) := by
  have lower : (ps.filter (fun q => decide (q.id < sender))).find? (fun p => p.id == sender) = none := by
    refine List.find?_eq_none.mpr fun q hq => ?_
    have before : q.id < sender := by simpa using (List.mem_filter.mp hq).2
    simp [before.ne]
  rw [findPeer, seated, List.find?_append, lower, Option.none_or]
  refine List.find?_cons_of_pos ?_
  simp [heardBy_id]

/-- A frame leaves the foreign flag of its sender's entry, and a new entry without it. -/
theorem Heard.foreign {ps : List Peer} {posted : List Event} (heard : Heard m cycle k sender payload ps posted) :
    (findPeer ps sender).any (·.foreign) = (findPeer m.peers sender).any (·.foreign) := by
  cases heard with
  | @known p found =>
    rw [findPeer_updatePeer fun _ => heardBy_id .., found]
    simp [(findPeer_some found).2, heardBy_foreign]
  | @returned p back =>
    rw [findPeer_updatePeer (f := fun q => { heardBy m.cfg.fp k payload q with kind := .member }) fun _ =>
      heardBy_id .., back.found]
    simp [(findPeer_some back.found).2, heardBy_foreign]
  | entered stranger =>
    rw [findPeer_seated, stranger]
    simp [heardBy_foreign, newPeer]
  | evicting stranger =>
    rw [findPeer_seated, stranger]
    simp [heardBy_foreign, newPeer]
  | full => rfl

/-- Flagging and hearing an entry commute. -/
theorem flagged_noted (fp : Fingerprint) (ps : List Peer) :
    flagged sender (updatePeer (flagged sender ps) sender (heardBy fp k payload)) =
      flagged sender (updatePeer ps sender (heardBy fp k payload)) := by
  rw [flagged, flagged, updatePeer_updatePeer (f := fun q : Peer => { q with foreign := true }) fun _ => rfl,
    updatePeer_updatePeer (f := heardBy fp k payload ∘ fun q => { q with foreign := true }) fun _ => heardBy_id ..,
    flagged, updatePeer_updatePeer (f := heardBy fp k payload) fun _ => heardBy_id ..]
  exact updatePeer_congr fun q _ _ => by cases k <;> rfl

/-- A foreign frame that is compared, with the identity of its view (R103). -/
def Compared (s : State) (k : FrameKind) (payload : List Byte) (i : Identity) : Prop :=
  (k = .claim ∧ i = (decodeClaim payload).identity) ∨
  (k = .recast ∧ recastTest s (decodeRecast payload) payload.length 0 ∧ i = identityOf (decodeRecast payload).members)

theorem not_listed_of_not_inViews (outside : ¬ InViews m sender) :
    listedIn m.mbc.current sender = false ∧ listedIn (pendingOf m.mbc.pending) sender = false := by
  rw [← inViews_iff, Bool.not_eq_true, Bool.or_eq_false_iff] at outside
  exact outside

/-- A foreign frame is compared with the current view. -/
theorem judges_compared {i : Identity} (compared : Compared s k payload i) (member : m.mbc.station = .member)
    (current : m.mbc.current = some v) (outside : ¬ InViews m sender) :
    judges s k sender payload m =
      if ranksAbove i (identityOf v.members) then foreignLost m sender else foreignWon m sender := by
  obtain ⟨unlisted, notPending⟩ := not_listed_of_not_inViews outside
  have mine : currentIdentity m = identityOf v.members := by simp [currentIdentity, current]
  have comparison : judges s k sender payload m = compareForeign m sender i := by
    obtain ⟨rfl, rfl⟩ | ⟨rfl, formed, rfl⟩ := compared
    · refine (controllerFrame_member_claim member).trans (if_neg ?_)
      simp [unlisted, notPending]
    · refine (controllerFrame_recast (by rw [member]; rfl)).trans ?_
      rw [memberRecast, if_neg (by simp [unlisted]), if_pos ⟨member, notPending⟩,
        if_neg (by simp [(malformed_eq_false_iff ..).mpr formed])]
  rw [comparison, compareForeign, mine]

theorem foreignWins_compared {i : Identity} (compared : Compared s k payload i) (member : s.mbc.station = .member)
    (current : s.mbc.current = some v) (outside : ¬ InViews s sender) :
    foreignWins (idled s) k sender payload = !ranksAbove i (identityOf v.members) := by
  obtain ⟨unlisted, notPending⟩ := not_listed_of_not_inViews outside
  have mine : currentIdentity (idled s) = identityOf v.members := by simp [currentIdentity, idled, current]
  have first : (idled s).mbc.station = .member ∧ listedIn (idled s).mbc.current sender = false ∧
      listedIn (pendingOf (idled s).mbc.pending) sender = false := ⟨member, unlisted, notPending⟩
  obtain ⟨rfl, rfl⟩ | ⟨rfl, formed, rfl⟩ := compared
  · simp [foreignWins, first, mine]
  · simp [foreignWins, first, mine, (malformed_eq_false_iff ..).mpr formed]

/-- The own view wins: the table takes the frame, the sender's entry is flagged and the record posted, in each order. -/
theorem exec_won (complete : Complete s k sender payload) (silent : s.tli.flight = none) (other : sender ≠ s.cfg.id)
    (law : TableLaw s) (kinds : ∀ p, findPeer s.peers sender = some p → p.kind ≠ .lost)
    (judge : ∀ m, ReadsAs s m → judges s k sender payload m = foreignWon m sender)
    (wins : foreignWins (idled s) k sender payload = true) (tableFirst : Bool) :
    ∃ seats posted, Heard s s.cyt.cycle k sender payload seats posted ∧
      exec (acceptRow tableFirst k) s = .next (settle { idled s with
        peers := flagged sender seats
        evq := { s.evq with records := (if tableFirst then posted ++ wonRecords s sender
          else wonRecords s sender ++ posted).foldl arrive s.evq.records } }) := by
  have runs : (idled s).mbc.station.running = true := complete.runs.2
  cases tableFirst with
  | true =>
    obtain ⟨seats, posted, heard, takes⟩ := hearFrame_quiet (m := idled s) (sender := sender) law.ascending
      (not_returns_of_found kinds) s.cyt.cycle k payload
    have heard' : Heard s s.cyt.cycle k sender payload seats posted := heard.congr rfl rfl rfl
    have order : (seats.map (·.id)).Pairwise (· < ·) := by
      have kept := (table_hearFrame (s := idled s) { law with } (some s.cyt.cycle) k payload other).ascending
      rw [takes] at kept
      exact kept
    let q : State := { idled s with
      peers := seats, evq := { s.evq with records := posted.foldl arrive s.evq.records } }
    have won : wonRecords q sender = wonRecords s sender := by
      rw [wonRecords, wonRecords, heard'.foreign]
      rfl
    have judged := judge q ⟨rfl, rfl, rfl, rfl, rfl⟩
    rw [foreignWon_eq (m := q) runs order, won] at judged
    have row := exec_tableFirst complete silent other
    rw [hears, takes] at row
    refine ⟨seats, posted, heard', row.trans ?_⟩
    rw [if_pos rfl, List.foldl_append]
    exact congrArg (fun t => Host.Outcome.next (settle t)) judged
  | false =>
    have judged := judge (idled s) (readsAs_idled s)
    rw [foreignWon_eq runs law.ascending] at judged
    have row := exec_controllerFirst complete silent other
    rw [wins, judged] at row
    cases found : findPeer s.peers sender with
    | some p =>
      have stays : ¬ Returns s sender p := not_returns_of_kind (kinds p found)
      have held : findPeer (flagged sender s.peers) sender = some { p with foreign := true } := by
        rw [flagged, findPeer_updatePeer (f := fun q => { q with foreign := true }) fun _ => rfl, found]
        exact congrArg some (if_pos (findPeer_some found).2)
      have takes := hearFrame_known (m := { idled s with
          peers := flagged sender s.peers
          evq := { s.evq with records := (wonRecords s sender).foldl arrive s.evq.records } })
        held (not_returns_of_kind (kinds p found)) (some s.cyt.cycle) k payload
      refine ⟨_, [], .known found stays, row.trans ?_⟩
      rw [if_neg (by simp), List.append_nil, ← flagged_noted]
      exact congrArg (fun t => Host.Outcome.next (settle (flagForeign true t sender))) takes
    | none =>
      obtain ⟨seats, posted, heard, takes⟩ := hearFrame_quiet (sender := sender)
        (m := { idled s with evq := { s.evq with records := (wonRecords s sender).foldl arrive s.evq.records } })
        law.ascending (not_returns_of_found kinds) s.cyt.cycle k payload
      rw [show flagged sender (idled s).peers = s.peers from flagged_of_absent found] at row
      refine ⟨seats, posted, heard.congr rfl rfl rfl, row.trans ?_⟩
      rw [if_neg (by simp), List.foldl_append]
      exact congrArg (fun t => Host.Outcome.next (settle (flagForeign true t sender))) takes

end

/-- Settles O53: malformed, lost and won. -/
theorem foreignFramesTaken : Obligations.ForeignFramesTaken := by
  unfold Obligations.ForeignFramesTaken
  intro s k payload sender v tableFirst complete silent other member current outside law kinds
  have away : ∀ m, ReadsAs s m → ¬ InViews m sender := fun m reads => by
    rw [InViews, reads.current, reads.pending]
    exact outside
  have runs : ∀ m, ReadsAs s m → m.mbc.station.running = true := fun m reads => by
    rw [reads.station, member]
    rfl
  constructor
  · rintro rfl malformed_
    have bad : malformed (decodeRecast payload) payload.length = true := by
      rw [← Bool.not_eq_false, malformed_eq_false_iff s]
      exact malformed_
    refine exec_still complete silent other law kinds (fun m reads => ?_) ?_ tableFirst
    · obtain ⟨unlisted, notPending⟩ := not_listed_of_not_inViews (away m reads)
      refine (controllerFrame_recast (by rw [reads.station, member]; rfl)).trans ?_
      rw [memberRecast, if_neg (by simp [unlisted]), if_pos ⟨reads.station.trans member, notPending⟩, if_pos bad]
    · simp [foreignWins, bad]
  · intro i compared
    have judge : ∀ m, ReadsAs s m → judges s k sender payload m =
        if ranksAbove i (identityOf v.members) then foreignLost m sender else foreignWon m sender := fun m reads =>
      judges_compared compared (reads.station.trans member) (reads.current.trans current) (away m reads)
    have wins := foreignWins_compared compared member current outside
    constructor
    · intro above
      rw [above] at judge wins
      have lost : ∀ m, ReadsAs s m → judges s k sender payload m =
          outed true (appended m (about s.cyt.cycle .foreignView sender 0)) := fun m reads => by
        rw [judge m reads, if_pos rfl, foreignLost, postForeign, post_eq_appended (runs m reads), reads.cyt]
        rfl
      obtain ⟨t, row, put, outside, first, last⟩ := exec_putOut complete silent other law lost wins tableFirst
      have mbc := put.mbc
      exact ⟨t, row, (congrArg Membership.station mbc :), (congrArg Membership.alignCount mbc :),
        (congrArg Membership.current mbc :), (congrArg Membership.pending mbc :), (congrArg Membership.changes mbc :),
        (congrArg Membership.backoff mbc :), (congrArg Membership.reason mbc :), put.cyt, put.plan, put.leg0, put.leg1,
        put.lease, put.sli, put.requests, outside, put.untouched, first, last⟩
    · intro below
      rw [below] at judge wins
      obtain ⟨seats, posted, heard, row⟩ := exec_won complete silent other law kinds
        (fun m reads => (judge m reads).trans (if_neg (by simp))) wins tableFirst
      refine ⟨_, seats, posted, wonRecords s sender, row, heard, ?_, ?_, rfl⟩
      · rintro ⟨p, found, foreign⟩
        simp [wonRecords, found, foreign]
      · intro fresh
        unfold wonRecords
        cases found : findPeer s.peers sender with
        | none => rfl
        | some p => simp [fresh p found]

end Sys2Proof.Machine

/-! ## The Peer Table at a view switch (R80) -/

namespace Sys2Proof.Machine

/-! ### Finding after inserting and removing -/

section
variable {t : List Peer} {p : Peer} {id : Nat}

theorem findPeer_insertPeer_other (other : id ≠ p.id) : findPeer (insertPeer t p) id = findPeer t id := by
  induction t with
  | nil => simp [insertPeer, findPeer, Ne.symm other]
  | cons q t ih =>
    unfold insertPeer
    split
    · simp [findPeer, Ne.symm other]
    · by_cases is : q.id = id
      · simp [findPeer, is]
      · simpa [findPeer, is] using ih

theorem findPeer_removePeer_other {gone : Nat} (other : id ≠ gone) : findPeer (removePeer t gone) id = findPeer t id := by
  rw [findPeer, removePeer, List.find?_filter]
  refine congrArg (List.find? · t) (funext fun q => ?_)
  by_cases is : q.id = id
  · simp [is, other]
  · simp [is]

theorem length_removePeer (ascending : (t.map (·.id)).Pairwise (· < ·)) (held : p ∈ t) :
    (removePeer t p.id).length + 1 = t.length := by
  induction t with
  | nil => cases held
  | cons q t ih =>
    obtain ⟨first, rest⟩ := List.pairwise_cons.mp (List.map_cons ▸ ascending)
    have apart : ∀ x ∈ t, x.id ≠ q.id := fun x hx => (first x.id (List.mem_map_of_mem hx)).ne'
    rcases List.mem_cons.mp held with rfl | held
    · have same : t.filter (fun x => !(x.id == p.id)) = t := List.filter_eq_self.mpr fun x hx => by simp [apart x hx]
      simp [removePeer, same]
    · have other : q.id ≠ p.id := (apart p held).symm
      have count := ih rest held
      simpa [removePeer, other] using count

end

/-! ### One member created -/

/-- The entry made of a listed station without one (R80). -/
def freshMember (m : Member) : Peer :=
  { id := m.id, kind := .member, legs := some m.legs, verdict := .unknown, silence := 0, lastEpoch := none
    foreign := false
    leg0 := { current := 0, valid := m.new, pending := none }
    leg1 := { current := 0, valid := m.new, pending := none } }

theorem freshMember_eq (m : Member) :
    (if m.new then { newPeer m.id .member (some m.legs) with leg0 := LegRecord.listedNew, leg1 := LegRecord.listedNew }
      else newPeer m.id .member (some m.legs)) = freshMember m := by
  unfold freshMember
  cases m.new <;> rfl

section
variable {ms : List Member} {t : List Peer} {m : Member}

theorem createMember_held {p : Peer} (found : findPeer t m.id = some p) : createMember ms t m = t :=
  if_pos (by simp [found])

theorem createMember_room (absent : findPeer t m.id = none) (room : t.length < 20) :
    createMember ms t m = insertPeer t (freshMember m) := by
  rw [← freshMember_eq]
  exact (if_neg (by simp [absent])).trans (if_pos room)

theorem createMember_full {old : Peer} (absent : findPeer t m.id = none) (full : ¬ t.length < 20)
    (goes : mostSilent (t.filter (fun p => !lists ms p.id)) = some old) :
    createMember ms t m = insertPeer (removePeer t old.id) (freshMember m) := by
  rw [← freshMember_eq]
  refine (if_neg (by simp [absent])).trans ((if_neg full).trans ?_)
  simp only [goes]

/-- A full table holds an entry of a station that a legal view does not list. -/
theorem exists_unlisted (ascending : (t.map (·.id)).Pairwise (· < ·)) (few : ms.length ≤ 16) (full : 20 ≤ t.length) :
    ∃ old, mostSilent (t.filter (fun p => !lists ms p.id)) = some old := by
  by_contra none_
  have empty : mostSilent (t.filter (fun p => !lists ms p.id)) = none := by
    cases h : mostSilent (t.filter (fun p => !lists ms p.id)) with
    | none => rfl
    | some old => exact absurd ⟨old, h⟩ none_
  have listed := List.filter_eq_nil_iff.mp (mostSilent_eq_none_iff.mp empty)
  have within : t.map (·.id) ⊆ ms.map (·.id) := by
    intro id hid
    obtain ⟨p, hp, rfl⟩ := List.mem_map.mp hid
    obtain ⟨m, hm, is⟩ := lists_iff.mp (by simpa using listed p hp)
    exact is ▸ List.mem_map_of_mem hm
  have distinct : (t.map (·.id)).Nodup := ascending.imp fun h => h.ne
  have size := (List.subperm_of_subset distinct within).length_le
  simp only [List.length_map] at size
  omega

/-! ### All members created -/

/-- What the members created so far leave of a table: no listed entry lost, each created one new, every other kept from
the table before, the most silent of the unlisted gone first. -/
structure SeatsMade (own : Nat) (ms made : List Member) (before t : List Peer) : Prop where
  seats : Seats own t
  within : ∀ m ∈ made, m ∈ ms
  listed : ∀ m ∈ ms, ∀ p, findPeer before m.id = some p → findPeer t m.id = some p
  created : ∀ m ∈ made, findPeer before m.id = none → findPeer t m.id = some (freshMember m)
  waiting : ∀ m ∈ ms, m.id ∉ made.map (·.id) → findPeer before m.id = none → findPeer t m.id = none
  unlisted : ∀ q ∈ t, lists ms q.id = false → q ∈ before
  size : t.length = min 20 (before.length + (made.filter (fun m => (findPeer before m.id).isNone)).length)
  order : ∀ p ∈ before, ∀ q ∈ before, lists ms p.id = false → lists ms q.id = false →
    p.silence < q.silence ∨ (p.silence = q.silence ∧ p.id < q.id) → p ∉ t → q ∉ t

variable {own : Nat} {made : List Member} {before : List Peer}

theorem SeatsMade.start (seats : Seats own before) : SeatsMade own ms [] before before where
  seats := seats
  within _ none_ := absurd none_ List.not_mem_nil
  listed _ _ _ found := found
  created _ none_ := absurd none_ List.not_mem_nil
  waiting _ _ _ absent := absent
  unlisted _ held _ := held
  size := (Nat.min_eq_right seats.size).symm
  order _ hp _ _ _ _ _ gone := absurd hp gone

/-- A member without an entry takes a place, with the entry of an unlisted station gone where `u` lacks one. -/
theorem SeatsMade.placed (h : SeatsMade own ms made before t) {u : List Peer} (listed : m ∈ ms)
    (later : m.id ∉ made.map (·.id)) (absent : findPeer t m.id = none) (sub : ∀ q ∈ u, q ∈ t)
    (kept : ∀ n ∈ ms, findPeer u n.id = findPeer t n.id)
    (first : ∀ p ∈ t, p ∉ u → ∀ q ∈ u, lists ms q.id = false → SilentAs q p)
    (seats : Seats own (insertPeer u (freshMember m)))
    (size : (insertPeer u (freshMember m)).length =
      min 20 (before.length + (made.filter (fun m => (findPeer before m.id).isNone)).length + 1)) :
    SeatsMade own ms (made ++ [m]) before (insertPeer u (freshMember m)) := by
  have new_ : findPeer (insertPeer u (freshMember m)) m.id = some (freshMember m) :=
    findPeer_insertPeer_new (p := freshMember m) fun q hq => findPeer_eq_none_iff.mp absent q (sub q hq)
  have others : ∀ n ∈ ms, n.id ≠ m.id → findPeer (insertPeer u (freshMember m)) n.id = findPeer t n.id :=
    fun n hn other => (findPeer_insertPeer_other (p := freshMember m) other).trans (kept n hn)
  have fromT : ∀ q ∈ insertPeer u (freshMember m), lists ms q.id = false → q ∈ u := by
    intro q hq unlisted
    rcases mem_insertPeer.mp hq with rfl | held
    · exact absurd rfl (lists_eq_false_iff.mp unlisted m listed)
    · exact held
  refine ⟨seats, ?_, ?_, ?_, ?_, fun q hq unlisted => h.unlisted q (sub q (fromT q hq unlisted)) unlisted, ?_, ?_⟩
  · intro n hn
    rcases List.mem_append.mp hn with hn | hn
    · exact h.within n hn
    · obtain rfl := List.mem_singleton.mp hn
      exact listed
  · intro n hn p found
    have there := h.listed n hn p found
    have other : n.id ≠ m.id := fun is => by
      rw [is, absent] at there
      cases there
    rw [others n hn other, there]
  · intro n hn none_
    rcases List.mem_append.mp hn with hn | hn
    · have other : n.id ≠ m.id := fun is => later (is ▸ List.mem_map_of_mem hn)
      rw [others n (h.within n hn) other, h.created n hn none_]
    · obtain rfl := List.mem_singleton.mp hn
      exact new_
  · intro n hn notYet none_
    simp only [List.map_append, List.map_cons, List.map_nil, List.mem_append, List.mem_singleton, not_or] at notYet
    rw [others n hn notYet.2, h.waiting n hn notYet.1 none_]
  · have stranger : findPeer before m.id = none := by
      cases found : findPeer before m.id with
      | none => rfl
      | some p => exact absurd ((h.listed m listed p found).symm.trans absent) (by simp)
    rw [size, List.filter_append, List.length_append, List.filter_cons_of_pos (by simp [stranger])]
    rfl
  · intro p hp q hq pUnlisted qUnlisted less gone held
    have heldU := fromT q held qUnlisted
    have pHeld : p ∈ t := by
      by_contra pGone
      exact h.order p hp q hq pUnlisted qUnlisted less pGone (sub q heldU)
    have silent := first p pHeld (fun inU => gone (mem_insertPeer.mpr (.inr inU))) q heldU qUnlisted
    unfold SilentAs at silent
    omega

/-- One more member. -/
theorem SeatsMade.step (h : SeatsMade own ms made before t) (few : ms.length ≤ 16) (listed : m ∈ ms)
    (other : m.id ≠ own) (later : m.id ∉ made.map (·.id)) :
    SeatsMade own ms (made ++ [m]) before (createMember ms t m) := by
  cases found : findPeer t m.id with
  | some p =>
    have known : (findPeer before m.id).isNone = false := by
      cases stranger : findPeer before m.id with
      | some _ => rfl
      | none => exact absurd ((h.waiting m listed later stranger).symm.trans found) (by simp)
    rw [createMember_held found]
    refine { h with within := ?_, created := ?_, waiting := ?_, size := ?_ }
    · exact List.forall_mem_append.mpr ⟨h.within, by simpa using listed⟩
    · refine List.forall_mem_append.mpr ⟨h.created, ?_⟩
      simp only [List.mem_singleton, forall_eq]
      intro stranger
      simp [stranger] at known
    · intro n hn notYet
      exact h.waiting n hn fun made => notYet (by simp only [List.map_append, List.mem_append]; exact .inl made)
    · rw [h.size, List.filter_append, List.filter_cons_of_neg (by simp [known]), List.filter_nil, List.append_nil]
  | none =>
    have absent := findPeer_eq_none_iff.mp found
    by_cases room : t.length < 20
    · rw [createMember_room found room]
      refine h.placed listed later found (fun q hq => hq) (fun _ _ => rfl) (fun p hp gone => absurd hp gone)
        (h.seats.insert room absent other) ?_
      rw [length_insertPeer]
      have size := h.size
      omega
    · have full : 20 ≤ t.length := by omega
      obtain ⟨old, goes⟩ := exists_unlisted (ms := ms) h.seats.ascending few full
      obtain ⟨place, most⟩ := mostSilent_some goes
      simp only [List.mem_filter, Bool.not_eq_true', and_imp] at place most
      obtain ⟨held, unlisted⟩ := place
      rw [createMember_full found room goes]
      refine h.placed listed later found (fun q hq => (mem_removePeer.mp hq).1) (fun n hn => ?_)
        (fun p hp gone q hq out => ?_) (h.seats.replace held absent other) ?_
      · exact findPeer_removePeer_other (lists_eq_false_iff.mp unlisted n hn)
      · have is : p.id = old.id := by
          by_contra differs
          exact gone (mem_removePeer.mpr ⟨hp, differs⟩)
        obtain rfl : p = old := Option.some.inj
          ((findPeer_of_mem h.seats.ascending hp).symm.trans (is ▸ findPeer_of_mem h.seats.ascending held))
        exact most q (mem_removePeer.mp hq).1 out
      · have count := length_removePeer h.seats.ascending held
        rw [length_insertPeer]
        have size := h.size
        have bound := h.seats.size
        omega

/-- All of them. -/
theorem SeatsMade.all (h : SeatsMade own ms made before t) (few : ms.length ≤ 16) {rest : List Member}
    (within : ∀ m ∈ rest, m ∈ ms) (others : ∀ m ∈ rest, m.id ≠ own) (distinct : ((made ++ rest).map (·.id)).Nodup) :
    SeatsMade own ms (made ++ rest) before (rest.foldl (createMember ms) t) := by
  induction rest generalizing made t with
  | nil => simpa using h
  | cons m rest ih =>
    have later : m.id ∉ made.map (·.id) := fun made_ => by
      rw [List.map_append, List.map_cons] at distinct
      exact (List.nodup_append.mp distinct).2.2 m.id made_ m.id List.mem_cons_self rfl
    have next := h.step few (within m List.mem_cons_self) (others m List.mem_cons_self) later
    rw [List.append_cons] at distinct ⊢
    exact ih next (fun x hx => within x (List.mem_cons_of_mem m hx)) (fun x hx => others x (List.mem_cons_of_mem m hx))
      distinct

/-! ### The entries held before the switch -/

theorem underView_listed (found : seat ms m.id = some m) {p : Peer} (is : p.id = m.id) : p.underView ms = { p with
    kind := if p.kind = .heard then .member else p.kind, legs := some m.legs, foreign := false
    leg0 := if m.new then { current := 0, valid := true, pending := none } else p.leg0
    leg1 := if m.new then { current := 0, valid := true, pending := none } else p.leg1 } := by
  rw [seat, ← is] at found
  simp only [Peer.underView, found]
  cases m.new <;> rfl

theorem underView_unlisted {p : Peer} (unlisted : lists ms p.id = false) : p.underView ms = { p with
    kind := .heard
    leg0 := { current := 0, valid := false, pending := none }
    leg1 := { current := 0, valid := false, pending := none } } := by
  have none_ : ms.find? (fun m => m.id == p.id) = none := by
    have absent := lists_eq_isSome ms p.id
    rw [unlisted] at absent
    exact Option.not_isSome_iff_eq_none.mp (by rw [← seat, ← absent]; simp)
  simp only [Peer.underView, none_]
  rfl

theorem findPeer_underView (ms : List Member) (t : List Peer) (id : Nat) :
    findPeer (t.map (Peer.underView ms)) id = (findPeer t id).map (Peer.underView ms) := by
  rw [findPeer, List.find?_map]
  refine congrArg (Option.map _) (congrArg (List.find? · t) (funext fun p => ?_))
  simp

@[simp] theorem underView_silence (ms : List Member) (p : Peer) : (p.underView ms).silence = p.silence := by
  unfold Peer.underView
  split
  · rfl
  · dsimp only
    split <;> rfl

end

/-- The table at a switch, as the members created make it (R80). -/
theorem seatsMade_tableSwitch {s : State} {v : View} (law : TableLaw s)
    (ascending : (v.members.map (·.id)).Pairwise (· < ·)) (few : v.members.length ≤ 16) :
    SeatsMade s.cfg.id v.members (v.members.filter (fun m => !(m.id == s.cfg.id)))
      (s.peers.map (Peer.underView v.members)) (tableSwitch s v).peers := by
  have start : SeatsMade s.cfg.id v.members [] (s.peers.map (Peer.underView v.members))
      (s.peers.map (Peer.underView v.members)) := .start (law.seats.map fun p => Peer.underView_id _ p)
  have distinct : (v.members.map (·.id)).Nodup := ascending.imp fun h => h.ne
  exact start.all few (fun m hm => (List.mem_filter.mp hm).1) (fun m hm => by simpa using (List.mem_filter.mp hm).2)
    (distinct.sublist (List.filter_sublist.map _))

/-- Settles O59. -/
theorem switchSeatsTheMembers : Obligations.SwitchSeatsTheMembers := by
  unfold Obligations.SwitchSeatsTheMembers
  rintro s t v law ascending few rfl
  have made := seatsMade_tableSwitch law ascending few
  have none_iff : ∀ id, findPeer (s.peers.map (Peer.underView v.members)) id = none ↔ findPeer s.peers id = none :=
    fun id => by rw [findPeer_underView, Option.map_eq_none_iff]
  refine ⟨rfl, made.seats.ascending, fun m hm other => ⟨fun p found => ?_, fun absent => ?_⟩, fun q hq unlisted => ?_,
    ?_, fun p hp q hq pOut qOut less gone => ?_⟩
  · rw [made.listed m hm _ ((findPeer_underView ..).trans (congrArg _ found))]
    exact congrArg some (underView_listed (seat_of_mem ascending hm) (findPeer_some found).2)
  · exact made.created m (List.mem_filter.mpr ⟨hm, by simpa using other⟩) ((none_iff _).mpr absent)
  · obtain ⟨p, hp, rfl⟩ := List.mem_map.mp (made.unlisted q hq unlisted)
    rw [Peer.underView_id] at unlisted
    exact ⟨p, hp, underView_unlisted unlisted⟩
  · rw [made.size, List.length_map, List.filter_filter]
    refine congrArg (fun n => min 20 (s.peers.length + n)) (congrArg (fun f => (v.members.filter f).length) ?_)
    funext m
    rw [Bool.and_comm, findPeer_underView, Option.isNone_map]
  · have places : ∀ p ∈ s.peers, lists v.members p.id = false →
        (findPeer (tableSwitch s v).peers p.id = none ↔ p.underView v.members ∉ (tableSwitch s v).peers) := by
      intro p hp out
      constructor
      · intro absent held
        exact findPeer_eq_none_iff.mp absent _ held (Peer.underView_id ..)
      · intro notHeld
        refine findPeer_eq_none_iff.mpr fun q hq is => notHeld ?_
        obtain ⟨x, hx, rfl⟩ := List.mem_map.mp (made.unlisted q hq (is ▸ out))
        rw [Peer.underView_id] at is
        obtain rfl : p = x := Option.some.inj
          ((findPeer_of_mem law.ascending hp).symm.trans (is ▸ findPeer_of_mem law.ascending hx))
        exact hq
    refine (places q hq qOut).mpr (made.order _ (List.mem_map_of_mem hp) _ (List.mem_map_of_mem hq) ?_ ?_ ?_
      ((places p hp pOut).mp gone))
    · simpa using pOut
    · simpa using qOut
    · simpa using less

end Sys2Proof.Machine

/-! ## The plan of a boundary, and the rows FOUND_GROUP, VIEW_SWITCH and OBSERVED_SWITCH (R50, R56, R59, R99, R108, R127) -/

namespace Sys2Proof.Machine

section
variable {s t u : State} {v : View}

/-! ### The plan made at a boundary (R121, R127, R129, R137) -/

theorem planEntries_congr (same : ∀ id leg, effectiveDemand t id leg = effectiveDemand s id leg)
    (cfg : t.cfg = s.cfg) (i : Nat) (legs : List (Nat × Nat)) (ws : List Window) :
    planEntries t i legs ws = planEntries s i legs ws := by
  induction legs generalizing i ws with
  | nil => cases ws <;> rfl
  | cons l legs ih =>
    cases ws with
    | nil => rfl
    | cons w ws => simp only [planEntries, same, cfg, ih]

/-- What the plan reads of a part: the record, the cycle number, the entries and the published demands. -/
structure PlansAs (s t : State) : Prop where
  cfg : t.cfg = s.cfg
  cycle : t.cyt.cycle = s.cyt.cycle
  peers : t.peers = s.peers
  leg0 : t.plu.leg0.published = s.plu.leg0.published
  leg1 : t.plu.leg1.published = s.plu.leg1.published

theorem PlansAs.demand (h : PlansAs s t) (id leg : Nat) : effectiveDemand t id leg = effectiveDemand s id leg := by
  have own : (ownLeg t leg).published = (ownLeg s leg).published := by
    unfold ownLeg
    split
    · exact h.leg0
    · exact h.leg1
  have p : t.P = s.P := congrArg (·.fp.p) h.cfg
  rw [effectiveDemand, effectiveDemand, h.cfg, h.peers, own, p]

theorem PlansAs.planOf (h : PlansAs s t) (v : View) : planOf t v = planOf s v := by
  simp only [Machine.planOf, h.demand, h.cfg, h.cycle, planEntries_congr h.demand h.cfg]

theorem PlansAs.refl (s : State) : PlansAs s s := ⟨rfl, rfl, rfl, rfl, rfl⟩

/-- The part in MEMBER or LEAVING at the end of a boundary, on its current view `v`. -/
def plannedOn (s : State) (v : View) : State :=
  { s with
    sli := { s.sli with markerActive := true, markerLeft := 8 }
    plu := { s.plu with
      complete := tableComplete s, plan := some (planOf s v), prev0 := currentWindow s 0
      prev1 := if s.cfg.legs = 2 then currentWindow s 1 else none }
    los := { s.los with
      supp0 := suppresses s.cfg.minWindow (ownWindow (planOf s v) 0)
      supp1 := suppresses s.cfg.minWindow (ownWindow (planOf s v) 1) } }

theorem finishBoundary_grouped (grouped : s.mbc.station.inGroup = true) (current : s.mbc.current = some v) :
    finishBoundary s = plannedOn s v := by
  have plan : Machine.planOf { s with plu.complete := tableComplete s } v = Machine.planOf s v :=
    PlansAs.planOf (s := s) (t := { s with plu.complete := tableComplete s }) ⟨rfl, rfl, rfl, rfl, rfl⟩ v
  have made : makePlan { s with plu.complete := tableComplete s } =
      { plannedOn s v with sli := s.sli } := by
    rw [makePlan]
    simp only [current, plan]
    rfl
  rw [finishBoundary, planBoundary, if_pos grouped, made, startMarker, if_pos (by exact grouped)]
  rfl

theorem finishBoundary_outside (outside : s.mbc.station.inGroup = false) : finishBoundary s = s := by
  rw [finishBoundary, planBoundary, if_neg (by simp [outside]), startMarker, if_neg (by simp [outside])]

theorem tableComplete_iff (current : s.mbc.current = some v) : tableComplete s = true ↔
    ∀ l ∈ viewLegs v.members, l.1 = s.cfg.id ∨
      ∃ p, findPeer s.peers l.1 = some p ∧ (if l.2 = 0 then p.leg0 else p.leg1).valid = true := by
  have valid : ∀ id leg, recordValid s id leg = true ↔
      ∃ p, findPeer s.peers id = some p ∧ (if leg = 0 then p.leg0 else p.leg1).valid = true := by
    intro id leg
    unfold recordValid Peer.legRecord
    cases findPeer s.peers id <;> simp
  simp [tableComplete, current, valid]

theorem suppresses_iff (n : Nat) (w : Option Window) :
    suppresses n w = true ↔ ∃ x, w = some x ∧ 0 < x.grant ∧ x.grant < n := by
  cases w <;> simp [suppresses]

theorem planned_plannedOn (current : s.mbc.current = some v) : Planned s v (plannedOn s v) where
  complete := tableComplete_iff current
  plan := congrArg some (PlansAs.planOf (s := s) (t := plannedOn s v) ⟨rfl, rfl, rfl, rfl, rfl⟩ v).symm
  prev0 := rfl
  prev1 := rfl
  supp0 := suppresses_iff ..
  supp1 := suppresses_iff ..

/-- `Planned` speaks of the windows before the boundary alone, by the plan and the record. -/
theorem Planned.before (h : Planned s v t) (plan : s.plu.plan = u.plu.plan) (cfg : s.cfg = u.cfg) : Planned u v t where
  complete := h.complete
  plan := h.plan
  prev0 := h.prev0.trans (congrArg (·.bind fun p => ownWindow p 0) plan)
  prev1 := h.prev1.trans (by rw [cfg, currentWindow, currentWindow, plan])
  supp0 := h.supp0
  supp1 := h.supp1

/-- The plan stands where the part plans as before and keeps its plan records. -/
theorem Planned.after (h : Planned s v t) (same : PlansAs t u) (complete : u.plu.complete = t.plu.complete)
    (plan : u.plu.plan = t.plu.plan) (prev0 : u.plu.prev0 = t.plu.prev0) (prev1 : u.plu.prev1 = t.plu.prev1)
    (supp0 : u.los.supp0 = t.los.supp0) (supp1 : u.los.supp1 = t.los.supp1) : Planned s v u where
  complete := by rw [complete, same.cfg, same.peers]; exact h.complete
  plan := plan.trans (h.plan.trans (congrArg some (same.planOf v).symm))
  prev0 := prev0.trans h.prev0
  prev1 := prev1.trans h.prev1
  supp0 := by rw [supp0, same.cfg, currentWindow, plan]; exact h.supp0
  supp1 := by rw [supp1, same.cfg, currentWindow, plan]; exact h.supp1

theorem Planned.settled (h : Planned s v t) : Planned s v (settle t) :=
  h.after ⟨rfl, rfl, rfl, rfl, rfl⟩ rfl rfl rfl rfl rfl rfl

/-! ### Founding (R50, R57) -/

/-- The part that becomes MEMBER at a boundary: no change, no backoff timer, a CLAIM requested, no count to make (R57). -/
theorem memberEntry_eq (member : s.mbc.station = .member) : memberEntry s = requested
    { s with
      mbc := { s.mbc with changes := [], backoff := none }
      plu := { s.plu with age := 0, claimed := false, counting := false } } .claim :=
  postRequest_eq_requested (by exact member ▸ rfl)

theorem Coherent.listening_requests (coherent : Coherent s) (listening : s.mbc.station = .listening) :
    s.tli.requests = Requests.empty := by
  have none_ : ∀ k, s.tli.requests.hasKind k = false := fun k => by
    by_contra held
    have := coherent.requests k (by simpa using held)
    rw [listening] at this
    cases this
  have recast := none_ .recast
  have leave := none_ .leave
  have hail := none_ .hail
  have claim := none_ .claim
  revert recast leave hail claim
  cases s.tli.requests
  rintro ⟨⟩ ⟨⟩ ⟨⟩ ⟨⟩
  rfl

/-- Founding (R50, R19, R57), of a part without a request. -/
theorem found_eq (silent : s.tli.requests = Requests.empty) : found s = requested (appended (appended
    { s with
      cyt := { s.cyt with adopted := true }
      mbc := { s.mbc with station := .member, current := some (foundedView s), pending := none, changes := []
                          backoff := none }
      plu := { s.plu with age := 0, claimed := false, counting := false } }
    { kind := .founded, cycle := some s.cyt.cycle, station := none, detail := some { code := 0, value := 1 } })
    { kind := .joined, cycle := some s.cyt.cycle, station := none, detail := some { code := 0, value := 1 } })
    .claim := by
  have same : setStation s .member = { s with mbc := { s.mbc with station := .member } } := by
    rw [setStation, silent, show Requests.empty.withdraw .member = Requests.empty from rfl, ← silent]
  rw [found, same]
  dsimp only
  rw [post_eq_appended (by rfl), post_eq_appended (by rfl), memberEntry_eq (by rfl)]
  rfl

/-- Settles O38. -/
theorem foundGroupTaken : Obligations.FoundGroupTaken := by
  intro s released coherent listening begun count clear high
  have due : foundDue s s.sli.prevHigh = true := by
    simp [foundDue, listening, begun, count, clear, high, listenWindow]
  have silent := coherent.listening_requests listening
  have complete : tableComplete (found s) = true := by
    rw [found_eq silent, tableComplete_iff (v := foundedView s) rfl]
    rintro ⟨id, leg⟩ held
    obtain ⟨m, is, legs⟩ := List.mem_flatMap.mp held
    obtain rfl := List.mem_singleton.mp is
    refine .inl ?_
    split at legs
    · obtain ⟨⟨⟩⟩ | legs := List.mem_cons.mp legs
      · rfl
      · obtain ⟨⟨⟩⟩ := List.mem_singleton.mp legs
        rfl
    · obtain ⟨⟨⟩⟩ := List.mem_singleton.mp legs
      rfl
  have row := exec_due (c := .foundGroup) rfl released due
  have untouched := ((inside_found s).trans (inside_finishBoundary _)).untouched.settle
  rw [found_eq silent] at row complete untouched
  rw [finishBoundary_grouped (v := foundedView s) rfl rfl] at row untouched
  refine ⟨_, row, rfl, rfl, rfl, ?_, rfl, rfl, rfl, complete, rfl, ⟨_, rfl, rfl, rfl⟩, rfl, rfl, rfl, rfl, untouched,
    rfl⟩
  simp [plannedOn, requested, appended, silent, Requests.empty]

end

end Sys2Proof.Machine

/-! ## What the loss test moves, and the timer through a boundary's acts (R4, R5, R14, R19, R75, R138) -/

namespace Sys2Proof.Machine

section
variable {s t u : State} {v : View}

/-! ### What the loss test moves (R75, R89, R91) -/

/-- The part `s` with what the loss of peers moves, as `t` holds it: the entries, the change list, the backoff timer, the
RECAST request, the frame in flight and the event records. -/
def bereave (s t : State) : State :=
  { s with
    peers := t.peers
    mbc := { s.mbc with changes := t.mbc.changes, backoff := t.mbc.backoff }
    tli := { s.tli with
      requests := { s.tli.requests with recast := t.tli.requests.recast }, flight := t.tli.flight }
    evq := { s.evq with records := t.evq.records } }

/-- From `s` to `t` nothing has moved but what the loss of peers moves. -/
def Losing (s t : State) : Prop := t = bereave s t

theorem Losing.eq (h : Losing s t) : t = bereave s t := h

theorem Losing.refl (s : State) : Losing s s := rfl

theorem Losing.trans (h : Losing s t) (k : Losing t u) : Losing s u :=
  calc u = bereave t u := k
    _ = bereave (bereave s t) u := congrArg (bereave · u) h.eq

theorem Losing.ite {a b : State} {q : Prop} [Decidable q] (ha : Losing s a) (hb : Losing s b) :
    Losing s (if q then a else b) := by
  split
  · exact ha
  · exact hb

theorem Losing.foldl {α : Type} {f : State → α → State} (h : ∀ s x, Losing s (f s x)) (xs : List α) (s : State) :
    Losing s (xs.foldl f s) := by
  induction xs generalizing s with
  | nil => exact .refl s
  | cons x xs ih => exact (h s x).trans (ih (f s x))

theorem losing_setBackoff (s : State) : Losing s (setBackoff s) := by
  have asked : Losing s (postRequest { s with mbc.backoff := none } .recast) :=
    Losing.trans (t := { s with mbc.backoff := none }) rfl (.ite rfl (.refl _))
  exact .ite asked rfl

theorem losing_appendChange (s : State) (kept : List ChangeEntry) (id : Nat) (change : Change) :
    Losing s (appendChange s kept id change) :=
  Losing.trans (t := { s with mbc.changes := kept ++ [changeNow s id change] }) rfl
    (.ite (losing_setBackoff _) (.refl _))

theorem losing_placeChange (s : State) (id : Nat) (change : Change) : Losing s (placeChange s id change) := by
  unfold placeChange
  refine .ite (losing_appendChange ..) (.ite (losing_appendChange ..) ?_)
  split
  · split
    next old _ => exact Losing.trans (t := refuseHail s old.id true) rfl (losing_appendChange ..)
    · exact losing_appendChange ..
  · rfl

theorem losing_lossTest (s : State) : Losing s (lossTest s) := by
  have marks : ∀ s p, Losing s (markLost s p) := fun _ _ => rfl
  have places : ∀ s id, Losing s (placeLost s id) := fun s id => .ite (losing_placeChange s id _) (.refl s)
  exact .ite ((Losing.foldl marks _ s).trans (Losing.foldl places _ _)) (.refl s)

/-- A table without a MEMBER entry silent for 32 boundaries loses none. -/
theorem lossTest_still (heard : ∀ p ∈ s.peers, p.silence < 32) : lossTest s = s := by
  have none_ : s.peers.filter isOverdue = [] := List.filter_eq_nil_iff.mpr fun p hp => by
    have := heard p hp
    simp [isOverdue]
    omega
  rw [lossTest, none_]
  split <;> rfl

theorem lossTest_outside (outside : s.mbc.station.inGroup = false) : lossTest s = s := if_neg (by simp [outside])

theorem mem_createMember {ms : List Member} {t : List Peer} {m : Member} {p : Peer}
    (held : p ∈ createMember ms t m) : p ∈ t ∨ p = freshMember m := by
  cases found : findPeer t m.id with
  | some q => exact .inl (createMember_held (ms := ms) found ▸ held)
  | none =>
    by_cases room : t.length < 20
    · rw [createMember_room found room] at held
      exact (mem_insertPeer.mp held).symm
    · cases goes : mostSilent (t.filter (fun p => !lists ms p.id)) with
      | some old =>
        rw [createMember_full found room goes] at held
        exact (mem_insertPeer.mp held).symm.imp_left fun kept => (mem_removePeer.mp kept).1
      | none => simp_all [createMember]

/-- A switch leaves no entry more silent than it found it, and a new one not silent at all (R69, R80). -/
theorem tableSwitch_silence {n : Nat} (heard : ∀ p ∈ s.peers, p.silence < n) (some_ : 0 < n) (v : View) :
    ∀ p ∈ (tableSwitch s v).peers, p.silence < n := by
  have start : ∀ p ∈ s.peers.map (Peer.underView v.members), p.silence < n := by
    intro p hp
    obtain ⟨q, hq, rfl⟩ := List.mem_map.mp hp
    rw [underView_silence]
    exact heard q hq
  suffices steps : ∀ (ms : List Member) (t : List Peer), (∀ p ∈ t, p.silence < n) →
      ∀ p ∈ ms.foldl (createMember v.members) t, p.silence < n from steps _ _ start
  intro ms
  induction ms with
  | nil => exact fun t ht => ht
  | cons m ms ih =>
    refine fun t ht => ih _ fun p hp => ?_
    obtain kept | rfl := mem_createMember hp
    · exact ht p kept
    · exact some_

end

/-! ### The timer, the FAULT latch and the SYNC records -/

/-- From `s` to `t` the last snap amount, the slip count and the FAULT latch stand, and the position and the cycle number
too, unless the station has entered DETACHED, where both are 0; so do the low-duration count and the previous sample of
SYNC, and a marker is driven in MEMBER and LEAVING alone. -/
structure Clocked (s t : State) : Prop where
  lastSnap : t.cyt.lastSnap = s.cyt.lastSnap
  slips : t.cyt.slips = s.cyt.slips
  latch : t.los.latch = s.los.latch
  place : (t.cyt.position = s.cyt.position ∧ t.cyt.cycle = s.cyt.cycle ∧
      (s.mbc.station.running = true → t.mbc.station.running = true) ∧
      (s.mbc.station = .detached → t.mbc.station = .detached)) ∨
    (t.mbc.station = .detached ∧ t.cyt.position = 0 ∧ t.cyt.cycle = 0)
  line : (t.sli.stuckCount = s.sli.stuckCount ∧ t.sli.prevHigh = s.sli.prevHigh) ∨ t.mbc.station = .detached
  marker : (s.sli.markerActive = true → s.mbc.station.inGroup = true) → t.sli.markerActive = true →
    t.mbc.station.inGroup = true

section
variable {s t u : State}

theorem Clocked.refl (s : State) : Clocked s s := ⟨rfl, rfl, rfl, .inl ⟨rfl, rfl, id, id⟩, .inl ⟨rfl, rfl⟩, id⟩

theorem Clocked.detached (h : Clocked s t) (is : s.mbc.station = .detached) : t.mbc.station = .detached := by
  obtain ⟨-, -, -, detached⟩ | ⟨gone, -⟩ := h.place
  · exact detached is
  · exact gone

theorem Clocked.trans (h : Clocked s t) (k : Clocked t u) : Clocked s u where
  lastSnap := k.lastSnap.trans h.lastSnap
  slips := k.slips.trans h.slips
  latch := k.latch.trans h.latch
  place := by
    obtain ⟨position, cycle, runs, detached⟩ | gone := k.place
    · obtain ⟨position_, cycle_, runs_, detached_⟩ | ⟨is, zero, zero_⟩ := h.place
      · exact .inl ⟨position.trans position_, cycle.trans cycle_, runs ∘ runs_, detached ∘ detached_⟩
      · exact .inr ⟨detached is, position.trans zero, cycle.trans zero_⟩
    · exact .inr gone
  line := by
    obtain ⟨count, prev⟩ | gone := k.line
    · obtain ⟨count_, prev_⟩ | is := h.line
      · exact .inl ⟨count.trans count_, prev.trans prev_⟩
      · exact .inr (k.detached is)
    · exact .inr gone
  marker := fun drives => k.marker (h.marker drives)

theorem Clocked.ite {a b : State} {q : Prop} [Decidable q] (ha : q → Clocked s a) (hb : ¬ q → Clocked s b) :
    Clocked s (if q then a else b) := by
  split
  next h => exact ha h
  next h => exact hb h

/-- Nothing of the timer, the SYNC records, the latch and the station state moves. -/
theorem Clocked.plain (cyt : t.cyt = s.cyt) (sli : t.sli = s.sli) (los : t.los.latch = s.los.latch)
    (station : t.mbc.station = s.mbc.station) : Clocked s t where
  lastSnap := by rw [cyt]
  slips := by rw [cyt]
  latch := los
  place := .inl ⟨by rw [cyt], by rw [cyt], station ▸ id, station ▸ id⟩
  line := .inl ⟨by rw [sli], by rw [sli]⟩
  marker := by rw [sli, station]; exact id

theorem Confined.clocked (h : Confined s t) : Clocked s t := .plain h.cyt h.sli (congrArg LegStage.latch h.los) h.station

/-! ### Changes of station state -/

/-- A running station goes to another running state with its position, cycle number, snap amount and slips. -/
theorem Clocked.running (position : t.cyt.position = s.cyt.position) (cycle : t.cyt.cycle = s.cyt.cycle)
    (lastSnap : t.cyt.lastSnap = s.cyt.lastSnap) (slips : t.cyt.slips = s.cyt.slips)
    (latch : t.los.latch = s.los.latch) (was : s.mbc.station ≠ .detached) (runs : t.mbc.station.running = true)
    (line : t.sli.stuckCount = s.sli.stuckCount ∧ t.sli.prevHigh = s.sli.prevHigh)
    (marker : (s.sli.markerActive = true → s.mbc.station.inGroup = true) → t.sli.markerActive = true →
      t.mbc.station.inGroup = true) : Clocked s t :=
  ⟨lastSnap, slips, latch, .inl ⟨position, cycle, fun _ => runs, fun is => absurd is was⟩, .inl line, marker⟩

theorem clocked_post (s : State) (k : EventKind) (id : Option Nat) (detail : Option Detail) :
    Clocked s (post s k id detail) := (confined_post s k id detail).clocked

theorem clocked_enterDetached (s : State) (reason : DetachReason) : Clocked s (enterDetached s reason) :=
  ⟨rfl, rfl, rfl, .inr ⟨rfl, rfl, rfl⟩, .inr rfl, nofun⟩

theorem clocked_detachLeft (s : State) (reason : DetachReason) : Clocked s (detachLeft s reason) :=
  (clocked_post s _ _ _).trans (clocked_enterDetached _ reason)

theorem not_detached_of_running (runs : s.mbc.station.running = true) : s.mbc.station ≠ .detached := by
  rintro is
  rw [is] at runs
  cases runs

theorem clocked_enterListening (runs : s.mbc.station.running = true) : Clocked s (enterListening s) :=
  .running rfl rfl rfl rfl rfl (not_detached_of_running runs) rfl ⟨rfl, rfl⟩ nofun

theorem clocked_memberToAligning (runs : s.mbc.station.running = true) : Clocked s (memberToAligning s) :=
  .running rfl rfl rfl rfl rfl (not_detached_of_running runs) rfl ⟨rfl, rfl⟩ nofun

/-! ### The acts of a boundary -/

theorem clocked_tableSwitch (s : State) (v : View) : Clocked s (tableSwitch s v) := (.plain rfl rfl rfl rfl)

theorem clocked_zeroIfNew (s : State) (v : View) : Clocked s (zeroIfNew s v) := .ite (fun _ => (.plain rfl rfl rfl rfl)) fun _ => .refl s

theorem clocked_postRequest (s : State) (k : FrameKind) : Clocked s (postRequest s k) := (confined_postRequest s k).clocked

theorem clocked_memberEntry (s : State) : Clocked s (memberEntry s) :=
  Clocked.trans (t := { s with
    mbc := { s.mbc with changes := [], backoff := none }
    plu := { s.plu with age := 0, claimed := false, counting := false } }) (.plain rfl rfl rfl rfl) (clocked_postRequest _ _)

theorem clocked_expireLease (s : State) : Clocked s (expireLease s) :=
  Clocked.trans (t := post { s with plu := { s.plu with
      lease := 0, leg0 := { s.plu.leg0 with requested := 0 }, leg1 := { s.plu.leg1 with requested := 0 } } }
    .leaseExpired none (some { code := 0, value := s.cfg.lease })) (.plain rfl rfl rfl rfl) (confined_claimDueTest _).clocked

theorem clocked_planCount (s : State) : Clocked s (planCount s) := by
  have lease : ∀ q, Clocked q (leaseStep q) := fun q => .ite (fun _ => clocked_expireLease q) fun _ => (.plain rfl rfl rfl rfl)
  have age : ∀ q, Clocked q (ageStep q) := fun q =>
    .ite (fun _ => Clocked.trans (t := { q with plu.age := min (q.plu.age + 1) 255 }) (.plain rfl rfl rfl rfl) (clocked_postRequest _ _))
      fun _ => (.plain rfl rfl rfl rfl)
  exact .ite (fun _ => Clocked.trans (t := { s with plu.counting := false }) (.plain rfl rfl rfl rfl) ((lease _).trans (age _)))
    fun _ => (.plain rfl rfl rfl rfl)

theorem clocked_finishBoundary (s : State) : Clocked s (finishBoundary s) := by
  have made : ∀ q, Clocked q (makePlan q) := fun q => by
    unfold makePlan
    split
    · exact .refl q
    · exact (.plain rfl rfl rfl rfl)
  have planned : Clocked s (planBoundary s) :=
    .ite (fun _ => Clocked.trans (t := { s with plu.complete := tableComplete s }) (.plain rfl rfl rfl rfl) (made _)) fun _ => .refl s
  have marked : ∀ q, Clocked q (startMarker q) := fun q =>
    .ite (fun grouped => ⟨rfl, rfl, rfl, .inl ⟨rfl, rfl, id, id⟩, .inl ⟨rfl, rfl⟩, fun _ _ => grouped⟩) fun _ => .refl q
  exact planned.trans (marked _)

theorem clocked_lossTest (s : State) : Clocked s (lossTest s) := by
  have lost := losing_lossTest s
  exact .plain (congrArg State.cyt lost.eq :) (congrArg State.sli lost.eq :)
    (congrArg (·.los.latch) lost.eq :) (congrArg (·.mbc.station) lost.eq :)

theorem clocked_purgeHeard (s : State) : Clocked s (purgeHeard s) := .plain rfl rfl rfl rfl

theorem clocked_purgeTest (s : State) : Clocked s (purgeTest s) := .ite (fun _ => clocked_purgeHeard s) fun _ => .refl s

theorem clocked_purgeBefore {f : State → State} (h : ∀ q, q.mbc.station = s.mbc.station → Clocked q (f q)) :
    Clocked s (purgeBefore f s) :=
  .ite (fun _ => Clocked.trans (t := purgeHeard s) (clocked_purgeHeard s) (h _ rfl)) fun _ => h s rfl

/-- The records of the Membership Controller move, the station state stands. -/
theorem clocked_records (s : State) (m : Membership) (station : m.station = s.mbc.station) :
    Clocked s { s with mbc := m } := .plain rfl rfl rfl station

theorem clocked_zeroPublished (s : State) : Clocked s (zeroPublished s) := (.plain rfl rfl rfl rfl)

theorem clocked_exclude (runs : s.mbc.station.running = true) (v : View) : Clocked s (exclude s v) :=
  (clocked_post s _ _ _).trans (Clocked.trans
    (clocked_memberToAligning (s := post s .excluded none (some { code := 0, value := v.epoch.toNat })) runs)
    (clocked_zeroPublished _))

theorem clocked_memberSwitch (runs : s.mbc.station.running = true) (v : View) : Clocked s (memberSwitch s v) := by
  have seated := (clocked_post s .viewChanged none (some { code := v.members.length, value := v.epoch.toNat })).trans
    ((clocked_tableSwitch _ v).trans (clocked_zeroIfNew _ v))
  exact .ite (fun _ => .ite (fun _ => seated.trans (clocked_postRequest _ _)) fun _ => seated)
    fun _ => clocked_exclude runs v

theorem clocked_leavingSwitch (s : State) (v : View) : Clocked s (leavingSwitch s v) :=
  .ite (fun _ => (clocked_tableSwitch s v).trans (clocked_postRequest _ _)) fun _ => clocked_detachLeft s _

theorem clocked_switchView (grouped : s.mbc.station.inGroup = true) : Clocked s (switchView s) := by
  unfold switchView
  split
  · exact .refl s
  next p _ =>
    have current := clocked_records s { s.mbc with current := some p.view, pending := none } rfl
    exact .ite (fun _ => current.trans (clocked_memberSwitch (by exact running_of_inGroup grouped) _))
      fun _ => current.trans (clocked_leavingSwitch _ _)

/-- A running station becomes MEMBER. -/
theorem clocked_becomeMember (runs : s.mbc.station.running = true) (m : Membership) (line : TalkLine) (adopted : Bool)
    (member : m.station = .member) :
    Clocked s { s with mbc := m, tli := line, cyt := { s.cyt with adopted := adopted } } :=
  .running rfl rfl rfl rfl rfl (not_detached_of_running runs) (by rw [member]; rfl) ⟨rfl, rfl⟩ fun _ _ => by
    rw [member]
    rfl

theorem clocked_admitTo (runs : s.mbc.station.running = true) (v : View) : Clocked s (admitTo s v) := by
  have entered := clocked_becomeMember runs
    { s.mbc with station := .member, current := some v, pending := none, observed := Observed.empty }
    { s.tli with requests := s.tli.requests.withdraw .member } s.cyt.adopted rfl
  exact entered.trans ((clocked_post _ _ _ _).trans ((clocked_tableSwitch _ v).trans
    ((clocked_zeroIfNew _ _).trans (clocked_memberEntry _))))

theorem clocked_switchObserved (following : s.mbc.station.following = true) : Clocked s (switchObserved s) := by
  unfold switchObserved
  split
  · exact .refl s
  next p _ =>
    exact .ite (fun _ => .ite (fun _ => clocked_admitTo (running_of_following following) _)
      fun _ => clocked_records s { s.mbc with observed := observedMoved s p.view } rfl)
      fun _ => clocked_records s { s.mbc with observed := { s.mbc.observed with pending := none } } rfl

theorem clocked_found (runs : s.mbc.station.running = true) : Clocked s (found s) := by
  have entered := clocked_becomeMember runs
    { s.mbc with station := .member, current := some (foundedView s), pending := none }
    { s.tli with requests := s.tli.requests.withdraw .member } true rfl
  exact entered.trans ((clocked_post _ _ _ _).trans ((clocked_post _ _ _ _).trans (clocked_memberEntry _)))

theorem clocked_whenDue {due : State → Bool} {f : State → State} (h : due s = true → Clocked s (f s)) :
    Clocked s (whenDue due f s) := .ite h fun _ => .refl s

theorem clocked_alignTimeout (runs : s.mbc.station.running = true) : Clocked s (alignTimeout s) :=
  (clocked_post s _ _ _).trans (clocked_enterListening (s := post s .alignTimeout none none) runs)

theorem clocked_hailInterval (s : State) : Clocked s (hailInterval s) :=
  .ite (fun _ => (clocked_records s { s.mbc with hailCount := s.mbc.hailCount + 1, hailInterval := 0 } rfl).trans
    (clocked_postRequest _ _)) fun _ => (clocked_post s _ _ _).trans (clocked_enterDetached _ _)

theorem clocked_backoffExpiry (s : State) : Clocked s (backoffExpiry s) :=
  (clocked_records s { s.mbc with backoff := none } rfl).trans (clocked_postRequest _ _)

/-- The Membership Controller at a boundary (R43). -/
theorem clocked_controllerBoundary (syncHigh : Bool) (s : State) : Clocked s (controllerBoundary syncHigh s) := by
  have observed : ∀ q, Clocked q (whenDue observedSwitchDue switchObserved q) := fun q =>
    clocked_whenDue fun due => clocked_switchObserved (following_of_observedSwitchDue due)
  have switch : ∀ q, Clocked q (whenDue viewSwitchDue switchView q) := fun q =>
    clocked_whenDue fun due => clocked_switchView (inGroup_of_viewSwitchDue due)
  unfold controllerBoundary
  split
  next st =>
    exact (clocked_records s { s.mbc with listenCount := min (s.mbc.listenCount + 1) (listenWindow s) } rfl).trans
      (clocked_whenDue fun _ => clocked_found (st ▸ rfl))
  next st =>
    exact (observed s).trans ((clocked_records _ { (whenDue observedSwitchDue switchObserved s).mbc with
      alignCount := (whenDue observedSwitchDue switchObserved s).mbc.alignCount + 1 } rfl).trans
      (clocked_whenDue fun due => clocked_alignTimeout (station_of_alignTimeoutDue due ▸ rfl)))
  next st =>
    exact (observed s).trans (.ite (fun _ => (clocked_records _ { (whenDue observedSwitchDue switchObserved s).mbc with
      hailInterval := (whenDue observedSwitchDue switchObserved s).mbc.hailInterval + 1 } rfl).trans
      (clocked_whenDue fun _ => clocked_purgeBefore fun q _ => clocked_hailInterval q)) fun _ => .refl _)
  next st =>
    exact (clocked_records s { s.mbc with backoff := s.mbc.backoff.map (· - 1) } rfl).trans
      ((clocked_whenDue fun _ => clocked_backoffExpiry _).trans (switch _))
  next st =>
    exact (clocked_records s { s.mbc with leaveCount := s.mbc.leaveCount + 1 } rfl).trans
      ((clocked_whenDue fun due => clocked_purgeBefore fun q is =>
        clocked_switchView (is ▸ inGroup_of_viewSwitchDue due)).trans
      (clocked_whenDue fun _ => clocked_purgeBefore fun q _ => clocked_detachLeft q _))
  · exact .refl s

end

end Sys2Proof.Machine

/-! ## The rows VIEW_SWITCH and OBSERVED_SWITCH (R56, R59, R99, R108) -/

namespace Sys2Proof.Machine

section
variable {s t u : State} {v : View}

/-! ### The end of a boundary that switches to a view (R15, R75, R127) -/

/-- What stands after a boundary's end from `y`, in MEMBER or LEAVING on the current view `v`. -/
structure Ends (y : State) (v : View) (t : State) : Prop where
  mbc : t.mbc = { y.mbc with changes := t.mbc.changes, backoff := t.mbc.backoff }
  cyt : t.cyt = y.cyt
  sli : t.sli = { y.sli with markerActive := true, markerLeft := 8 }
  plu : t.plu = { y.plu with
    complete := t.plu.complete, plan := t.plu.plan, prev0 := t.plu.prev0, prev1 := t.plu.prev1 }
  requests : t.tli.requests = { y.tli.requests with recast := t.tli.requests.recast }
  latch : t.los.latch = y.los.latch
  planned : Planned y v t
  still : (∀ q ∈ y.peers, q.silence < 32) → t.peers = y.peers ∧ t.mbc = y.mbc ∧ t.evq.records = y.evq.records

theorem ends_finishBoundary {y : State} (grouped : y.mbc.station.inGroup = true) (current : y.mbc.current = some v) :
    Ends y v (settle (finishBoundary (lossTest y))) := by
  have lost := losing_lossTest y
  have grouped_ : (lossTest y).mbc.station.inGroup = true := by rw [lost.eq]; exact grouped
  have current_ : (lossTest y).mbc.current = some v := by rw [lost.eq]; exact current
  have planned := (planned_plannedOn current_).settled.before (u := y) (by rw [lost.eq]; rfl) (by rw [lost.eq]; rfl)
  rw [finishBoundary_grouped grouped_ current_]
  exact {
    mbc := (congrArg State.mbc lost.eq :)
    cyt := (congrArg State.cyt lost.eq :)
    sli := (congrArg (fun q : State => { q.sli with markerActive := true, markerLeft := 8 }) lost.eq :)
    plu := by rw [lost.eq]; rfl
    requests := (congrArg (·.tli.requests) lost.eq :)
    latch := (congrArg (·.los.latch) lost.eq :)
    planned := planned
    still := fun heard => by rw [lossTest_still heard]; exact ⟨rfl, rfl, rfl⟩ }

theorem finishBoundary_lossTest_outside (outside : s.mbc.station.inGroup = false) :
    finishBoundary (lossTest s) = s := by rw [lossTest_outside outside, finishBoundary_outside outside]

/-! ### The pending view becomes current (R59, R62, R99) -/

/-- The view `v` is current and the table has taken it (R80, R99). -/
def seatedOn (s : State) (v : View) : State :=
  { s with
    mbc := { s.mbc with current := some v, pending := none }
    peers := (tableSwitch s v).peers }

theorem reached_iff (c x : U16) : reached c x = true ↔ c = x ∨ newer c x = true := by simp [reached]

theorem viewSwitchDue_of {p : PendingView} (begun : s.cyt.begun = true) (held : s.mbc.pending = some p)
    (now : s.cyt.cycle = p.switchCycle ∨ newer s.cyt.cycle p.switchCycle = true)
    (grouped : s.mbc.station.inGroup = true) : viewSwitchDue s = true := by
  simp [viewSwitchDue, begun, held, grouped, (reached_iff ..).mpr now]

/-- The VIEW_CHANGED that a MEMBER posts at its switch (R62). -/
def viewChanged (s : State) (v : View) : Event :=
  { kind := .viewChanged, cycle := some s.cyt.cycle, station := none
    detail := some { code := v.members.length, value := v.epoch.toNat } }

theorem zeroIfNew_new (new_ : listsNew v.members s.cfg.id = true) : zeroIfNew s v = zeroPublished s := if_pos new_

theorem zeroIfNew_old (old : listsNew v.members s.cfg.id = false) : zeroIfNew s v = s := if_neg (by simp [old])

theorem switchView_member {p : PendingView} (member : s.mbc.station = .member) (held : s.mbc.pending = some p)
    (listed : lists p.view.members s.cfg.id = true) : switchView s =
      if listsNew p.view.members s.cfg.id then
        requested (zeroPublished (appended (seatedOn s p.view) (viewChanged s p.view))) .claim
      else appended (seatedOn s p.view) (viewChanged s p.view) := by
  have post_ := post_eq_appended (s := { s with mbc := { s.mbc with current := some p.view, pending := none } })
    (by exact member ▸ rfl) .viewChanged none (some { code := p.view.members.length, value := p.view.epoch.toNat })
  rw [switchView, held]
  dsimp only
  rw [if_pos member, memberSwitch, if_pos listed, post_]
  dsimp only
  cases new_ : listsNew p.view.members s.cfg.id
  · rw [zeroIfNew_old (by exact new_)]
    rfl
  · rw [zeroIfNew_new (by exact new_)]
    exact postRequest_eq_requested (by exact member ▸ rfl)

theorem switchView_excluded {p : PendingView} (member : s.mbc.station = .member) (held : s.mbc.pending = some p)
    (unlisted : lists p.view.members s.cfg.id = false) : switchView s =
      zeroPublished (memberToAligning (appended { s with mbc := { s.mbc with current := some p.view, pending := none } }
        { kind := .excluded, cycle := some s.cyt.cycle, station := none
          detail := some { code := 0, value := p.view.epoch.toNat } })) := by
  rw [switchView, held]
  dsimp only
  rw [if_pos member, memberSwitch, if_neg (by exact unlisted ▸ Bool.false_ne_true), exclude,
    post_eq_appended (by exact member ▸ rfl)]

theorem switchView_leaving {p : PendingView} (leaving : s.mbc.station = .leaving) (held : s.mbc.pending = some p)
    (listed : lists p.view.members s.cfg.id = true) : switchView s = requested (seatedOn s p.view) .leave := by
  rw [switchView, held]
  dsimp only
  rw [if_neg (by simp [leaving]), leavingSwitch, if_pos listed]
  exact postRequest_eq_requested (by exact leaving ▸ rfl)

theorem switchView_left {p : PendingView} (leaving : s.mbc.station = .leaving) (held : s.mbc.pending = some p)
    (unlisted : lists p.view.members s.cfg.id = false) : switchView s = enterDetached (appended s
      { kind := .left, cycle := some s.cyt.cycle, station := none, detail := some { code := 1, value := 0 } })
      .hostLeave := by
  rw [switchView, held]
  dsimp only
  rw [if_neg (by simp [leaving]), leavingSwitch, if_neg (by exact unlisted ▸ Bool.false_ne_true),
    detachLeft_eq (by exact leaving ▸ rfl)]
  rfl

/-- What stands after the switch of a station that goes on in the group, where the part right after the switch holds the
event records `records` (R15, R59, R62, R127). -/
structure GoesOn (s : State) (v : View) (records : List Event) (t : State) : Prop where
  station : t.mbc.station = s.mbc.station
  current : t.mbc.current = some v
  pendingView : t.mbc.pending = none
  leaveCount : t.mbc.leaveCount = s.mbc.leaveCount
  active : t.sli.markerActive = true
  left : t.sli.markerLeft = 8
  cyt : t.cyt = s.cyt
  planned : Planned s v t
  still : (∀ q ∈ s.peers, q.silence < 32) → t.peers = (tableSwitch s v).peers ∧
    t.mbc = { s.mbc with current := some v, pending := none } ∧ t.evq.records = records

theorem Ends.goesOn {y : State} (ends : Ends y v t) (mbc : y.mbc = { s.mbc with current := some v, pending := none })
    (cyt : y.cyt = s.cyt) (peers : y.peers = (tableSwitch s v).peers) (plan : y.plu.plan = s.plu.plan)
    (cfg : y.cfg = s.cfg) : GoesOn s v y.evq.records t := by
  have held := ends.mbc
  rw [mbc] at held
  exact {
    station := (congrArg Membership.station held :)
    current := (congrArg Membership.current held :)
    pendingView := (congrArg Membership.pending held :)
    leaveCount := (congrArg Membership.leaveCount held :)
    active := (congrArg SyncLine.markerActive ends.sli :)
    left := (congrArg SyncLine.markerLeft ends.sli :)
    cyt := ends.cyt.trans cyt
    planned := ends.planned.before plan cfg
    still := fun heard => by
      rw [← mbc, ← peers]
      exact ends.still (peers ▸ tableSwitch_silence heard (by decide) v) }

/-- Settles O39. -/
theorem viewSwitchTaken : Obligations.ViewSwitchTaken := by
  intro s p released begun held now grouped
  have grouped_ : s.mbc.station.inGroup = true := by rcases grouped with st | st <;> rw [st] <;> rfl
  have row := exec_due (c := .viewSwitch) rfl released (viewSwitchDue_of begun held now grouped_)
  have untouched : Untouched s (settle (finishBoundary (lossTest (switchView s)))) :=
    ((inside_switchView s).trans ((inside_lossTest _).trans (inside_finishBoundary _))).untouched.settle
  refine ⟨_, row, fun member listed => ?_, fun member unlisted => ?_, fun leaving listed => ?_,
    fun leaving unlisted => ?_, untouched,
    ((clocked_switchView grouped_).trans ((clocked_lossTest _).trans (clocked_finishBoundary _))).latch⟩
  · rw [switchView_member member held listed]
    cases new_ : listsNew p.view.members s.cfg.id
    · have ends := ends_finishBoundary (y := appended (seatedOn s p.view) (viewChanged s p.view)) (v := p.view)
        (by exact grouped_) rfl
      have on := ends.goesOn (s := s) rfl rfl rfl rfl rfl
      exact ⟨on.station.trans member, on.current, on.pendingView, on.active, on.left, on.cyt,
        fun heard => (on.still heard).2.2, on.planned, fun heard => ⟨(on.still heard).1, (on.still heard).2.1⟩,
        nofun, fun _ => ⟨(congrArg PlanUnit.leg0 ends.plu :), (congrArg PlanUnit.leg1 ends.plu :)⟩⟩
    · have ends := ends_finishBoundary
        (y := requested (zeroPublished (appended (seatedOn s p.view) (viewChanged s p.view))) .claim) (v := p.view)
        (by exact grouped_) rfl
      have on := ends.goesOn (s := s) rfl rfl rfl rfl rfl
      refine ⟨on.station.trans member, on.current, on.pendingView, on.active, on.left, on.cyt,
        fun heard => (on.still heard).2.2, on.planned, fun heard => ⟨(on.still heard).1, (on.still heard).2.1⟩,
        fun _ => ⟨(congrArg PlanUnit.leg0 ends.plu :), (congrArg PlanUnit.leg1 ends.plu :), ?_⟩,
        nofun⟩
      refine ((congrArg Requests.claim ends.requests :) : _ = _).trans ?_
      simp [requested]
  · rw [switchView_excluded member held unlisted, finishBoundary_lossTest_outside (by rfl), memberToAligning,
      enterAligning_eq]
    exact ⟨rfl, rfl, rfl, rfl, rfl, rfl, rfl, rfl, rfl, rfl, rfl, rfl, rfl⟩
  · rw [switchView_leaving leaving held listed]
    have ends := ends_finishBoundary (y := requested (seatedOn s p.view) .leave) (v := p.view) (by exact grouped_) rfl
    have on := ends.goesOn (s := s) rfl rfl rfl rfl rfl
    refine ⟨on.station.trans leaving, on.current, on.pendingView, on.leaveCount, ?_, on.cyt, on.active,
      (congrArg PlanUnit.leg0 ends.plu :), (congrArg PlanUnit.leg1 ends.plu :), on.planned, on.still⟩
    refine ((congrArg Requests.leave ends.requests :) : _ = _).trans ?_
    simp [requested]
  · rw [switchView_left leaving held unlisted, finishBoundary_lossTest_outside (by rfl)]

/-! ### The observed pending view (R56, R57, R108) -/

theorem observedSwitchDue_of {p : PendingView} (begun : s.cyt.begun = true) (held : s.mbc.observed.pending = some p)
    (following : s.mbc.station.following = true)
    (now : (s.cyt.cycle = p.switchCycle ∨ newer s.cyt.cycle p.switchCycle = true) ∨ 8 < ahead p.switchCycle s.cyt.cycle) :
    observedSwitchDue s = true := by
  rcases now with now | far
  · simp [observedSwitchDue, begun, held, following, (reached_iff ..).mpr now]
  · simp [observedSwitchDue, begun, held, following, far]

/-- The part admitted to the view `v` before its demands and its requests (R56, R80). -/
def admitted (s : State) (v : View) : State :=
  appended { s with
      tli := { s.tli with requests := s.tli.requests.withdraw .member }
      mbc := { s.mbc with station := .member, current := some v, pending := none, observed := Observed.empty
                          changes := [], backoff := none }
      peers := (tableSwitch s v).peers
      plu := { s.plu with age := 0, claimed := false, counting := false } }
    { kind := .joined, cycle := some s.cyt.cycle, station := none, detail := some { code := 0, value := v.epoch.toNat } }

theorem admitTo_eq (s : State) (v : View) : admitTo s v =
    requested (if listsNew v.members s.cfg.id then zeroPublished (admitted s v) else admitted s v) .claim := by
  rw [admitTo]
  dsimp only
  rw [post_eq_appended (by rfl)]
  cases new_ : listsNew v.members s.cfg.id
  · rw [zeroIfNew_old (by exact new_), memberEntry_eq (by rfl)]
    rfl
  · rw [zeroIfNew_new (by exact new_), memberEntry_eq (by rfl)]
    rfl

theorem switchObserved_admits {p : PendingView} (hailing : s.mbc.station = .hailing)
    (held : s.mbc.observed.pending = some p) (listed : lists p.view.members s.cfg.id = true)
    (now : s.cyt.cycle = p.switchCycle ∨ newer s.cyt.cycle p.switchCycle = true) :
    switchObserved s = admitTo s p.view := by
  rw [switchObserved, held]
  dsimp only
  rw [if_pos ((reached_iff ..).mpr now), if_pos ⟨hailing, listed⟩]

theorem switchObserved_moves {p : PendingView} (held : s.mbc.observed.pending = some p)
    (now : s.cyt.cycle = p.switchCycle ∨ newer s.cyt.cycle p.switchCycle = true)
    (stays : ¬ (s.mbc.station = .hailing ∧ lists p.view.members s.cfg.id = true)) :
    switchObserved s = { s with mbc := { s.mbc with observed := observedMoved s p.view } } := by
  rw [switchObserved, held]
  dsimp only
  rw [if_pos ((reached_iff ..).mpr now), if_neg stays]

theorem switchObserved_discards {p : PendingView} (held : s.mbc.observed.pending = some p)
    (early : ¬ (s.cyt.cycle = p.switchCycle ∨ newer s.cyt.cycle p.switchCycle = true)) :
    switchObserved s = { s with mbc := { s.mbc with observed := { s.mbc.observed with pending := none } } } := by
  rw [switchObserved, held]
  dsimp only
  rw [if_neg (by rwa [reached_iff])]

/-- What stands after the boundary of an admission (R56, R57, R80, R108, R127). -/
structure Admits (s : State) (v : View) (t : State) : Prop where
  mbc : t.mbc = { (admitted s v).mbc with changes := t.mbc.changes, backoff := t.mbc.backoff }
  claim : t.tli.requests.claim = true
  claimed : t.plu.claimed = false
  age : t.plu.age = 0
  active : t.sli.markerActive = true
  left : t.sli.markerLeft = 8
  cyt : t.cyt = s.cyt
  planned : Planned s v t
  still : (∀ q ∈ s.peers, q.silence < 32) → t.peers = (tableSwitch s v).peers ∧
    t.mbc = (admitted s v).mbc ∧ t.evq.records = (admitted s v).evq.records

theorem Ends.admits {y : State} (ends : Ends (requested y .claim) v t) (mbc : y.mbc = (admitted s v).mbc)
    (cyt : y.cyt = s.cyt) (peers : y.peers = (tableSwitch s v).peers) (plan : y.plu.plan = s.plu.plan)
    (age : y.plu.age = 0) (claimed : y.plu.claimed = false) (cfg : y.cfg = s.cfg)
    (records : y.evq.records = (admitted s v).evq.records) : Admits s v t where
  mbc := by rw [← mbc]; exact ends.mbc
  claim := ((congrArg Requests.claim ends.requests :) : _ = _).trans (by simp [requested])
  claimed := ((congrArg PlanUnit.claimed ends.plu :) : _ = _).trans claimed
  age := ((congrArg PlanUnit.age ends.plu :) : _ = _).trans age
  active := (congrArg SyncLine.markerActive ends.sli :)
  left := (congrArg SyncLine.markerLeft ends.sli :)
  cyt := ends.cyt.trans cyt
  planned := ends.planned.before plan cfg
  still := fun heard => by
    rw [← mbc, ← peers, ← records]
    exact ends.still (by exact peers ▸ tableSwitch_silence heard (by decide) v)

/-- The part after an admission: the records, and the own demands, 0 where the view lists the station as new (R116). -/
theorem admits_admitTo (s : State) (v : View) :
    Admits s v (settle (finishBoundary (lossTest (admitTo s v)))) ∧
    (listsNew v.members s.cfg.id = true →
      (settle (finishBoundary (lossTest (admitTo s v)))).plu.leg0 = { s.plu.leg0 with published := 0, pending := none } ∧
      (settle (finishBoundary (lossTest (admitTo s v)))).plu.leg1 = { s.plu.leg1 with published := 0, pending := none }) ∧
    (listsNew v.members s.cfg.id = false →
      (settle (finishBoundary (lossTest (admitTo s v)))).plu.leg0 = s.plu.leg0 ∧
      (settle (finishBoundary (lossTest (admitTo s v)))).plu.leg1 = s.plu.leg1) := by
  rw [admitTo_eq]
  cases new_ : listsNew v.members s.cfg.id
  · have ends := ends_finishBoundary (y := requested (admitted s v) .claim) (v := v) rfl rfl
    exact ⟨ends.admits rfl rfl rfl rfl rfl rfl rfl rfl, nofun,
      fun _ => ⟨(congrArg PlanUnit.leg0 ends.plu :), (congrArg PlanUnit.leg1 ends.plu :)⟩⟩
  · have ends := ends_finishBoundary (y := requested (zeroPublished (admitted s v)) .claim) (v := v) rfl rfl
    exact ⟨ends.admits rfl rfl rfl rfl rfl rfl rfl rfl,
      fun _ => ⟨(congrArg PlanUnit.leg0 ends.plu :), (congrArg PlanUnit.leg1 ends.plu :)⟩, nofun⟩

/-- Settles O40. -/
theorem observedSwitchTaken : Obligations.ObservedSwitchTaken := by
  intro s p released begun held st
  have following : s.mbc.station.following = true := by rcases st with st | st <;> rw [st] <;> rfl
  have outside : s.mbc.station.inGroup = false := by rcases st with st | st <;> rw [st] <;> rfl
  have row := fun now => exec_due (c := .observedSwitch) rfl released (observedSwitchDue_of begun held following now)
  refine ⟨fun now => ⟨fun hailing listed => ⟨_, row (.inl now), ?_⟩, fun stays => ?_⟩, fun early far => ?_⟩
  · have untouched : Untouched s (settle (finishBoundary (lossTest (switchObserved s)))) :=
      ((inside_switchObserved s).trans ((inside_lossTest _).trans (inside_finishBoundary _))).untouched.settle
    have latch := ((clocked_switchObserved following).trans
      ((clocked_lossTest _).trans (clocked_finishBoundary _))).latch
    have admits := admits_admitTo s p.view
    rw [switchObserved_admits hailing held listed now] at untouched latch ⊢
    generalize finishBoundary (lossTest (admitTo s p.view)) = t at *
    obtain ⟨on, zeroed, kept⟩ := admits
    have quiet : quietHold t = true := by simp [quietHold, show t.plu.claimed = false from on.claimed]
    refine ⟨(congrArg Membership.station on.mbc :), (congrArg Membership.current on.mbc :),
      (congrArg Membership.pending on.mbc :), (congrArg Membership.observed on.mbc :), on.claim, on.claimed, on.age,
      quiet, on.active, on.left, on.cyt, on.planned, fun none_ => ?_, fun heard => ?_, fun heard => (on.still heard).2.2,
      fun new_ => ?_, kept, untouched, latch⟩
    · exact ⟨by rw [on.planned.prev0, currentWindow, none_]; rfl, by rw [on.planned.prev1, currentWindow, none_]; simp⟩
    · obtain ⟨peers, mbc, -⟩ := on.still heard
      exact ⟨peers, (congrArg Membership.changes mbc :), (congrArg Membership.backoff mbc :)⟩
    · obtain ⟨leg0, leg1⟩ := zeroed new_
      rw [leg0, leg1]
      exact ⟨rfl, rfl, rfl, rfl⟩
  · rw [row (.inl now), switchObserved_moves held now stays, finishBoundary_lossTest_outside (by exact outside)]
    rfl
  · rw [row (.inr far), switchObserved_discards held early, finishBoundary_lossTest_outside (by exact outside)]

end

end Sys2Proof.Machine

/-! ## Falls (R7 to R13, R26, R51, R52) -/

namespace Sys2Proof.Machine

section
variable {s : State} {order : BoundaryOrder}

/-! ### Falls that begin no new cycle (R8, R10 to R13) -/

theorem markBoundary_eq (s : State) : markBoundary s = { s with tli := { s.tli with
    rx := if s.tli.rx.phase = .receiving then { s.tli.rx with boundary := true } else s.tli.rx } } := by
  unfold markBoundary
  split <;> rfl

/-- The test of R52, in full. -/
theorem tryHail_eq (s : State) : tryHail s =
    if s.mbc.station = .aligning ∧ s.cyt.lockCount = 4 ∧ s.cyt.adopted = true then hailed s else s := by
  split
  next hails => exact tryHail_hails hails.1 hails.2.1 hails.2.2
  next stays => exact if_neg fun h => stays ⟨h.1, by simpa [lockFlag] using h.2.1, h.2.2⟩

/-- The lock count after a fall with this snap amount (R12). -/
def lockAfter (s : State) (amount : Nat) : Nat :=
  if amount ≤ s.cfg.fp.p / 64 then min (s.cyt.lockCount + 1) 4 else 0

/-- The part with this lock count. -/
def withLock (s : State) (n : Nat) : State := { s with cyt := { s.cyt with lockCount := n } }

theorem lockRule_eq (amount : Nat) (s : State) : lockRule amount s = tryHail (withLock s (lockAfter s amount)) := rfl

/-- Outside ALIGNING the lock rule moves the lock count alone. -/
theorem lockRule_other (amount : Nat) (other : s.mbc.station ≠ .aligning) :
    lockRule amount s = withLock s (lockAfter s amount) := by
  rw [lockRule_eq, tryHail_stays]
  exact fun h => other h.1

theorem fallSeen_of (runs : s.mbc.station.running = true) (high : s.sli.prevHigh = true) : fallSeen s = true := by
  simp [fallSeen, runs, high]

theorem exec_syncFall (released : s.resetAsserted = false) (runs : s.mbc.station.running = true)
    (high : s.sli.prevHigh = true) (lockFirst : Bool) (order : BoundaryOrder) : exec (.syncFall lockFirst order) s =
      .next (settle (takeFall lockFirst order s.cyt.position { s with sli.prevHigh := false })) :=
  exec_due (c := .syncFall lockFirst order) rfl released (fallSeen_of runs high)

theorem inGroup_iff (st : Station) : st.inGroup = true ↔ st = .member ∨ st = .leaving := by cases st <;> decide

theorem following_iff (st : Station) : st.following = true ↔ st = .aligning ∨ st = .hailing := by cases st <;> decide

section
variable {c : Nat} {lockFirst : Bool}

theorem takeFall_first (listening : s.mbc.station = .listening) : takeFall lockFirst order c s = firstFall c s := by
  simp only [takeFall, fallKind, listening]

theorem takeFall_own (grouped : s.mbc.station.inGroup = true) : takeFall lockFirst order 0 s = ownFall s := by
  rcases (inGroup_iff _).mp grouped with st | st <;> simp [takeFall, fallKind, st]

theorem takeFall_ignored (grouped : s.mbc.station.inGroup = true) (later : 0 < c) (early : c < s.cfg.fp.p / 2) :
    takeFall lockFirst order c s = s := by
  have before : ¬ s.P / 2 ≤ c := early.not_ge
  rcases (inGroup_iff _).mp grouped with st | st <;> simp [takeFall, fallKind, st, later.ne', before]

theorem takeFall_late (following : s.mbc.station.following = true) (early : c < s.cfg.fp.p / 2) :
    takeFall lockFirst order c s = lateRestart c s := by
  have before : ¬ s.P / 2 ≤ c := early.not_ge
  rcases (following_iff _).mp following with st | st <;> simp [takeFall, fallKind, st, before]

theorem takeFall_snap (runs : s.mbc.station.running = true) (other : s.mbc.station ≠ .listening) (later : 0 < c)
    (late : s.cfg.fp.p / 2 ≤ c) : takeFall lockFirst order c s = snap lockFirst order c s := by
  have late : s.P / 2 ≤ c := late
  cases st : s.mbc.station <;> simp_all [takeFall, fallKind, later.ne', Station.running]

end

theorem not_aligning_of_inGroup {st : Station} (grouped : st.inGroup = true) : st ≠ .aligning := by
  rintro rfl
  cases grouped

/-- A running part right after a late restart, before it may hail (R11, R12, R26). -/
def lateAt (c : Nat) (s : State) : State :=
  { s with
    cyt := { s.cyt with position := 0, lastSnap := c, begun := false, lockCount := lockAfter s c }
    tli := { s.tli with
      rx := if s.tli.rx.phase = .receiving then { s.tli.rx with boundary := true } else s.tli.rx } }

theorem lateRestart_eq (c : Nat) (s : State) : lateRestart c s =
    if s.mbc.station = .aligning ∧ lockAfter s c = 4 ∧ s.cyt.adopted = true then hailed (lateAt c s) else lateAt c s := by
  rw [lateRestart, markBoundary_eq, lockRule_eq, tryHail_eq]
  rfl

/-- Settles O28. -/
theorem fallsTaken : Obligations.FallsTaken := by
  refine ⟨fun s a b released coherent listening high => ?_, fun s a b released grouped high => ?_,
    fun s a b released following high early => ?_⟩
  · obtain ⟨current, pendingView, changes, backoff⟩ := coherent.outside (by rw [listening]; rfl)
    rw [exec_syncFall released (listening ▸ rfl) high, takeFall_first (by exact listening), firstFall, markBoundary_eq,
      enterAligning_eq]
    dsimp only
    rw [← current, ← pendingView, ← changes, ← backoff]
  · rw [exec_syncFall released (running_of_inGroup grouped) high]
    refine ⟨fun zero => ?_, fun later early => ?_⟩
    · rw [zero, takeFall_own (by exact grouped), ownFall, lockRule_other 0 (by exact not_aligning_of_inGroup grouped)]
      rfl
    · rw [takeFall_ignored (by exact grouped) later (by exact early)]
  · have row := exec_syncFall released (running_of_following following) high a b
    have untouched : Untouched s (settle (lateRestart s.cyt.position { s with sli.prevHigh := false })) :=
      { (inside_lateRestart s.cyt.position { s with sli.prevHigh := false }).untouched.settle with }
    rw [takeFall_late (by exact following) (by exact early)] at row
    rw [lateRestart_eq] at row untouched
    by_cases hails : s.mbc.station = .aligning ∧ lockAfter s s.cyt.position = 4 ∧ s.cyt.adopted = true
    · rw [if_pos (by exact hails)] at row untouched
      refine ⟨_, _, row, rfl, rfl, fun _ => ⟨rfl, ?_⟩, fun stays => absurd hails stays, rfl, rfl, rfl, rfl, untouched, rfl⟩
      simp [hailed, requested, Requests.empty, lateAt]
    · rw [if_neg (by exact hails)] at row untouched
      exact ⟨_, _, row, rfl, rfl, fun is => absurd is hails, fun _ => ⟨rfl, rfl⟩, rfl, rfl, rfl, rfl, untouched, rfl⟩

end

end Sys2Proof.Machine

/-! ## A boundary at every block, and the row WRAP (R3 to R6, R15, R79, R114, R118, R119, R138) -/

namespace Sys2Proof.Machine

section
variable {s t u : State} {v : View} {order : BoundaryOrder} {high : Bool}

/-! ### What every boundary counts (R26, R74, R79, R114, R138) -/

/-- The part once a boundary has aged the entries and examined the waiting demands. -/
def counted (s : State) : State := applyPublished (applyPeerDemands (agePeers (clearLatch (markBoundary s))))

/-- It is the part that the statements name, but for the counts that the Plan Unit has still to make. -/
theorem counted_eq (s : State) : counted s = { boundaryCounted s with
    plu := { (boundaryCounted s).plu with counting := s.plu.counting } } := by
  have latch : ∀ q, clearLatch q =
      { q with los := { q.los with latch := if q.los.latch = .waiting then .clear else q.los.latch } } := fun q => by
    unfold clearLatch
    split <;> rfl
  have demands : ∀ q, applyPeerDemands q = { q with peers := q.peers.map (fun p => { p with
      leg0 := if q.cyt.adopted then p.leg0.advance q.cyt.cycle else p.leg0
      leg1 := if q.cyt.adopted then p.leg1.advance q.cyt.cycle else p.leg1 }) } := fun q => by
    unfold applyPeerDemands
    cases adopted : q.cyt.adopted <;> simp
  have published : ∀ q, applyPublished q = { q with plu := { q.plu with
      leg0 := if q.cyt.adopted then q.plu.leg0.advance q.cyt.cycle else q.plu.leg0
      leg1 := if q.cyt.adopted then q.plu.leg1.advance q.cyt.cycle else q.plu.leg1 } } := fun q => by
    unfold applyPublished
    cases adopted : q.cyt.adopted <;> simp
  rw [counted, latch, markBoundary_eq, published, demands]
  simp [boundaryCounted, agePeers]

/-- The tests, the plan and the marker that end a boundary's work (R15, R75, R77, R127). -/
def ended (s : State) : State := finishBoundary (purgeTest (lossTest s))

theorem readoutAt_none (none_ : order.readout = none) (k : Nat) (s : State) : readoutAt order k s = s := by
  simp [readoutAt, none_]

/-- A boundary without a readout, where the Plan Unit counts first and where it counts last (R119). -/
theorem boundary_eq (none_ : order.readout = none) (high : Bool) (s : State) : boundary order high s =
    if order.leaseFirst then ended (controllerBoundary high (planCount (counted s)))
    else planCount (ended (controllerBoundary high (counted s))) := by
  unfold boundary
  simp only [readoutAt_none none_]
  cases order.leaseFirst <;> rfl

theorem planCount_of_made (made : s.plu.counting = false) : planCount s = s := by
  rw [planCount, if_neg (by simp [made]), ← made]

/-! ### The Plan Unit's counts (R115, R118, R119) -/

/-- The part `s` with what the counts of a boundary move, as `t` holds it: the lease, the CLAIM age, the requested demands,
the CLAIM request, the frame in flight and the event records. -/
def recount (s t : State) : State :=
  { s with
    plu := { s.plu with
      lease := t.plu.lease, age := t.plu.age, counting := t.plu.counting
      leg0 := { s.plu.leg0 with requested := t.plu.leg0.requested }
      leg1 := { s.plu.leg1 with requested := t.plu.leg1.requested } }
    tli := { s.tli with requests := { s.tli.requests with claim := t.tli.requests.claim }, flight := t.tli.flight }
    evq := { s.evq with records := t.evq.records } }

/-- From `s` to `t` nothing has moved but what the counts of a boundary move. -/
def Counting (s t : State) : Prop := t = recount s t

theorem Counting.eq (h : Counting s t) : t = recount s t := h

theorem Counting.refl (s : State) : Counting s s := rfl

theorem Counting.trans (h : Counting s t) (k : Counting t u) : Counting s u :=
  calc u = recount t u := k
    _ = recount (recount s t) u := congrArg (recount · u) h.eq

theorem Counting.ite {a b : State} {q : Prop} [Decidable q] (ha : Counting s a) (hb : Counting s b) :
    Counting s (if q then a else b) := by
  split
  · exact ha
  · exact hb

theorem counting_claim (s : State) : Counting s (postRequest s .claim) := .ite rfl (.refl s)

theorem counting_expireLease (s : State) : Counting s (expireLease s) :=
  Counting.trans (t := post { s with plu := { s.plu with
      lease := 0, leg0 := { s.plu.leg0 with requested := 0 }, leg1 := { s.plu.leg1 with requested := 0 } } }
    .leaseExpired none (some { code := 0, value := s.cfg.lease })) rfl (.ite (counting_claim _) (.refl _))

theorem counting_planCount (s : State) : Counting s (planCount s) := by
  have lease : ∀ q, Counting q (leaseStep q) := fun q => .ite (counting_expireLease q) rfl
  have age : ∀ q, Counting q (ageStep q) := fun q => .ite
    (Counting.trans (t := { q with plu.age := min (q.plu.age + 1) 255 }) rfl (counting_claim _)) rfl
  exact .ite (Counting.trans (t := { s with plu.counting := false }) rfl ((lease _).trans (age _))) rfl

/-! ### The timer, the plan and the marker after a boundary (R4, R5, R15, R127) -/

theorem clocked_ended (s : State) : Clocked s (ended s) :=
  (clocked_lossTest s).trans ((clocked_purgeTest _).trans (clocked_finishBoundary _))

/-- The timer and the latch through a boundary: the latch as it is counted, the rest as the Membership Controller leaves
it. -/
theorem clocked_boundary (none_ : order.readout = none) (high : Bool) (s : State) :
    Clocked (counted s) (boundary order high s) := by
  rw [boundary_eq none_]
  have acts := fun q => (clocked_controllerBoundary high q).trans (clocked_ended _)
  exact .ite (fun _ => (clocked_planCount _).trans (acts _)) fun _ => (acts _).trans (clocked_planCount _)

/-- The end of a boundary moves the marker, the plan records and the suppression flags alone. -/
theorem finishBoundary_frame (s : State) : finishBoundary s = { s with
    sli := (finishBoundary s).sli
    plu := { s.plu with
      complete := (finishBoundary s).plu.complete, plan := (finishBoundary s).plu.plan
      prev0 := (finishBoundary s).plu.prev0, prev1 := (finishBoundary s).plu.prev1 }
    los := { s.los with supp0 := (finishBoundary s).los.supp0, supp1 := (finishBoundary s).los.supp1 } } := by
  cases grouped : s.mbc.station.inGroup
  · rw [finishBoundary_outside grouped]
  · cases current : s.mbc.current with
    | some v =>
      rw [finishBoundary_grouped grouped current]
      rfl
    | none =>
      have made : makePlan { s with plu.complete := tableComplete s } = { s with plu.complete := tableComplete s } := by
        simp only [makePlan, current]
      rw [finishBoundary, planBoundary, if_pos grouped, made, startMarker, if_pos (by exact grouped)]

theorem finishBoundary_mbc (s : State) : (finishBoundary s).mbc = s.mbc := (congrArg State.mbc (finishBoundary_frame s) :)

theorem ended_cyt (s : State) : (ended s).cyt = s.cyt := by
  have purged : (purgeTest (lossTest s)).cyt = (lossTest s).cyt := by
    unfold purgeTest
    split <;> rfl
  rw [ended, finishBoundary_frame, purged]
  exact (congrArg State.cyt (losing_lossTest s) :)

theorem ended_counting (s : State) : (ended s).plu.counting = s.plu.counting := by
  have purged : (purgeTest (lossTest s)).plu = (lossTest s).plu := by
    unfold purgeTest
    split <;> rfl
  rw [ended, finishBoundary_frame, purged]
  exact (congrArg (·.plu.counting) (losing_lossTest s) :)

theorem ended_station (s : State) : (ended s).mbc.station = s.mbc.station := by
  have purged : (purgeTest (lossTest s)).mbc = (lossTest s).mbc := by
    unfold purgeTest
    split <;> rfl
  rw [ended, finishBoundary_mbc, purged]
  exact (congrArg (·.mbc.station) (losing_lossTest s) :)

/-- What a boundary leaves in MEMBER and LEAVING: the marker driven and the plan of the cycle on the current view. -/
structure DrivesAndPlans (s : State) : Prop where
  active : s.sli.markerActive = true
  left : s.sli.markerLeft = 8
  plan : ∀ v, s.mbc.current = some v → ∃ p, s.plu.plan = some p ∧ p.cycle = s.cyt.cycle ∧ p.epoch = v.epoch

theorem drivesAndPlans_finishBoundary (grouped : (finishBoundary s).mbc.station.inGroup = true)
    (current : (finishBoundary s).mbc.current = some v) : DrivesAndPlans (finishBoundary s) := by
  rw [finishBoundary_mbc] at grouped current
  rw [finishBoundary_grouped grouped current]
  refine ⟨rfl, rfl, fun w held => ?_⟩
  obtain rfl : v = w := Option.some.inj (current.symm.trans held)
  exact ⟨_, rfl, rfl, rfl⟩

theorem DrivesAndPlans.counted (h : DrivesAndPlans s) (k : Counting s t) : DrivesAndPlans t := by
  rw [k.eq]
  exact ⟨h.active, h.left, h.plan⟩

theorem drivesAndPlans_boundary (none_ : order.readout = none) (grouped : (boundary order high s).mbc.station.inGroup = true)
    (current : (boundary order high s).mbc.current = some v) : DrivesAndPlans (boundary order high s) := by
  rw [boundary_eq none_] at grouped current ⊢
  split at grouped
  next first =>
    rw [if_pos first] at current ⊢
    exact drivesAndPlans_finishBoundary grouped current
  next last =>
    rw [if_neg last] at current ⊢
    have counts := counting_planCount (ended (controllerBoundary high (Machine.counted s)))
    rw [counts.eq] at grouped current
    exact (drivesAndPlans_finishBoundary grouped current).counted counts

/-! ### LISTENING at a boundary (R49, R50) -/

theorem purgeTest_still (heard : ∀ p ∈ s.peers, p.silence < 64) : purgeTest s = s := by
  have none_ : s.peers.filter (fun p => !isPurgeable p) = s.peers := List.filter_eq_self.mpr fun p hp => by
    have := heard p hp
    simp [isPurgeable]
    omega
  rw [purgeTest, purgeHeard, none_]
  split <;> rfl

/-- Outside MEMBER and LEAVING a boundary of a table that no entry leaves ends with nothing more. -/
theorem ended_outside (outside : s.mbc.station.inGroup = false) (heard : ∀ p ∈ s.peers, p.silence < 64) :
    ended s = s := by rw [ended, lossTest_outside outside, purgeTest_still heard, finishBoundary_outside outside]

theorem controllerBoundary_listening (listening : s.mbc.station = .listening)
    (early : s.mbc.listenCount + 1 < 64 + s.cfg.id) (high : Bool) :
    controllerBoundary high s = { s with mbc := { s.mbc with listenCount := s.mbc.listenCount + 1 } } := by
  have few : min (s.mbc.listenCount + 1) (listenWindow s) = s.mbc.listenCount + 1 := Nat.min_eq_left early.le
  have waits : foundDue { s with mbc.listenCount := s.mbc.listenCount + 1 } high = false := by
    have : ¬ listenWindow { s with mbc.listenCount := s.mbc.listenCount + 1 } ≤ s.mbc.listenCount + 1 := early.not_ge
    simp [foundDue, this]
  rw [controllerBoundary, listening]
  dsimp only
  rw [listenBoundary, few, whenDue, if_neg (by rw [waits]; decide)]

theorem acts_listening (listening : s.mbc.station = .listening) (early : s.mbc.listenCount + 1 < 64 + s.cfg.id)
    (heard : ∀ p ∈ s.peers, p.silence < 64) (high : Bool) : ended (controllerBoundary high s) =
      { s with mbc := { s.mbc with listenCount := s.mbc.listenCount + 1 } } := by
  rw [controllerBoundary_listening listening early]
  exact ended_outside (by exact listening ▸ rfl) heard

theorem counted_of_made (made : s.plu.counting = false) : counted s = boundaryCounted s := by
  rw [counted_eq, made]
  rfl

/-- A boundary of a part that has no counts to make, before it and after it. -/
theorem boundary_uncounted {y : State} (none_ : order.readout = none) (made : s.plu.counting = false)
    (acts : ended (controllerBoundary high (boundaryCounted s)) = y) (after : y.plu.counting = false) :
    boundary order high s = y := by
  have before : planCount (boundaryCounted s) = boundaryCounted s := planCount_of_made rfl
  rw [boundary_eq none_, counted_of_made made, before, acts, planCount_of_made after]
  split <;> rfl

/-- With the adopted flag clear no waiting demand is examined. -/
theorem boundaryCounted_unadopted (adopted : s.cyt.adopted = false) (heard : ∀ p ∈ s.peers, p.silence < 255) :
    boundaryCounted s = { s with
      tli := { s.tli with
        rx := if s.tli.rx.phase = .receiving then { s.tli.rx with boundary := true } else s.tli.rx }
      peers := s.peers.map (fun p => { p with silence := p.silence + 1 })
      plu := { s.plu with counting := false }
      los := { s.los with latch := if s.los.latch = .waiting then .clear else s.los.latch } } := by
  have aged : s.peers.map (fun p => { p with silence := min (p.silence + 1) 255, leg0 := p.leg0, leg1 := p.leg1 }) =
      s.peers.map (fun p => { p with silence := p.silence + 1 }) := List.map_congr_left fun p hp => by
    rw [Nat.min_eq_left (heard p hp)]
  simp only [boundaryCounted, adopted, Bool.false_eq_true, if_false, aged]

/-- What a boundary counts makes no entry more silent than one boundary does. -/
theorem boundaryCounted_silence {n : Nat} (heard : ∀ p ∈ s.peers, p.silence < n) :
    ∀ p ∈ (boundaryCounted s).peers, p.silence < n + 1 := by
  intro p hp
  obtain ⟨q, hq, rfl⟩ := List.mem_map.mp hp
  have := heard q hq
  simp only
  omega

/-! ### The row WRAP -/

theorem wrapDue_of (runs : s.mbc.station.running = true) (last : s.cfg.fp.p ≤ s.cyt.position + 1) : wrapDue s = true := by
  have last : s.P ≤ s.cyt.position + 1 := last
  simp [wrapDue, runs, last]

theorem readout_status (order_ : order.readout = some { after := 0, byte := 0x10#8 }) (awaits : AwaitsCode s)
    (selected : s.selLow = true) : readoutAt order 0 s = answered s 0 (statusRecord s) := by
  obtain ⟨released, phase⟩ := awaits
  have done : completesReadout s 0x10#8 = true := by simp [completesReadout, released, selected, phase]
  simp only [readoutAt, order_, done, and_self, if_true, byteComplete, phase]
  rfl

theorem readoutAt_later (order_ : order.readout = some { after := 0, byte := 0x10#8 }) (k : Nat) (s : State) :
    readoutAt order (k + 1) s = s := by simp [readoutAt, order_]

/-- A readout placed before the acts leaves them undisturbed, so that the port holds its answer at the end. -/
theorem boundary_port (order_ : order.readout = some { after := 0, byte := 0x10#8 }) (high : Bool) (s : State) :
    (boundary order high s).hpt = (readoutAt order 0 s).hpt := by
  have later := fun k s => readoutAt_later order_ k s
  unfold boundary
  simp only [later 0, later 1, later 2, later 3, later 4]
  have before : Inside True (readoutAt order 0 s) (counted (readoutAt order 0 s)) :=
    (inside_markBoundary _).trans ((inside_clearLatch _).trans ((inside_agePeers _).trans
      ((inside_applyPeerDemands _).trans (inside_applyPublished _))))
  have acts : ∀ q, Inside True q (finishBoundary (purgeTest (lossTest (controllerBoundary high q)))) := fun q =>
    (inside_controllerBoundary high q).trans ((inside_lossTest _).trans ((inside_purgeTest _).trans
      (inside_finishBoundary _)))
  refine (Inside.hpt (p := True) ?_ trivial)
  exact .ite (before.trans ((Inside.ite (inside_planCount _) (.refl _)).trans (acts _)))
    (before.trans ((Inside.ite (inside_planCount _) (.refl _)).trans ((acts _).trans (inside_planCount _))))

/-- Settles O27. -/
theorem wrapTaken : Obligations.WrapTaken := by
  refine ⟨fun s order order_ runs last awaits selected => ?_, fun s order none_ runs coherent last => ?_⟩
  · have row := exec_due (c := .wrap order) rfl runs.1 (wrapDue_of runs.2 last)
    have port := boundary_port order_ s.sli.prevHigh (nextCycle s)
    rw [readout_status (s := nextCycle s) order_ (by exact awaits) selected] at port
    exact ⟨_, row, (congrArg HostPort.phase port :), (congrArg HostPort.response port :)⟩
  · have row := exec_due (c := .wrap order) rfl runs.1 (wrapDue_of runs.2 last)
    have clock := clocked_boundary none_ s.sli.prevHigh (nextCycle s)
    have sound := sound_wrap coherent.sound runs.2 order s.sli.prevHigh
    have untouched := ((inside_wrap order s.sli.prevHigh s).weaken fun _ => none_).untouched.settle
    rw [counted_eq] at clock
    refine ⟨_, row, fun runs_ => ?_, fun rests => ?_, clock.latch, fun grouped => ?_, untouched, clock.lastSnap, clock.slips,
      fun listening early adopted heard => ?_⟩
    · obtain ⟨position, cycle, -⟩ | ⟨is, -⟩ := clock.place
      · exact ⟨position, cycle⟩
      · exact absurd is (not_detached_of_running runs_)
    · obtain ⟨-, -, runs_, -⟩ | gone := clock.place
      · exact absurd (runs_ runs.2) (by exact rests ▸ Bool.false_ne_true)
      · exact gone
    · obtain ⟨v, current⟩ := Option.isSome_iff_exists.mp (sound.current.trans grouped)
      have plans := drivesAndPlans_boundary none_ grouped current
      obtain ⟨p, plan, cycle, epoch⟩ := plans.plan v current
      refine ⟨plans.active, plans.left, v, p, current, plan, cycle.trans ?_, epoch⟩
      obtain ⟨-, is, -⟩ | ⟨is, -⟩ := clock.place
      · exact is
      · exact absurd (running_of_inGroup grouped) (by exact is ▸ Bool.false_ne_true)
    · have made : (nextCycle s).plu.counting = false := by simp [listening]
      have acts := acts_listening (s := boundaryCounted (nextCycle s)) (by exact listening) (by exact early)
        (boundaryCounted_silence (s := nextCycle s) heard) s.sli.prevHigh
      rw [wrap, boundary_uncounted none_ made acts rfl,
        boundaryCounted_unadopted (s := nextCycle s) (by exact adopted) fun p hp => (heard p hp).trans (by decide)]
      rfl

end

end Sys2Proof.Machine

/-! ## A snap, and the commands that begin a cycle (R11 to R14, R52) -/

namespace Sys2Proof.Machine

section
variable {s t u q y : State} {v : View} {order : BoundaryOrder} {c : Instr}

/-! ### What the Cycle Timer does at a snap -/

/-- The part with the counts of a boundary to make where the station is MEMBER (log 5). -/
def begun (u : State) : State := { u with plu := { u.plu with counting := u.mbc.station == .member } }

theorem withLock_same (u : State) : withLock u u.cyt.lockCount = u := rfl

theorem withLock_withLock (u : State) (m n : Nat) : withLock (withLock u m) n = withLock u n := rfl

/-- The lock rule after a boundary, where the state it leaves the station in keeps one (R12). -/
def relock (amount : Nat) (v : State) : State := if keepsLock v.mbc.station then lockRule amount v else v

/-- The Cycle Timer's own step at a snap, the lock apart (R11, R13, R14). -/
theorem slipRule_snapped (runs : s.mbc.station.running = true) (n : Nat) :
    withLock (slipRule (s.P - s.cyt.position) { nextCycle { s with sli.prevHigh := false } with
      cyt.lastSnap := s.P - s.cyt.position }) n = begun (withLock (snapped s) n) := by
  by_cases slips : s.mbc.station.inGroup = true ∧ s.cfg.fp.p / 64 < s.cfg.fp.p - s.cyt.position
  · have test : (s.mbc.station.inGroup && decide (s.cfg.fp.p / 64 < s.cfg.fp.p - s.cyt.position)) = true := by
      simpa using slips
    rw [slipRule, if_pos (by exact test), post_eq_appended (by exact runs)]
    simp only [snapped, if_pos slips]
    rfl
  · have test : ¬ (s.mbc.station.inGroup && decide (s.cfg.fp.p / 64 < s.cfg.fp.p - s.cyt.position)) = true := by
      simpa using slips
    rw [slipRule, if_neg (by exact test)]
    simp only [snapped, if_neg slips]
    rfl

theorem snapped_frame (s : State) : snapped s = { s with
    cyt := (snapped s).cyt, sli := (snapped s).sli, evq := { s.evq with records := (snapped s).evq.records } } := by
  simp only [snapped]
  split <;> rfl

theorem snapped_cfg (s : State) : (snapped s).cfg = s.cfg := (congrArg State.cfg (snapped_frame s) :)

theorem snapped_station (s : State) : (snapped s).mbc.station = s.mbc.station :=
  (congrArg (·.mbc.station) (snapped_frame s) :)

theorem lockAfter_congr (cfg : t.cfg = s.cfg) (lock : t.cyt.lockCount = s.cyt.lockCount) (amount : Nat) :
    lockAfter t amount = lockAfter s amount := by rw [lockAfter, lockAfter, cfg, lock]

theorem snapped_lockCount (s : State) : (snapped s).cyt.lockCount = lockAfter s (s.cfg.fp.p - s.cyt.position) := by
  simp only [snapped]
  split <;> rfl

theorem slipRule_lockCount (amount : Nat) (s : State) : (slipRule amount s).cyt.lockCount = s.cyt.lockCount := by
  unfold slipRule
  split <;> rfl

theorem slipRule_lockAfter (amount : Nat) (s : State) : lockAfter (slipRule amount s) amount = lockAfter s amount := by
  rw [lockAfter, slipRule_lockCount, (inside_slipRule (p := True) amount s).cfg]
  rfl

theorem slipRule_begun (runs : s.mbc.station.running = true) :
    slipRule (s.P - s.cyt.position) { nextCycle { s with sli.prevHigh := false } with
      cyt.lastSnap := s.P - s.cyt.position } = begun (withLock (snapped s) s.cyt.lockCount) := by
  rw [← slipRule_snapped runs]
  exact congrArg (withLock _) (slipRule_lockCount ..)

/-- A fall of a running part outside LISTENING, captured at half the cycle or later (R11, R13). -/
structure Snaps (s : State) : Prop where
  runs : Runs s
  other : s.mbc.station ≠ .listening
  high : s.sli.prevHigh = true
  later : 0 < s.cyt.position
  late : s.cfg.fp.p / 2 ≤ s.cyt.position

theorem Snaps.row (h : Snaps s) (lockFirst : Bool) (order : BoundaryOrder) : exec (.syncFall lockFirst order) s =
    .next (settle (snap lockFirst order s.cyt.position { s with sli.prevHigh := false })) := by
  rw [exec_syncFall h.runs.1 h.runs.2 h.high, takeFall_snap (by exact h.runs.2) (by exact h.other) h.later (by exact h.late)]

/-- With the lock taken first it may take the station to HAILING before the boundary (R52, log 16). -/
theorem Snaps.lockFirst (h : Snaps s) (order : BoundaryOrder) : exec (.syncFall true order) s =
    .next (settle (boundary order false (tryHail (begun (snapped s))))) := by
  have slipped := slipRule_snapped h.runs.2 (snapped s).cyt.lockCount
  rw [withLock_same] at slipped
  rw [h.row, snap]
  dsimp only
  rw [if_pos rfl, lockRule_eq]
  refine congrArg (fun q => Host.Outcome.next (settle (boundary order false (tryHail q)))) (Eq.trans ?_ slipped)
  exact congrArg (withLock _) ((slipRule_lockAfter ..).trans (snapped_lockCount s).symm)

theorem Snaps.lockLast (h : Snaps s) (order : BoundaryOrder) : exec (.syncFall false order) s =
    .next (settle (relock (s.cfg.fp.p - s.cyt.position)
      (boundary order false (begun (withLock (snapped s) s.cyt.lockCount))))) := by
  rw [h.row, snap, ← slipRule_begun h.runs.2]
  rfl

/-! ### The timer through a snap -/

theorem clocked_withLock (s : State) (n : Nat) : Clocked s (withLock s n) :=
  ⟨rfl, rfl, rfl, .inl ⟨rfl, rfl, id, id⟩, .inl ⟨rfl, rfl⟩, id⟩

theorem clocked_tryHail (s : State) : Clocked s (tryHail s) := by
  rw [tryHail_eq]
  exact .ite (fun hails => .running rfl rfl rfl rfl rfl (by simp [hails.1]) rfl ⟨rfl, rfl⟩ fun drives active => by
    have grouped := drives active
    rw [hails.1] at grouped
    cases grouped) fun _ => .refl s

theorem clocked_relock (amount : Nat) (s : State) : Clocked s (relock amount s) :=
  .ite (fun _ => (clocked_withLock s _).trans (clocked_tryHail _)) fun _ => .refl s

theorem inside_relock {p : Prop} (amount : Nat) (s : State) : Inside p s (relock amount s) :=
  .ite (inside_lockRule amount s) (.refl s)

theorem tryHail_cyt (s : State) : (tryHail s).cyt = s.cyt := by
  rw [tryHail_eq]
  split <;> rfl

theorem tryHail_records (s : State) : (tryHail s).evq.records = s.evq.records := by
  rw [tryHail_eq]
  split <;> rfl

theorem counted_cyt (s : State) : (counted s).cyt = s.cyt := by
  rw [counted_eq]
  rfl

/-- A MEMBER that a boundary leaves MEMBER keeps its timer there. -/
theorem controllerBoundary_cyt (member : s.mbc.station = .member) {high : Bool}
    (still : (controllerBoundary high s).mbc.station = .member) : (controllerBoundary high s).cyt = s.cyt := by
  rw [controllerBoundary, member] at still ⊢
  dsimp only at still ⊢
  rw [memberBoundary] at still ⊢
  have backoff : ∀ q, q.mbc.station = .member → (whenDue backoffExpiryDue backoffExpiry q).cyt = q.cyt ∧
      (whenDue backoffExpiryDue backoffExpiry q).mbc.station = .member := fun q is => by
    unfold whenDue
    split
    · have moved := confined_backoffExpiry q
      exact ⟨moved.cyt, moved.station.trans is⟩
    · exact ⟨rfl, is⟩
  obtain ⟨cyt, is⟩ := backoff { s with mbc.backoff := s.mbc.backoff.map (· - 1) } member
  generalize whenDue backoffExpiryDue backoffExpiry _ = q at cyt is still ⊢
  refine Eq.trans ?_ cyt
  rw [whenDue] at still ⊢
  split
  next due =>
    rw [if_pos due] at still
    cases held : q.mbc.pending with
    | none => simp [switchView, held]
    | some p =>
      cases listed : lists p.view.members q.cfg.id
      · rw [switchView_excluded is held listed] at still
        cases still
      · rw [switchView_member is held listed]
        split <;> rfl
  · rfl

theorem boundary_lockCount (none_ : order.readout = none) {high : Bool} (member : s.mbc.station = .member)
    (still : (boundary order high s).mbc.station = .member) :
    (boundary order high s).cyt.lockCount = s.cyt.lockCount := by
  have acts : ∀ q, q.mbc.station = .member → q.cyt = s.cyt →
      (ended (controllerBoundary high q)).mbc.station = .member →
      (ended (controllerBoundary high q)).cyt = s.cyt := fun q is same after => by
    rw [ended_station] at after
    rw [ended_cyt, controllerBoundary_cyt is after, same]
  have is : (counted s).mbc.station = .member := by rw [counted_eq]; exact member
  have counts := fun q => counting_planCount q
  rw [boundary_eq none_] at still ⊢
  split at still
  next first =>
    rw [if_pos first]
    have before := counts (counted s)
    refine congrArg CycleTimer.lockCount (acts _ ?_ ?_ still)
    · rw [before.eq]
      exact is
    · rw [before.eq]
      exact counted_cyt s
  next last =>
    rw [if_neg last]
    have after := counts (ended (controllerBoundary high (counted s)))
    rw [after.eq] at still ⊢
    exact congrArg CycleTimer.lockCount (acts _ is (counted_cyt s) still)

/-- A MEMBER after the lock rule of a snap was MEMBER before it, and its lock count has moved. -/
theorem relock_member {amount : Nat} (still : (relock amount s).mbc.station = .member) :
    s.mbc.station = .member ∧ relock amount s = withLock s (lockAfter s amount) := by
  by_cases keeps : keepsLock s.mbc.station = true
  · rw [relock, if_pos keeps] at still ⊢
    have other : s.mbc.station ≠ .aligning := fun aligning => by
      rw [lockRule_eq, tryHail_eq] at still
      split at still
      · cases still
      · rw [show s.mbc.station = .member from still] at aligning
        cases aligning
    rw [lockRule_other amount other] at still ⊢
    exact ⟨still, rfl⟩
  · rw [relock, if_neg keeps] at still
    exact absurd (still ▸ rfl) keeps

/-- What a boundary leaves of the timer and the queue where the Cycle Timer has taken a snap (R11, R13, R14). -/
structure SnapKept (s t : State) : Prop where
  position : t.cyt.position = 0
  cycle : t.mbc.station.running = true → t.cyt.cycle = s.cyt.cycle + 1
  lastSnap : t.cyt.lastSnap = s.cfg.fp.p - s.cyt.position
  slips : t.cyt.slips = (snapped s).cyt.slips
  records : Arrivals (snapped s).evq.records t.evq.records

theorem snapped_cyt (s : State) : (snapped s).cyt = { s.cyt with
    position := 0, cycle := s.cyt.cycle + 1, lastSnap := s.cfg.fp.p - s.cyt.position, begun := true
    lockCount := lockAfter s (s.cfg.fp.p - s.cyt.position), slips := (snapped s).cyt.slips } := by
  simp only [snapped]
  split <;> rfl

theorem snapKept {m : State} (clock : Clocked (counted m) t) (n : Nat)
    (cyt : m.cyt = { (snapped s).cyt with lockCount := n }) (records : Arrivals (snapped s).evq.records t.evq.records) :
    SnapKept s t := by
  have start : (counted m).cyt = _ := (counted_cyt m).trans cyt
  obtain ⟨lastSnap, slips, -, place⟩ := clock
  rw [start, snapped_cyt] at lastSnap
  rw [start] at slips
  rw [start, snapped_cyt] at place
  obtain ⟨position, cycle, -⟩ | ⟨is, position, -⟩ := place
  · exact ⟨position, fun _ => cycle, lastSnap, slips, records⟩
  · exact ⟨position, fun runs => absurd is (not_detached_of_running runs), lastSnap, slips, records⟩

/-- The first clause of O29, in each order of the lock and the boundary. -/
theorem Snaps.kept (h : Snaps s) (none_ : order.readout = none) (lockFirst : Bool) :
    ∃ t, exec (.syncFall lockFirst order) s = .next t ∧ SnapKept s t ∧ (s.mbc.station = .member → t.mbc.station = .member →
      t.cyt.lockCount = lockAfter s (s.cfg.fp.p - s.cyt.position)) := by
  cases lockFirst
  · have clock := (clocked_boundary none_ false (begun (withLock (snapped s) s.cyt.lockCount))).trans
      (clocked_relock (s.cfg.fp.p - s.cyt.position) _)
    have arrive_ := ((inside_boundary order false (begun (withLock (snapped s) s.cyt.lockCount))).trans
      (inside_relock (s.cfg.fp.p - s.cyt.position) _)).records
    refine ⟨_, h.lockLast order, snapKept (t := settle _) { clock with } s.cyt.lockCount rfl arrive_, fun member still => ?_⟩
    obtain ⟨is, locked⟩ := relock_member still
    have same := boundary_lockCount none_ (by exact (snapped_station s).trans member) is
    have cfg := (inside_boundary order false (begun (withLock (snapped s) s.cyt.lockCount))).cfg.trans (snapped_cfg s)
    rw [locked]
    exact lockAfter_congr cfg same _
  · have clock := clocked_boundary none_ false (tryHail (begun (snapped s)))
    have arrive_ := (inside_boundary order false (tryHail (begun (snapped s)))).records
    rw [tryHail_records] at arrive_
    refine ⟨_, h.lockFirst order, snapKept (t := settle _) { clock with } _ (tryHail_cyt _) arrive_, fun member still => ?_⟩
    have is : (begun (snapped s)).mbc.station = .member := (snapped_station s).trans member
    have stays : tryHail (begun (snapped s)) = begun (snapped s) := tryHail_stays fun hails => by
      rw [is] at hails
      cases hails.1
    rw [stays] at still ⊢
    exact (boundary_lockCount none_ is still).trans (snapped_lockCount s)

/-- The first clause of O29, from what is kept. -/
theorem Snaps.taken (h : Snaps s) (none_ : order.readout = none) (lockFirst : Bool) :
    ∃ t, exec (.syncFall lockFirst order) s = .next t ∧
      t.cyt.position = 0 ∧
      (t.mbc.station.running = true → t.cyt.cycle = s.cyt.cycle + 1) ∧
      t.cyt.lastSnap = s.cfg.fp.p - s.cyt.position ∧
      t.cyt.slips = (if s.mbc.station.inGroup = true ∧ s.cfg.fp.p / 64 < s.cfg.fp.p - s.cyt.position
        then s.cyt.slips + 1 else s.cyt.slips) ∧
      (s.mbc.station.inGroup = true → s.cfg.fp.p / 64 < s.cfg.fp.p - s.cyt.position →
        ∃ later : List Event, t.evq.records = later.foldl arrive (arrive s.evq.records
          { kind := .slip, cycle := some (s.cyt.cycle + 1), station := none,
            detail := some { code := 0, value := s.cfg.fp.p - s.cyt.position } })) ∧
      (s.mbc.station = .member → t.mbc.station = .member →
        t.cyt.lockCount = (if s.cfg.fp.p - s.cyt.position ≤ s.cfg.fp.p / 64 then min (s.cyt.lockCount + 1) 4 else 0)) ∧
      Untouched s t := by
  obtain ⟨t, row, kept, lock⟩ := h.kept none_ lockFirst
  have untouched : Untouched s t := by
    have snap_ := (inside_snap lockFirst order s.cyt.position { s with sli.prevHigh := false }).weaken (q := True) fun _ => none_
    obtain rfl : t = _ := Host.Outcome.next.inj (row.symm.trans (h.row lockFirst order))
    exact { snap_.untouched.settle with }
  have slips : (snapped s).cyt.slips = if s.mbc.station.inGroup = true ∧ s.cfg.fp.p / 64 < s.cfg.fp.p - s.cyt.position
      then s.cyt.slips + 1 else s.cyt.slips := by
    simp only [snapped]
    split <;> rfl
  refine ⟨t, row, kept.position, kept.cycle, kept.lastSnap, kept.slips.trans slips, fun grouped long => ?_, lock, untouched⟩
  obtain ⟨later, -, records⟩ := kept.records
  refine ⟨later, records.trans (congrArg (List.foldl arrive · later) ?_)⟩
  simp only [snapped, if_pos (And.intro grouped long)]
  rfl

end

end Sys2Proof.Machine

/-! ## The commands that begin a cycle, and the Membership Controller at a boundary (R11, R43, R53 to R60, R91, R99, R108) -/

namespace Sys2Proof.Machine

section
variable {s t u q y : State} {v : View} {order : BoundaryOrder} {c : Instr}

/-! ### The part once the cycle has begun -/

/-- The Cycle Timer's own step moves its records, the sample held and, at a slip, the queue alone. -/
theorem BeginsCycle.frame (begins : BeginsCycle order s c u) : u = { s with
    cyt := u.cyt, sli := u.sli, evq := { s.evq with records := u.evq.records } } := by
  obtain ⟨-, -, ⟨-, -, rfl⟩ | ⟨-, -, -, -, -, -, rfl⟩⟩ := begins
  · rfl
  · exact snapped_frame s

theorem BeginsCycle.cycle (begins : BeginsCycle order s c u) : u.cyt.cycle = s.cyt.cycle + 1 := by
  obtain ⟨-, -, ⟨-, -, rfl⟩ | ⟨-, -, -, -, -, -, rfl⟩⟩ := begins
  · rfl
  · rw [snapped_cyt]

theorem BeginsCycle.begun (begins : BeginsCycle order s c u) : u.cyt.begun = true := by
  obtain ⟨-, -, ⟨-, -, rfl⟩ | ⟨-, -, -, -, -, -, rfl⟩⟩ := begins
  · rfl
  · rw [snapped_cyt]

theorem BeginsCycle.adopted (begins : BeginsCycle order s c u) : u.cyt.adopted = s.cyt.adopted := by
  obtain ⟨-, -, ⟨-, -, rfl⟩ | ⟨-, -, -, -, -, -, rfl⟩⟩ := begins
  · rfl
  · rw [snapped_cyt]

theorem BeginsCycle.mbc (begins : BeginsCycle order s c u) : u.mbc = s.mbc := (congrArg State.mbc begins.frame :)
theorem BeginsCycle.plu (begins : BeginsCycle order s c u) : u.plu = s.plu := (congrArg State.plu begins.frame :)
theorem BeginsCycle.cfg (begins : BeginsCycle order s c u) : u.cfg = s.cfg := (congrArg State.cfg begins.frame :)
theorem BeginsCycle.tli (begins : BeginsCycle order s c u) : u.tli = s.tli := (congrArg State.tli begins.frame :)
theorem BeginsCycle.peers (begins : BeginsCycle order s c u) : u.peers = s.peers := (congrArg State.peers begins.frame :)
theorem BeginsCycle.released (begins : BeginsCycle order s c u) : u.resetAsserted = false :=
  ((congrArg State.resetAsserted begins.frame :) : _ = s.resetAsserted).trans begins.2.1.1

theorem BeginsCycle.wrapped (begins : BeginsCycle order s c u) (wraps : c = .wrap order) :
    exec c s = .next (settle (boundary order s.sli.prevHigh (Machine.begun u))) := by
  obtain ⟨-, runs, ⟨rfl, last, rfl⟩ | ⟨⟨lockFirst, is⟩, -⟩⟩ := begins
  · exact exec_due (c := .wrap order) rfl runs.1 (wrapDue_of runs.2 last)
  · rw [wraps] at is
    cases is

/-- A command that begins a cycle is a wrap, or a snap that takes no station to HAILING with the lock first or last. -/
theorem BeginsCycle.cases (begins : BeginsCycle order s c u) :
    (∃ high, exec c s = .next (settle (boundary order high (Machine.begun u)))) ∨
    (lockAfter s (s.cfg.fp.p - s.cyt.position) = u.cyt.lockCount ∧
      (s.mbc.station = .aligning → s.cyt.adopted = false ∨ u.cyt.lockCount < 4) ∧
      exec c s = .next (settle (relock (s.cfg.fp.p - s.cyt.position)
        (boundary order false (Machine.begun (withLock u s.cyt.lockCount)))))) := by
  have whole := begins
  obtain ⟨-, runs, ⟨wraps, -⟩ | ⟨⟨lockFirst, rfl⟩, other, high, later, late, stays, rfl⟩⟩ := begins
  · exact .inl ⟨_, whole.wrapped wraps⟩
  · have snaps : Snaps s := ⟨runs, other, high, later, late⟩
    cases lockFirst
    · exact .inr ⟨(snapped_lockCount s).symm, stays, snaps.lockLast order⟩
    · refine .inl ⟨false, (snaps.lockFirst order).trans ?_⟩
      rw [tryHail_eq, if_neg]
      rintro ⟨aligning, lock, adopted⟩
      rcases stays ((snapped_station s).symm.trans aligning) with clear | little
      · rw [show s.cyt.adopted = true from whole.adopted.symm.trans adopted] at clear
        cases clear
      · rw [show (snapped s).cyt.lockCount = 4 from lock] at little
        omega

theorem tryHail_unadopted (unadopted : s.mbc.station = .aligning → s.cyt.adopted = false ∨ s.cyt.lockCount < 4) :
    tryHail s = s := by
  rw [tryHail_eq, if_neg]
  rintro ⟨aligning, lock, adopted⟩
  rcases unadopted aligning with clear | little
  · rw [adopted] at clear
    cases clear
  · omega

/-- Where the boundary keeps the lock it finds, and the station in a state with one. -/
theorem BeginsCycle.made (begins : BeginsCycle order s c u)
    (made : ∀ high n, boundary order high (Machine.begun (withLock u n)) = withLock y n)
    (lock : y.cyt.lockCount = u.cyt.lockCount) (cfg : y.cfg = s.cfg) (keeps : keepsLock y.mbc.station = true)
    (stays : y.mbc.station = .aligning → s.mbc.station = .aligning ∧ y.cyt.adopted = u.cyt.adopted) :
    exec c s = .next (settle y) := by
  obtain ⟨high, row⟩ | ⟨amount, calm, row⟩ := begins.cases
  · rw [row, ← withLock_same u, made, ← lock, withLock_same]
  · have after : lockAfter (withLock y s.cyt.lockCount) (s.cfg.fp.p - s.cyt.position) = y.cyt.lockCount :=
      (lockAfter_congr (t := withLock y s.cyt.lockCount) (s := s) cfg rfl _).trans (amount.trans lock.symm)
    rw [row, made, relock, if_pos (by exact keeps), lockRule_eq, after, withLock_withLock, withLock_same,
      tryHail_unadopted fun aligning => ?_]
    obtain ⟨was, adopted⟩ := stays aligning
    rw [adopted, begins.adopted, lock]
    exact calm was

/-- Where the boundary leaves the station in a state without a lock. -/
theorem BeginsCycle.cleared (begins : BeginsCycle order s c u)
    (made : ∀ high n, boundary order high (Machine.begun (withLock u n)) = y)
    (clears : keepsLock y.mbc.station = false) : exec c s = .next (settle y) := by
  obtain ⟨high, row⟩ | ⟨-, -, row⟩ := begins.cases
  · rw [row, ← withLock_same u, made]
  · rw [row, made, relock, if_neg (by simp [clears])]

/-- A MEMBER's boundary, whose lock count the command sets: that of `u` where the station stays MEMBER. -/
theorem BeginsCycle.ofMember (begins : BeginsCycle order s c u) (member : s.mbc.station = .member)
    (unadopted : ∀ high n, (boundary order high (Machine.begun (withLock u n))).mbc.station = .aligning →
      (boundary order high (Machine.begun (withLock u n))).cyt.adopted = false) :
    ∃ high n k, exec c s = .next (settle (withLock (boundary order high (Machine.begun (withLock u n))) k)) ∧
      ((boundary order high (Machine.begun (withLock u n))).mbc.station = .member → k = u.cyt.lockCount) := by
  have is : ∀ n, (Machine.begun (withLock u n)).mbc.station = .member := fun n =>
    (congrArg Membership.station begins.mbc :).trans member
  have lock := fun high n => boundary_lockCount (order := order) (high := high) begins.1 (is n)
  obtain ⟨high, row⟩ | ⟨amount, -, row⟩ := begins.cases
  · exact ⟨high, u.cyt.lockCount, (boundary order high (Machine.begun u)).cyt.lockCount, row, lock high u.cyt.lockCount⟩
  · have before := lock false s.cyt.lockCount
    have calm := unadopted false s.cyt.lockCount
    have cfg := (inside_boundary order false (Machine.begun (withLock u s.cyt.lockCount))).cfg.trans begins.cfg
    refine ⟨false, s.cyt.lockCount, ?_⟩
    generalize boundary order false (Machine.begun (withLock u s.cyt.lockCount)) = b at row before calm cfg ⊢
    have stays : ∀ k, tryHail (withLock b k) = withLock b k := fun k =>
      tryHail_unadopted (s := withLock b k) fun aligning => .inl (calm aligning)
    by_cases keeps : keepsLock b.mbc.station = true
    · rw [relock, if_pos keeps, lockRule_eq, stays] at row
      exact ⟨_, row, fun still => (lockAfter_congr cfg (before still) _).trans amount⟩
    · rw [relock, if_neg keeps] at row
      exact ⟨b.cyt.lockCount, row, fun still => absurd (by rw [still]; rfl) keeps⟩

/-! ### What is not due, and what is -/

theorem whenDue_of {due : State → Bool} (f : State → State) (is : due s = true) : whenDue due f s = f s := if_pos is

theorem whenDue_not {due : State → Bool} (f : State → State) (is : due s = false) : whenDue due f s = s :=
  if_neg (by simp [is])

theorem NoSwitchDue.observed_not (none_ : NoSwitchDue s.mbc s.cyt.cycle) : observedSwitchDue s = false := by
  cases held : s.mbc.observed.pending with
  | none => simp [observedSwitchDue, held]
  | some p =>
    obtain ⟨early, near⟩ := none_.observed p held
    rw [← reached_iff, Bool.not_eq_true] at early
    simp [observedSwitchDue, held, early, near]

theorem NoSwitchDue.view_not (none_ : NoSwitchDue s.mbc s.cyt.cycle) : viewSwitchDue s = false := by
  cases held : s.mbc.pending with
  | none => simp [viewSwitchDue, held]
  | some p =>
    have early := none_.pending p held
    rw [← reached_iff, Bool.not_eq_true] at early
    simp [viewSwitchDue, held, early]

/-- Where the boundary finds no counts of the Plan Unit to make, it is the Membership Controller's and the ends'. -/
theorem boundary_begun (none_ : order.readout = none) (other : u.mbc.station ≠ .member) {high : Bool} {n : Nat}
    (acts : ended (controllerBoundary high (withLock (boundaryCounted u) n)) = y) (after : y.plu.counting = false) :
    boundary order high (Machine.begun (withLock u n)) = y :=
  boundary_uncounted (s := Machine.begun (withLock u n)) none_ (by exact beq_eq_false_iff_ne.mpr other) acts after

end

end Sys2Proof.Machine

/-! ## What a boundary counts in each station state (R43, R53, R54, R60, R91, R115, R118) -/

namespace Sys2Proof.Machine

section
variable {s t u q x y : State} {v : View} {order : BoundaryOrder} {c : Instr} {high : Bool}

/-! ### The Membership Controller by station state -/

theorem controllerBoundary_aligning (aligning : s.mbc.station = .aligning) (high : Bool) :
    controllerBoundary high s = alignBoundary s := by rw [controllerBoundary, aligning]

theorem controllerBoundary_hailing (hailing : s.mbc.station = .hailing) (high : Bool) :
    controllerBoundary high s = hailBoundary s := by rw [controllerBoundary, hailing]

theorem controllerBoundary_member (member : s.mbc.station = .member) (high : Bool) :
    controllerBoundary high s = memberBoundary s := by rw [controllerBoundary, member]

theorem controllerBoundary_leaving (leaving : s.mbc.station = .leaving) (high : Bool) :
    controllerBoundary high s = leavingBoundary s := by rw [controllerBoundary, leaving]

/-- ALIGNING below its 64th boundary, with no observed view to examine. -/
theorem alignBoundary_counts (none_ : NoSwitchDue s.mbc s.cyt.cycle) (few : s.mbc.alignCount < 63) :
    alignBoundary s = { s with mbc := { s.mbc with alignCount := s.mbc.alignCount + 1 } } := by
  rw [alignBoundary, whenDue_not _ none_.observed_not]
  refine whenDue_not _ ?_
  simp only [alignTimeoutDue, Bool.and_eq_false_iff]
  exact .inr (decide_eq_false (by omega))

/-- HAILING below its 16th interval boundary, with no observed view to examine. -/
theorem hailBoundary_counts (hailing : s.mbc.station = .hailing) (none_ : NoSwitchDue s.mbc s.cyt.cycle)
    (few : s.mbc.hailInterval < 15) :
    hailBoundary s = { s with mbc := { s.mbc with hailInterval := s.mbc.hailInterval + 1 } } := by
  rw [hailBoundary, whenDue_not _ none_.observed_not]
  refine (if_pos hailing).trans (whenDue_not _ ?_)
  simp only [hailIntervalDue, Bool.and_eq_false_iff]
  exact .inr (decide_eq_false (by omega))

/-- LEAVING below its 32nd boundary, with no view to switch to. -/
theorem leavingBoundary_counts (none_ : NoSwitchDue s.mbc s.cyt.cycle) (few : s.mbc.leaveCount < 31) :
    leavingBoundary s = { s with mbc := { s.mbc with leaveCount := s.mbc.leaveCount + 1 } } := by
  have waits : viewSwitchDue { s with mbc.leaveCount := s.mbc.leaveCount + 1 } = false :=
    NoSwitchDue.view_not ⟨none_.pending, none_.observed⟩
  rw [leavingBoundary, whenDue_not _ waits]
  refine whenDue_not _ ?_
  simp only [leaveTimeoutDue, Bool.and_eq_false_iff]
  exact .inr (decide_eq_false (by omega))

/-- A MEMBER's backoff timer at a boundary (R91). -/
theorem backoff_counts (member : s.mbc.station = .member) :
    whenDue backoffExpiryDue backoffExpiry { s with mbc.backoff := s.mbc.backoff.map (· - 1) } = backedOff s := by
  rw [backedOff]
  cases held : s.mbc.backoff with
  | none => exact (whenDue_not _ (by simp [backoffExpiryDue])).trans (congrArg (fun b => { s with mbc.backoff := b }) held.symm)
  | some n =>
    dsimp only
    by_cases runs : 2 ≤ n
    · rw [if_pos runs]
      refine whenDue_not _ ?_
      simp [backoffExpiryDue]
      omega
    · rw [if_neg runs]
      refine (whenDue_of _ ?_).trans ?_
      · have : n - 1 = 0 := by omega
        simp [backoffExpiryDue, this, member]
      · exact postRequest_eq_requested (by exact member ▸ rfl)

theorem memberBoundary_eq (member : s.mbc.station = .member) :
    memberBoundary s = whenDue viewSwitchDue switchView (backedOff s) := by
  rw [memberBoundary, backoff_counts member]

/-! ### The ends of a boundary with no peer overdue -/

theorem ended_still (heard : ∀ p ∈ s.peers, p.silence < 32) : ended s = finishBoundary s := by
  rw [ended, lossTest_still heard, purgeTest_still fun p hp => (heard p hp).trans (by decide)]

theorem plannedOn_withLock (s : State) (v : View) (n : Nat) : plannedOn (withLock s n) v = withLock (plannedOn s v) n := by
  have plan : planOf (withLock s n) v = planOf s v :=
    PlansAs.planOf (s := s) (t := withLock s n) ⟨rfl, rfl, rfl, rfl, rfl⟩ v
  rw [plannedOn, plan]
  rfl

/-- Silences below 31 before a boundary are below 32 after it. -/
theorem BeginsCycle.heard (begins : BeginsCycle order s c u) (heard : ∀ p ∈ s.peers, p.silence < 31) :
    ∀ p ∈ (boundaryCounted u).peers, p.silence < 32 :=
  boundaryCounted_silence (n := 31) (begins.peers.symm ▸ heard)

/-! ### BoundaryCounts -/

theorem BeginsCycle.station (begins : BeginsCycle order s c u) : u.mbc.station = s.mbc.station :=
  congrArg Membership.station begins.mbc

/-- A boundary outside MEMBER and LEAVING that the Membership Controller counts to a state with its lock kept. -/
theorem BeginsCycle.following (begins : BeginsCycle order s c u) (q : u.mbc.station.following = true)
    (acts : ∀ n high, controllerBoundary high (withLock (boundaryCounted u) n) = withLock y n)
    (station : y.mbc.station = u.mbc.station) (cyt : y.cyt = u.cyt) (counting : y.plu.counting = false)
    (cfg : y.cfg = u.cfg) (heard : ∀ p ∈ y.peers, p.silence < 64) : exec c s = .next (settle y) := by
  have other : u.mbc.station ≠ .member := fun is => by
    rw [is] at q
    cases q
  have outside : y.mbc.station.inGroup = false := by
    rw [station]
    rcases (following_iff _).mp q with is | is <;> rw [is] <;> rfl
  refine begins.made (fun high n => boundary_begun begins.1 other ?_ counting) (congrArg _ cyt) (cfg.trans begins.cfg) ?_
    fun aligning => ⟨?_, congrArg _ cyt⟩
  · rw [acts]
    exact ended_outside (s := withLock y n) outside heard
  · rw [station, keepsLock, q]
    rfl
  · rw [← begins.station, ← station]
    exact aligning

/-- A backoff timer that does not end at the boundary counts (R91). -/
theorem backedOff_waits (waits : ∀ n, s.mbc.backoff = some n → 2 ≤ n) :
    backedOff s = { s with mbc := { s.mbc with backoff := s.mbc.backoff.map (fun n => n - 1) } } := by
  rw [backedOff]
  cases held : s.mbc.backoff with
  | none => exact congrArg (fun b => { s with mbc := { s.mbc with backoff := b } }) held
  | some n => exact if_pos (waits n held)

/-- The part with this lease count and CLAIM age, and with counts still to be made or not. -/
def withCounts (s : State) (lease age : Nat) (counting : Bool) : State :=
  { s with plu := { s.plu with lease := lease, age := age, counting := counting } }

/-- The counts of a MEMBER's boundary where the lease does not end and no heartbeat is due (R115, R118). -/
theorem planCount_quiet (made : s.plu.counting = true) (member : s.mbc.station = .member) (lease : s.plu.lease ≠ 1)
    (calm : s.plu.age ≠ 7 ∨ s.plu.claimed = false ∨ s.tli.requests.claim = true ∨
      ∃ f, s.tli.flight = some f ∧ f.kind = .claim) :
    planCount s = withCounts s (s.plu.lease - 1) (min (s.plu.age + 1) 255) false := by
  have step : leaseStep { s with plu.counting := false } = withCounts s (s.plu.lease - 1) s.plu.age false := if_neg lease
  have calm_ : heartbeatDue (withCounts s (s.plu.lease - 1) (min (s.plu.age + 1) 255) false) = false := by
    rcases calm with age | claimed | asked | ⟨f, flight, kind⟩
    · have : min (s.plu.age + 1) 255 ≠ 8 := by omega
      simp [heartbeatDue, withCounts, this]
    · simp [heartbeatDue, withCounts, claimed]
    · simp [heartbeatDue, withCounts, asked]
    · simp [heartbeatDue, withCounts, flightOf, flight, kind]
  rw [planCount, if_pos ⟨made, member⟩, step, ageStep]
  exact if_neg (by exact calm_ ▸ Bool.false_ne_true)

theorem plannedOn_withCounts (s : State) (v : View) (lease age : Nat) (counting : Bool) :
    plannedOn (withCounts s lease age counting) v = withCounts (plannedOn s v) lease age counting := by
  have plan : planOf (withCounts s lease age counting) v = planOf s v :=
    PlansAs.planOf (s := s) (t := withCounts s lease age counting) ⟨rfl, rfl, rfl, rfl, rfl⟩ v
  rw [plannedOn, plan]
  rfl

/-- The part that a MEMBER's boundary has counted, with the Plan Unit's counts still to be made. -/
def uncounted (q : State) : State := { q with plu := { q.plu with counting := true } }

theorem counted_begun (member : u.mbc.station = .member) (n : Nat) :
    counted (Machine.begun (withLock u n)) = uncounted (withLock (boundaryCounted u) n) := by
  rw [counted_eq]
  exact congrArg (fun b => { withLock (boundaryCounted u) n with plu := { (boundaryCounted u).plu with counting := b } })
    (beq_iff_eq.mpr member)

/-- A MEMBER's boundary acts: the backoff timer, the switch, the tests and the plan. -/
theorem acts_member (member : s.mbc.station = .member) :
    ended (controllerBoundary high s) = ended (whenDue viewSwitchDue switchView (backedOff s)) := by
  rw [controllerBoundary_member member, memberBoundary_eq member]

/-- The acts of a MEMBER's boundary with no switch, where the backoff timer does not end. -/
theorem acts_member_quiet (member : s.mbc.station = .member) (current : s.mbc.current = some v)
    (stays : NoSwitchDue s.mbc s.cyt.cycle) (heard : ∀ p ∈ s.peers, p.silence < 32)
    (waits : ∀ n, s.mbc.backoff = some n → 2 ≤ n) : ended (controllerBoundary high s) =
      plannedOn { s with mbc := { s.mbc with backoff := s.mbc.backoff.map (fun n => n - 1) } } v := by
  have calm : viewSwitchDue { s with mbc := { s.mbc with backoff := s.mbc.backoff.map (fun n => n - 1) } } = false :=
    NoSwitchDue.view_not ⟨stays.pending, stays.observed⟩
  rw [acts_member member, backedOff_waits waits, whenDue_not _ calm, ended_still (by exact heard),
    finishBoundary_grouped (v := v) (by exact member ▸ rfl) (by exact current)]

/-- A MEMBER's boundary with no switch, no timer's end and no heartbeat. -/
theorem memberBoundary_quiet (none_ : order.readout = none) (member : u.mbc.station = .member)
    (current : u.mbc.current = some v) (stays : NoSwitchDue u.mbc u.cyt.cycle)
    (heard : ∀ p ∈ (boundaryCounted u).peers, p.silence < 32) (waits : ∀ n, u.mbc.backoff = some n → 2 ≤ n)
    (lease : u.plu.lease ≠ 1) (calm : u.plu.age ≠ 7 ∨ u.plu.claimed = false ∨ u.tli.requests.claim = true ∨
      ∃ f, u.tli.flight = some f ∧ f.kind = .claim) (n : Nat) :
    boundary order high (Machine.begun (withLock u n)) = withLock (plannedOn (withCounts
      { boundaryCounted u with mbc := { u.mbc with backoff := u.mbc.backoff.map (fun n => n - 1) } }
      (u.plu.lease - 1) (min (u.plu.age + 1) 255) false) v) n := by
  rw [boundary_eq none_, counted_begun member, ← plannedOn_withLock]
  split
  · rw [planCount_quiet (s := uncounted (withLock (boundaryCounted u) n)) rfl member lease (by exact calm)]
    exact acts_member_quiet (s := withCounts _ _ _ _) member current stays heard waits
  · rw [acts_member_quiet (s := uncounted (withLock (boundaryCounted u) n)) member current stays heard waits,
      planCount_quiet (by rfl) (by exact member) (by exact lease) (by exact calm), ← plannedOn_withCounts]
    rfl

theorem Planned.of_begins (begins : BeginsCycle order s c u) (q : State) (plan : q.plu.plan = u.plu.plan)
    (cfg : q.cfg = u.cfg) (current : q.mbc.current = some v) : Planned s v (settle (plannedOn q v)) :=
  (planned_plannedOn current).settled.before (plan.trans (congrArg PlanUnit.plan begins.plu)) (cfg.trans begins.cfg)

/-- Settles O30. -/
theorem boundaryCounts : Obligations.BoundaryCounts := by
  rintro order s c u q begins rfl heard stays
  have heard_ := begins.heard heard
  have mbc := begins.mbc
  rw [← mbc] at stays ⊢
  refine ⟨fun aligning few => ?_, fun hailing few => ?_, fun v leaving current few => ?_,
    fun v member current waits lease calm => ?_⟩
  · refine begins.following (by exact aligning ▸ rfl) (fun n high => ?_) rfl rfl rfl rfl
      fun p hp => (heard_ p hp).trans (by decide)
    rw [controllerBoundary_aligning (by exact aligning), alignBoundary_counts (by exact stays) (by exact few)]
    rfl
  · refine begins.following (by exact hailing ▸ rfl) (fun n high => ?_) rfl rfl rfl rfl
      fun p hp => (heard_ p hp).trans (by decide)
    rw [controllerBoundary_hailing (by exact hailing), hailBoundary_counts (by exact hailing) (by exact stays) (by exact few)]
    rfl
  · let counted_ := { boundaryCounted u with mbc := { u.mbc with leaveCount := u.mbc.leaveCount + 1 } }
    have row : exec c s = .next (settle (plannedOn counted_ v)) := by
      refine begins.made (fun high n => boundary_begun begins.1 (by simp [leaving]) ?_ rfl) rfl begins.cfg
        (by exact leaving ▸ rfl) fun aligning => absurd (leaving.symm.trans aligning) (by decide)
      rw [controllerBoundary_leaving (by exact leaving), leavingBoundary_counts (by exact stays) (by exact few),
        ended_still (by exact heard_), finishBoundary_grouped (v := v) (by exact leaving ▸ rfl) (by exact current)]
      exact plannedOn_withLock counted_ v n
    exact ⟨_, row, .of_begins begins counted_ rfl rfl current, rfl⟩
  · let counted_ := withCounts
      { boundaryCounted u with mbc := { u.mbc with backoff := u.mbc.backoff.map (fun n => n - 1) } }
      (u.plu.lease - 1) (min (u.plu.age + 1) 255) false
    rw [← begins.plu, ← begins.tli] at calm
    rw [← begins.plu] at lease
    have row : exec c s = .next (settle (plannedOn counted_ v)) :=
      begins.made (fun high n => memberBoundary_quiet begins.1 member current stays heard_ waits lease calm n) rfl
        begins.cfg (by exact member ▸ rfl) fun aligning => absurd (member.symm.trans aligning) (by decide)
    exact ⟨_, row, .of_begins begins counted_ rfl rfl current, rfl⟩

end

end Sys2Proof.Machine

/-! ## What a boundary ends outside the group, and a snap that takes a station to HAILING (R52 to R56, R108) -/

namespace Sys2Proof.Machine

section
variable {s t u q w y : State} {v : View} {p : PendingView} {order : BoundaryOrder} {c : Instr} {high : Bool}

/-! ### The observed view at a boundary (R108) -/

/-- The cycle `c` has come to the switch of `p`. -/
def Reached (c : U16) (p : PendingView) : Prop := c = p.switchCycle ∨ newer c p.switchCycle = true

/-- The observed record after the examination of its pending view at a station that it leaves outside (R108). -/
def observedNext (s : State) (p : PendingView) : Observed :=
  if reached s.cyt.cycle p.switchCycle then observedMoved s p.view else { s.mbc.observed with pending := none }

/-- The examination of the observed view of a station that it leaves outside moves the observed record alone. -/
theorem switchObserved_stays (held : s.mbc.observed.pending = some p)
    (stays : ¬ (s.mbc.station = .hailing ∧ lists p.view.members s.cfg.id = true) ∨ ¬ Reached s.cyt.cycle p) :
    switchObserved s = { s with mbc := { s.mbc with observed := observedNext s p } } := by
  by_cases now : Reached s.cyt.cycle p
  · rw [switchObserved_moves held now (stays.resolve_right (absurd now ·)), observedNext, if_pos ((reached_iff ..).mpr now)]
  · rw [switchObserved_discards held now, observedNext, if_neg (by rwa [reached_iff])]

theorem examined_aligning (aligning : s.mbc.station = .aligning) : ∃ o,
    whenDue observedSwitchDue switchObserved s = { s with mbc := { s.mbc with observed := o } } := by
  cases held : s.mbc.observed.pending with
  | none => exact ⟨s.mbc.observed, whenDue_not _ (by simp [observedSwitchDue, held])⟩
  | some p =>
    unfold whenDue
    split
    · exact ⟨_, switchObserved_stays held (.inl fun is => by rw [aligning] at is; cases is.1)⟩
    · exact ⟨s.mbc.observed, rfl⟩

/-! ### ALIGNING (R53, R108) -/

theorem alignTimeoutDue_of (aligning : s.mbc.station = .aligning) (count : s.mbc.alignCount = 64) :
    alignTimeoutDue s = true := by simp [alignTimeoutDue, aligning, count]

/-- The row ALIGN_TIMEOUT at the 64th boundary. -/
theorem alignTimeout_row (released : s.resetAsserted = false) (aligning : s.mbc.station = .aligning) :
    exec .alignTimeout { s with mbc := { s.mbc with alignCount := 64 } } =
      .next (settle (alignTimeout { s with mbc := { s.mbc with alignCount := 64 } })) := by
  have due : alignTimeoutDue { s with mbc := { s.mbc with alignCount := 64 } } = true :=
    alignTimeoutDue_of (by exact aligning) rfl
  exact exec_due (c := .alignTimeout) rfl released due

theorem alignTimeoutDue_not (few : s.mbc.alignCount < 64) : alignTimeoutDue s = false := by
  simp only [alignTimeoutDue, Bool.and_eq_false_iff]
  exact .inr (decide_eq_false few.not_ge)

/-- The 64th boundary in ALIGNING, whatever the observed view does at it (R53). -/
theorem alignBoundary_ends (aligning : s.mbc.station = .aligning) (count : s.mbc.alignCount = 63) :
    alignBoundary s = alignTimeout { s with mbc := { s.mbc with alignCount := 64 } } := by
  obtain ⟨o, examined⟩ := examined_aligning aligning
  rw [alignBoundary, examined]
  dsimp only
  rw [count]
  exact whenDue_of _ (alignTimeoutDue_of (by exact aligning) rfl)

/-- An observed view examined in ALIGNING below the 64th boundary. -/
theorem alignBoundary_examines (due : observedSwitchDue s = true) (held : s.mbc.observed.pending = some p)
    (aligning : s.mbc.station = .aligning) (few : s.mbc.alignCount < 63) : alignBoundary s =
      { s with mbc := { s.mbc with observed := observedNext s p, alignCount := s.mbc.alignCount + 1 } } := by
  rw [alignBoundary, whenDue_of _ due,
    switchObserved_stays held (.inl fun is => by rw [aligning] at is; cases is.1)]
  exact whenDue_not _ (alignTimeoutDue_not (by exact Nat.succ_lt_succ few))

/-- The row OBSERVED_SWITCH of a station that the view leaves outside. -/
theorem observedSwitch_stays (released : s.resetAsserted = false) (due : observedSwitchDue s = true)
    (held : s.mbc.observed.pending = some p) (outside : s.mbc.station.inGroup = false)
    (stays : ¬ (s.mbc.station = .hailing ∧ lists p.view.members s.cfg.id = true) ∨ ¬ Reached s.cyt.cycle p) :
    exec .observedSwitch s = .next (settle { s with mbc := { s.mbc with observed := observedNext s p } }) := by
  rw [exec_due (c := .observedSwitch) rfl released due]
  refine congrArg (fun t => Host.Outcome.next (settle t)) ?_
  rw [switchObserved_stays held stays]
  exact finishBoundary_lossTest_outside (by exact outside)

/-! ### HAILING (R54 to R56, R108) -/

/-- An observed view that admits the station decides before the interval count (R56). -/
theorem hailBoundary_admits (due : observedSwitchDue s = true) (held : s.mbc.observed.pending = some p)
    (hailing : s.mbc.station = .hailing) (listed : lists p.view.members s.cfg.id = true)
    (now : Reached s.cyt.cycle p) : hailBoundary s = admitTo s p.view := by
  have entered : (admitTo s p.view).mbc.station = .member := by
    rw [admitTo_eq]
    split <;> rfl
  rw [hailBoundary, whenDue_of _ due, switchObserved_admits hailing held listed now]
  exact if_neg (by simp [entered])

/-- An observed view that leaves the station outside, below its 16th interval boundary. -/
theorem hailBoundary_examines (due : observedSwitchDue s = true) (held : s.mbc.observed.pending = some p)
    (hailing : s.mbc.station = .hailing) (few : s.mbc.hailInterval < 15)
    (stays : ¬ (s.mbc.station = .hailing ∧ lists p.view.members s.cfg.id = true) ∨ ¬ Reached s.cyt.cycle p) :
    hailBoundary s =
      { s with mbc := { s.mbc with observed := observedNext s p, hailInterval := s.mbc.hailInterval + 1 } } := by
  rw [hailBoundary, whenDue_of _ due, switchObserved_stays held stays]
  refine (if_pos hailing).trans (whenDue_not _ ?_)
  simp only [hailIntervalDue, Bool.and_eq_false_iff]
  exact .inr (decide_eq_false (by omega))

theorem admitTo_counting (s : State) (v : View) : (admitTo s v).plu.counting = false := by
  rw [admitTo_eq]
  split <;> rfl

theorem admitTo_silence (heard : ∀ p ∈ s.peers, p.silence < 32) : ∀ p ∈ (admitTo s v).peers, p.silence < 32 := by
  have same : (admitTo s v).peers = (tableSwitch s v).peers := by
    rw [admitTo_eq]
    split <;> rfl
  rw [same]
  exact tableSwitch_silence heard (by decide) v

/-- The row OBSERVED_SWITCH of a HAILING station that the view admits, with no peer overdue. -/
theorem observedSwitch_admits (released : s.resetAsserted = false) (due : observedSwitchDue s = true)
    (held : s.mbc.observed.pending = some p) (hailing : s.mbc.station = .hailing)
    (listed : lists p.view.members s.cfg.id = true) (now : Reached s.cyt.cycle p)
    (heard : ∀ p ∈ s.peers, p.silence < 32) :
    exec .observedSwitch s = .next (settle (finishBoundary (admitTo s p.view))) := by
  rw [exec_due (c := .observedSwitch) rfl released due]
  refine congrArg (fun t => Host.Outcome.next (settle (finishBoundary t))) ?_
  rw [switchObserved_admits hailing held listed now]
  exact lossTest_still (admitTo_silence heard)

/-! ### A snap that takes an ALIGNING station to HAILING (R52) -/

theorem boundaryCounted_hailed (u : State) : boundaryCounted (hailed (Machine.begun u)) = hailed (boundaryCounted u) := rfl

/-- A fall that takes the lock count of an ALIGNING station with the adopted flag set to 4 (R11, R12, R52). -/
structure SnapHails (s : State) (order : BoundaryOrder) : Prop extends Snaps s where
  none_ : order.readout = none
  aligning : s.mbc.station = .aligning
  adopted : s.cyt.adopted = true
  heard : ∀ p ∈ s.peers, p.silence < 31
  lock : (boundaryCounted (snapped s)).cyt.lockCount = 4

theorem SnapHails.mbc (_h : SnapHails s order) : (boundaryCounted (snapped s)).mbc = s.mbc :=
  (congrArg State.mbc (snapped_frame s) :)

theorem SnapHails.cfg (_h : SnapHails s order) : (boundaryCounted (snapped s)).cfg = s.cfg := snapped_cfg s

theorem SnapHails.station (h : SnapHails s order) : (boundaryCounted (snapped s)).mbc.station = .aligning :=
  (congrArg Membership.station h.mbc).trans h.aligning

theorem SnapHails.silence (h : SnapHails s order) : ∀ p ∈ (boundaryCounted (snapped s)).peers, p.silence < 32 :=
  boundaryCounted_silence (n := 31) ((congrArg State.peers (snapped_frame s) :).symm ▸ h.heard)

theorem SnapHails.released (h : SnapHails s order) : (boundaryCounted (snapped s)).resetAsserted = false :=
  ((congrArg State.resetAsserted (snapped_frame s) :) : _ = s.resetAsserted).trans h.runs.1

theorem SnapHails.flag (h : SnapHails s order) : (boundaryCounted (snapped s)).cyt.adopted = true :=
  ((congrArg CycleTimer.adopted (snapped_cyt s) :) : _ = s.cyt.adopted).trans h.adopted

theorem SnapHails.fresh (_h : SnapHails s order) : (boundaryCounted (snapped s)).cyt.begun = true :=
  (congrArg CycleTimer.begun (snapped_cyt s) :)

/-- The lock first: the boundary counts in HAILING (log 16). -/
theorem SnapHails.first (h : SnapHails s order)
    (acts : ended (hailBoundary (hailed (boundaryCounted (snapped s)))) = y) (after : y.plu.counting = false) :
    exec (.syncFall true order) s = .next (settle y) := by
  have st : (snapped s).mbc.station = .aligning := (snapped_station s).trans h.aligning
  rw [h.lockFirst, tryHail_hails (by exact st) (by exact h.lock) (by exact h.flag)]
  refine congrArg (fun t => Host.Outcome.next (settle t)) (boundary_uncounted h.none_ ?_ ?_ after)
  · exact beq_eq_false_iff_ne.mpr (by simp [st])
  · rw [boundaryCounted_hailed]
    exact acts

/-- The lock last: the boundary counts in ALIGNING, and the station it leaves there hails. -/
theorem SnapHails.last (h : SnapHails s order)
    (acts : ended (alignBoundary (withLock (boundaryCounted (snapped s)) s.cyt.lockCount)) = withLock y s.cyt.lockCount)
    (cfg : y.cfg = s.cfg) (cyt : y.cyt = (boundaryCounted (snapped s)).cyt) (aligning : y.mbc.station = .aligning)
    (after : y.plu.counting = false) :
    exec (.syncFall false order) s = .next (settle (hailed y)) := by
  have st : (snapped s).mbc.station = .aligning := (snapped_station s).trans h.aligning
  have lock : lockAfter (withLock y s.cyt.lockCount) (s.cfg.fp.p - s.cyt.position) = y.cyt.lockCount :=
    (lockAfter_congr (t := withLock y s.cyt.lockCount) (s := s) cfg rfl _).trans ((snapped_lockCount s).symm.trans (congrArg CycleTimer.lockCount cyt).symm)
  have acts_ : ended (controllerBoundary false (withLock (boundaryCounted (snapped s)) s.cyt.lockCount)) =
      withLock y s.cyt.lockCount := by
    rw [controllerBoundary_aligning (by exact h.station)]
    exact acts
  rw [h.lockLast, boundary_begun h.none_ (by simp [st]) acts_ after, relock, if_pos (by simp [withLock, aligning, keepsLock,
    Station.following]), lockRule_eq, lock, withLock_withLock, withLock_same, tryHail_hails aligning
    ((congrArg CycleTimer.lockCount cyt).trans h.lock) ((congrArg CycleTimer.adopted cyt).trans h.flag)]

/-- The lock last, and the 64th boundary: the timeout leaves no lock to keep (R53). -/
theorem SnapHails.timeout (h : SnapHails s order) (count : s.mbc.alignCount = 63) : exec (.syncFall false order) s =
    exec .alignTimeout { boundaryCounted (snapped s) with
      mbc := { (boundaryCounted (snapped s)).mbc with alignCount := 64 } } := by
  have st : (snapped s).mbc.station = .aligning := (snapped_station s).trans h.aligning
  have count_ : (boundaryCounted (snapped s)).mbc.alignCount = 63 := (congrArg Membership.alignCount h.mbc).trans count
  have acts : ended (controllerBoundary false (withLock (boundaryCounted (snapped s)) s.cyt.lockCount)) =
      alignTimeout { boundaryCounted (snapped s) with
        mbc := { (boundaryCounted (snapped s)).mbc with alignCount := 64 } } := by
    rw [controllerBoundary_aligning (by exact h.station), alignBoundary_ends (by exact h.station) (by exact count_)]
    exact ended_outside (by rfl) fun p hp => (h.silence p hp).trans (by decide)
  rw [h.lockLast, boundary_begun h.none_ (by simp [st]) acts rfl, relock, if_neg (by exact Bool.false_ne_true)]
  exact (alignTimeout_row h.released h.station).symm

/-- Settles O29. -/
theorem snapTaken : Obligations.SnapTaken := by
  refine ⟨fun s lockFirst order none_ runs other high later late => Snaps.taken ⟨runs, other, high, later, late⟩ none_ lockFirst,
    ?_⟩
  rintro s q lockFirst order none_ runs aligning adopted high later late heard rfl lock
  have h : SnapHails s order := ⟨⟨runs, by simp [aligning], high, later, late⟩, none_, aligning, adopted, heard, lock⟩
  have mbc := h.mbc
  have quiet : ∀ p ∈ (boundaryCounted (snapped s)).peers, p.silence < 64 := fun p hp => (h.silence p hp).trans (by decide)
  have outside : (boundaryCounted (snapped s)).mbc.station.inGroup = false := by rw [h.station]; rfl
  rw [← mbc, ← h.cfg]
  refine ⟨?_, ?_⟩
  · rintro rfl
    refine ⟨fun stays => h.first ?_ rfl, fun p held listed now => ?_, fun p held is => ?_⟩
    · rw [hailBoundary_counts (s := hailed (boundaryCounted (snapped s))) rfl ⟨stays.pending, stays.observed⟩ (by exact Nat.succ_pos _)]
      exact ended_outside (by rfl) (by exact quiet)
    · have due : observedSwitchDue (hailed (boundaryCounted (snapped s))) = true :=
        observedSwitchDue_of (by exact h.fresh) (by exact held) rfl (by exact .inl now)
      rw [observedSwitch_admits (by exact h.released) due (by exact held) rfl (by exact listed) (by exact now)
        (by exact h.silence)]
      refine h.first ?_ ?_
      · rw [hailBoundary_admits due (by exact held) rfl (by exact listed) (by exact now)]
        exact ended_still (admitTo_silence (by exact h.silence))
      · rw [finishBoundary_frame]
        exact admitTo_counting ..
    · have due : observedSwitchDue (hailed (boundaryCounted (snapped s))) = true :=
        observedSwitchDue_of (by exact h.fresh) (by exact held) rfl (by exact is.imp And.left And.right)
      have stays : ¬ (Station.hailing = .hailing ∧ lists p.view.members (boundaryCounted (snapped s)).cfg.id = true) ∨
          ¬ Reached (boundaryCounted (snapped s)).cyt.cycle p := by
        refine is.imp (fun on listed => ?_) And.left
        rw [on.2] at listed
        cases listed.2
      rw [observedSwitch_stays (by exact h.released) (by exact due) (by exact held) rfl (by exact stays)]
      refine h.first ?_ rfl
      rw [hailBoundary_examines due (by exact held) rfl (by exact Nat.succ_pos _) (by exact stays)]
      exact ended_outside (by rfl) (by exact quiet)
  · rintro rfl
    refine ⟨fun few stays => h.last ?_ h.cfg rfl h.station rfl, fun p few held is => ?_, fun count => ?_⟩
    · rw [alignBoundary_counts (by exact stays) (by exact few)]
      exact ended_outside (by exact outside) (by exact quiet)
    · have due : observedSwitchDue (withLock (boundaryCounted (snapped s)) s.cyt.lockCount) = true :=
        observedSwitchDue_of (by exact h.fresh) (by exact held) (by exact h.station ▸ rfl) (by exact or_assoc.mpr is)
      refine ⟨_, observedSwitch_stays (p := p) (by exact h.released) (by exact due) (by exact held)
        (by exact outside) (.inl fun is => ?_), h.last (y :=
          { boundaryCounted (snapped s) with mbc := { (boundaryCounted (snapped s)).mbc with
            observed := observedNext (boundaryCounted (snapped s)) p
            alignCount := (boundaryCounted (snapped s)).mbc.alignCount + 1 } }) ?_ h.cfg rfl h.station rfl⟩
      · cases h.station.symm.trans is.1
      · rw [alignBoundary_examines due (by exact held) (by exact h.station) (by exact few)]
        exact ended_outside (by exact outside) (by exact quiet)
    · rw [mbc] at count
      exact h.timeout count

end

end Sys2Proof.Machine

/-! ## The timers and switches that a boundary ends outside MEMBER (R50, R53 to R56, R59, R60, R108) -/

namespace Sys2Proof.Machine

section
variable {s t u q w y : State} {v : View} {p : PendingView} {order : BoundaryOrder} {c : Instr} {high : Bool} {o : Observed}

/-! ### Boundaries that end with the station in a state with a lock, or without -/

theorem purgeBefore_still (f : State → State) (heard : ∀ p ∈ s.peers, p.silence < 64) : purgeBefore f s = f s := by
  have none_ : s.peers.filter (fun p => !isPurgeable p) = s.peers := List.filter_eq_self.mpr fun p hp => by
    have := heard p hp
    simp [isPurgeable]
    omega
  have same : purgeHeard s = s := by rw [purgeHeard, none_]
  rw [purgeBefore, same]
  split <;> rfl

/-- A boundary of a station that is no MEMBER, which leaves a state with the lock kept. -/
theorem BeginsCycle.keeps (begins : BeginsCycle order s c u) (other : u.mbc.station ≠ .member)
    (acts : ∀ n high, ended (controllerBoundary high (withLock (boundaryCounted u) n)) = withLock y n)
    (cyt : y.cyt = u.cyt) (cfg : y.cfg = u.cfg) (counting : y.plu.counting = false)
    (keeps : keepsLock y.mbc.station = true) (stays : y.mbc.station = .aligning → s.mbc.station = .aligning) :
    exec c s = .next (settle y) :=
  begins.made (fun high n => boundary_begun begins.1 other (acts n high) counting) (congrArg _ cyt)
    (cfg.trans begins.cfg) keeps fun aligning => ⟨stays aligning, congrArg _ cyt⟩

/-- A boundary of a station that is no MEMBER, which leaves a state without a lock. -/
theorem BeginsCycle.leaves (begins : BeginsCycle order s c u) (other : u.mbc.station ≠ .member)
    (acts : ∀ n high, controllerBoundary high (withLock (boundaryCounted u) n) = y)
    (heard : ∀ p ∈ y.peers, p.silence < 64) (counting : y.plu.counting = false)
    (clears : keepsLock y.mbc.station = false) : exec c s = .next (settle y) := by
  have outside : y.mbc.station.inGroup = false := by
    rw [keepsLock, Bool.or_eq_false_iff] at clears
    exact clears.2
  refine begins.cleared (fun high n => boundary_begun begins.1 other ?_ counting) clears
  rw [acts]
  exact ended_outside outside heard

theorem demote_silence {n : Nat} {ps : List Peer} (heard : ∀ p ∈ ps, p.silence < n) :
    ∀ p ∈ ps.map Peer.demote, p.silence < n := by
  intro p hp
  obtain ⟨q, hq, rfl⟩ := List.mem_map.mp hp
  exact heard q hq

/-! ### The end of the align count (R53) -/

theorem BeginsCycle.alignEnds (begins : BeginsCycle order s c u) (aligning : u.mbc.station = .aligning)
    (count : u.mbc.alignCount = 63) (heard : ∀ p ∈ (boundaryCounted u).peers, p.silence < 64) : exec c s =
      exec .alignTimeout { boundaryCounted u with mbc := { (boundaryCounted u).mbc with alignCount := 64 } } := by
  have row := alignTimeout_row (s := boundaryCounted u) begins.released aligning
  refine (begins.leaves (by simp [aligning]) (fun n high => ?_) (by exact heard) rfl rfl).trans row.symm
  rw [controllerBoundary_aligning (by exact aligning), alignBoundary_ends (by exact aligning) (by exact count)]
  rfl

/-! ### The end of the HAIL interval (R54, R55) -/

theorem hailInterval_again (hailing : s.mbc.station = .hailing) (few : s.mbc.hailCount < 4) : hailInterval s =
    requested { s with mbc := { s.mbc with hailCount := s.mbc.hailCount + 1, hailInterval := 0 } } .hail := by
  rw [hailInterval, if_pos few]
  exact postRequest_eq_requested (by exact hailing ▸ rfl)

theorem hailInterval_ends (hailing : s.mbc.station = .hailing) (four : ¬ s.mbc.hailCount < 4) : hailInterval s =
    enterDetached (appended s { kind := .notAdmitted, cycle := some s.cyt.cycle, station := none
                                detail := some { code := s.mbc.hailCount, value := 0 } }) .notAdmitted := by
  rw [hailInterval, if_neg four, post_eq_appended (by exact hailing ▸ rfl)]

/-- The part at the end of a HAIL interval, with the observed record `o`. -/
def intervalOver (s : State) (o : Observed) : State :=
  { s with mbc := { s.mbc with observed := o, hailInterval := 16 } }

theorem hailInterval_row (released : s.resetAsserted = false) (hailing : s.mbc.station = .hailing) :
    exec .hailInterval (intervalOver s o) = .next (settle (hailInterval (intervalOver s o))) := by
  have due : hailIntervalDue (intervalOver s o) = true := by simp [hailIntervalDue, intervalOver, hailing]
  exact exec_due (c := .hailInterval) rfl released due

/-- The outputs that the row finds do not matter: it settles them anew. -/
theorem hailInterval_settle (hailing : s.mbc.station = .hailing) :
    settle (hailInterval (intervalOver (settle s) o)) = settle (hailInterval (intervalOver s o)) := by
  by_cases few : s.mbc.hailCount < 4
  · rw [hailInterval_again (by exact hailing) (by exact few), hailInterval_again (by exact hailing) (by exact few)]
    rfl
  · rw [hailInterval_ends (by exact hailing) (by exact few), hailInterval_ends (by exact hailing) (by exact few)]
    rfl

theorem hailBoundary_ends (examined : whenDue observedSwitchDue switchObserved s =
      { s with mbc := { s.mbc with observed := o } }) (hailing : s.mbc.station = .hailing)
    (count : s.mbc.hailInterval = 15) (heard : ∀ p ∈ s.peers, p.silence < 64) :
    hailBoundary s = hailInterval (intervalOver s o) := by
  have due : hailIntervalDue (intervalOver s o) = true := by simp [hailIntervalDue, intervalOver, hailing]
  rw [hailBoundary, examined]
  dsimp only
  rw [if_pos hailing, count]
  exact (whenDue_of _ due).trans (purgeBefore_still _ (by exact heard))

theorem BeginsCycle.intervalEnds (begins : BeginsCycle order s c u) (hailing : u.mbc.station = .hailing)
    (count : u.mbc.hailInterval = 15) (heard : ∀ p ∈ (boundaryCounted u).peers, p.silence < 64)
    (examined : ∀ n, whenDue observedSwitchDue switchObserved (withLock (boundaryCounted u) n) =
      { withLock (boundaryCounted u) n with mbc := { u.mbc with observed := o } }) :
    exec c s = exec .hailInterval (intervalOver (boundaryCounted u) o) := by
  have acts : ∀ n high, controllerBoundary high (withLock (boundaryCounted u) n) =
      hailInterval (intervalOver (withLock (boundaryCounted u) n) o) := fun n high => by
    rw [controllerBoundary_hailing (by exact hailing),
      hailBoundary_ends (by exact examined n) (by exact hailing) (by exact count) (by exact heard)]
  rw [hailInterval_row (by exact begins.released) (by exact hailing)]
  by_cases few : u.mbc.hailCount < 4
  · rw [hailInterval_again (by exact hailing) (by exact few)]
    refine begins.following (by exact hailing ▸ rfl) (fun n high => ?_) rfl rfl rfl rfl (by exact heard)
    rw [acts, hailInterval_again (by exact hailing) (by exact few)]
    rfl
  · rw [hailInterval_ends (by exact hailing) (by exact few)]
    refine begins.leaves (by simp [hailing]) (fun n high => ?_) (by exact demote_silence heard) rfl rfl
    rw [acts, hailInterval_ends (by exact hailing) (by exact few)]
    rfl

/-! ### Founding (R50) -/

theorem found_facts (s : State) : (found s).mbc.station = .member ∧ (found s).plu.counting = false ∧
    (found s).peers = s.peers := by
  rw [found]
  dsimp only
  rw [memberEntry_eq (by rfl)]
  exact ⟨rfl, rfl, rfl⟩

theorem foundDue_of (listening : s.mbc.station = .listening) (fresh : s.cyt.begun = true)
    (window : listenWindow s ≤ s.mbc.listenCount) (clear : s.sli.stuck = false) : foundDue s true = true := by
  simp [foundDue, listening, fresh, window, clear]

theorem BeginsCycle.founds (begins : BeginsCycle order s c u) (wraps : c = .wrap order)
    (listening : u.mbc.station = .listening) (count : u.mbc.listenCount + 1 = 64 + u.cfg.id)
    (clear : s.sli.stuck = false) (high : s.sli.prevHigh = true)
    (heard : ∀ p ∈ (boundaryCounted u).peers, p.silence < 32) : exec c s =
      exec .foundGroup { boundaryCounted u with mbc := { (boundaryCounted u).mbc with listenCount := 64 + u.cfg.id } } := by
  have sli : u.sli = s.sli := by
    obtain ⟨-, -, ⟨-, -, rfl⟩ | ⟨⟨lockFirst, is⟩, -⟩⟩ := begins
    · rfl
    · rw [wraps] at is
      cases is
  have full : min ((boundaryCounted u).mbc.listenCount + 1) (listenWindow (boundaryCounted u)) = 64 + u.cfg.id := by
    show min (u.mbc.listenCount + 1) (64 + u.cfg.id) = _
    rw [count, Nat.min_self]
  let w := { boundaryCounted u with mbc := { (boundaryCounted u).mbc with listenCount := 64 + u.cfg.id } }
  have due : foundDue w true = true :=
    foundDue_of listening begins.begun Nat.le.refl ((congrArg SyncLine.stuck sli).trans clear)
  have held : w.sli.prevHigh = true := (congrArg SyncLine.prevHigh sli).trans high
  obtain ⟨-, counting, peers⟩ := found_facts w
  have acts : ended (controllerBoundary true (boundaryCounted u)) = finishBoundary (found w) := by
    rw [controllerBoundary, show (boundaryCounted u).mbc.station = .listening from listening]
    dsimp only
    rw [listenBoundary, full]
    refine (congrArg ended (whenDue_of (due := (foundDue · true)) found due)).trans (ended_still ?_)
    rw [peers]
    exact heard
  rw [begins.wrapped wraps, high, exec_due (c := .foundGroup) (s := w) rfl (by exact begins.released) (held.symm ▸ due)]
  refine congrArg (fun t => Host.Outcome.next (settle t)) (boundary_begun (n := u.cyt.lockCount) begins.1
    (by simp [listening]) acts ?_)
  rw [finishBoundary_frame]
  exact counting

/-! ### LEAVING (R59, R60) -/

theorem leaveTimeoutDue_not (few : s.mbc.station ≠ .leaving ∨ s.mbc.leaveCount < 32) : leaveTimeoutDue s = false := by
  simp only [leaveTimeoutDue, Bool.and_eq_false_iff]
  exact few.imp (fun other => beq_eq_false_iff_ne.mpr other) fun few => decide_eq_false few.not_ge

theorem leaveTimeoutDue_of (leaving : s.mbc.station = .leaving) (count : s.mbc.leaveCount = 32) :
    leaveTimeoutDue s = true := by simp [leaveTimeoutDue, leaving, count]

/-- LEAVING with the boundary counted. -/
def leaveCounted (s : State) : State := { s with mbc := { s.mbc with leaveCount := s.mbc.leaveCount + 1 } }

theorem detachLeft_of_leaving (leaving : s.mbc.station = .leaving) (reason : DetachReason) :
    detachLeft s reason = enterDetached (appended s
      { kind := .left, cycle := some s.cyt.cycle, station := none,
        detail := some { code := reasonCode reason, value := 0 } }) reason :=
  detachLeft_eq (by rw [leaving]; rfl) reason

theorem leaveTimeout_row (released : s.resetAsserted = false) (leaving : s.mbc.station = .leaving)
    (count : s.mbc.leaveCount = 32) : exec .leaveTimeout s = .next (settle (detachLeft s .leaveTimeout)) :=
  exec_due (c := .leaveTimeout) rfl released (leaveTimeoutDue_of leaving count)

theorem BeginsCycle.leaveEnds (begins : BeginsCycle order s c u) (leaving : u.mbc.station = .leaving)
    (count : u.mbc.leaveCount = 31) (stays : NoSwitchDue u.mbc u.cyt.cycle)
    (heard : ∀ p ∈ (boundaryCounted u).peers, p.silence < 64) : exec c s =
      exec .leaveTimeout { boundaryCounted u with mbc := { (boundaryCounted u).mbc with leaveCount := 32 } } := by
  rw [leaveTimeout_row (by exact begins.released) (by exact leaving) rfl, detachLeft_of_leaving (by exact leaving)]
  refine begins.leaves (by simp [leaving]) (fun n high => ?_) (by exact demote_silence heard) rfl rfl
  have waits : viewSwitchDue (leaveCounted (withLock (boundaryCounted u) n)) = false :=
    NoSwitchDue.view_not ⟨stays.pending, stays.observed⟩
  have over_ : (leaveCounted (withLock (boundaryCounted u) n)).mbc.leaveCount = 32 := congrArg (· + 1) count
  rw [controllerBoundary_leaving (by exact leaving)]
  refine (congrArg (whenDue leaveTimeoutDue _) (whenDue_not _ waits)).trans ?_
  rw [whenDue_of _ (leaveTimeoutDue_of (by exact leaving) over_), purgeBefore_still _ (by exact heard),
    detachLeft_of_leaving (by exact leaving), leaveCounted]
  dsimp only
  rw [show (withLock (boundaryCounted u) n).mbc.leaveCount = 31 from count]
  rfl

/-- The part in LEAVING that a switch still lists, at the end of the boundary (R59). -/
def leavesOn (s : State) (v : View) : State := plannedOn (requested (seatedOn s v) .leave) v

/-- The part in LEAVING that a switch excludes (R59). -/
def leftBy (s : State) : State :=
  enterDetached (appended s
    { kind := .left, cycle := some s.cyt.cycle, station := none, detail := some { code := 1, value := 0 } }) .hostLeave

theorem seatedOn_silence (heard : ∀ p ∈ s.peers, p.silence < 32) : ∀ p ∈ (seatedOn s v).peers, p.silence < 32 :=
  tableSwitch_silence heard (by decide) v

theorem leavesOn_withLock (s : State) (v : View) (n : Nat) : leavesOn (withLock s n) v = withLock (leavesOn s v) n :=
  plannedOn_withLock (requested (seatedOn s v) .leave) v n

section
variable (leaving : s.mbc.station = .leaving) (held : s.mbc.pending = some p) (heard : ∀ p ∈ s.peers, p.silence < 32)
  (due : viewSwitchDue s = true)
include leaving held heard due

/-- The row VIEW_SWITCH of a LEAVING station with no peer overdue. -/
theorem viewSwitch_leaving (released : s.resetAsserted = false) : exec .viewSwitch s = .next (settle
    (if lists p.view.members s.cfg.id then leavesOn s p.view else leftBy s)) := by
  rw [exec_due (c := .viewSwitch) rfl released due]
  refine congrArg (fun t => Host.Outcome.next (settle t)) ?_
  cases listed : lists p.view.members s.cfg.id
  · rw [switchView_left leaving held listed]
    exact finishBoundary_lossTest_outside (by rfl)
  · rw [switchView_leaving leaving held listed, lossTest_still (by exact seatedOn_silence heard)]
    exact finishBoundary_grouped (by exact leaving ▸ rfl) (by rfl)

theorem purgeBefore_switchView : whenDue viewSwitchDue (purgeBefore switchView) s =
    if lists p.view.members s.cfg.id then requested (seatedOn s p.view) .leave else leftBy s := by
  rw [whenDue_of _ due, purgeBefore_still _ fun p hp => (heard p hp).trans (by decide)]
  cases listed : lists p.view.members s.cfg.id
  · rw [switchView_left leaving held listed]
    rfl
  · rw [switchView_leaving leaving held listed]
    rfl

end

theorem leavingBoundary_eq (s : State) : leavingBoundary s = whenDue leaveTimeoutDue
    (purgeBefore (detachLeft · .leaveTimeout)) (whenDue viewSwitchDue (purgeBefore switchView) (leaveCounted s)) := rfl

section
variable (begins : BeginsCycle order s c u) (leaving : u.mbc.station = .leaving) (held : u.mbc.pending = some p)
  (now : Reached u.cyt.cycle p) (heard : ∀ p ∈ (boundaryCounted u).peers, p.silence < 32)
include begins leaving held now

theorem BeginsCycle.leavingSwitches (n : Nat) : viewSwitchDue (leaveCounted (withLock (boundaryCounted u) n)) = true :=
  viewSwitchDue_of (by exact begins.begun) (by exact held) (by exact now) (by exact leaving ▸ rfl)

include heard

/-- A switch that excludes a LEAVING station decides before its timeout (R59). -/
theorem BeginsCycle.leavingLeft (unlisted : lists p.view.members u.cfg.id = false) :
    exec c s = .next (settle (leftBy (leaveCounted (boundaryCounted u)))) := by
  refine begins.leaves (by simp [leaving]) (fun n high => ?_)
    (by exact demote_silence fun p hp => (heard p hp).trans (by decide)) rfl rfl
  rw [controllerBoundary_leaving (by exact leaving), leavingBoundary_eq, purgeBefore_switchView (by exact leaving)
    (by exact held) (by exact heard) (begins.leavingSwitches leaving held now n), if_neg (by exact unlisted ▸ Bool.false_ne_true)]
  exact whenDue_not _ (leaveTimeoutDue_not (.inl nofun))

/-- A switch that still lists a LEAVING station below its 32nd boundary. -/
theorem BeginsCycle.leavingStays (listed : lists p.view.members u.cfg.id = true) (few : u.mbc.leaveCount < 31) :
    exec c s = .next (settle (leavesOn (leaveCounted (boundaryCounted u)) p.view)) := by
  refine begins.keeps (by simp [leaving]) (fun n high => ?_) rfl rfl rfl (by exact leaving ▸ rfl)
    fun aligning => absurd (leaving.symm.trans aligning) nofun
  rw [controllerBoundary_leaving (by exact leaving), leavingBoundary_eq, purgeBefore_switchView (by exact leaving)
    (by exact held) (by exact heard) (begins.leavingSwitches leaving held now n), if_pos (by exact listed),
    whenDue_not _ (leaveTimeoutDue_not (.inr (by exact Nat.succ_lt_succ few))),
    ended_still (by exact seatedOn_silence heard), finishBoundary_grouped (v := p.view) (by exact leaving ▸ rfl) (by rfl)]
  exact leavesOn_withLock (leaveCounted (boundaryCounted u)) p.view n

/-- The timeout follows a switch that still lists a LEAVING station at its 32nd boundary (R60). -/
theorem BeginsCycle.leavingTimesOut (listed : lists p.view.members u.cfg.id = true) (count : u.mbc.leaveCount = 31) :
    exec c s = exec .leaveTimeout (settle (leavesOn (leaveCounted (boundaryCounted u)) p.view)) := by
  have over_ : (leaveCounted (boundaryCounted u)).mbc.leaveCount = 32 := congrArg (· + 1) count
  rw [leaveTimeout_row (by exact begins.released) (by exact leaving) (by exact over_), detachLeft_of_leaving (by exact leaving)]
  have seats := seatedOn_silence (s := leaveCounted (boundaryCounted u)) (v := p.view) heard
  refine begins.leaves (y := enterDetached (appended (requested (seatedOn (leaveCounted (boundaryCounted u)) p.view) .leave)
      { kind := .left, cycle := some u.cyt.cycle, station := none,
        detail := some { code := reasonCode .leaveTimeout, value := 0 } }) .leaveTimeout) (by simp [leaving])
    (fun n high => ?_)
    (by exact demote_silence fun p hp => (seats p hp).trans (by decide)) rfl rfl
  rw [controllerBoundary_leaving (by exact leaving), leavingBoundary_eq, purgeBefore_switchView (by exact leaving)
    (by exact held) (by exact heard) (begins.leavingSwitches leaving held now n), if_pos (by exact listed),
    whenDue_of _ (leaveTimeoutDue_of (by exact leaving) (by exact over_)),
    purgeBefore_still _ (by exact fun p hp => (seats p hp).trans (by decide)), detachLeft_of_leaving (by exact leaving)]
  rfl

end

end

end Sys2Proof.Machine

/-! ## A MEMBER's switch at a boundary (R91, R99, R115, R118, R119) -/

namespace Sys2Proof.Machine

section
variable {s t u q w y : State} {v : View} {p : PendingView} {order : BoundaryOrder} {c : Instr} {high : Bool}

/-! ### Observed views at a command that begins a cycle (R56, R108) -/

theorem admitTo_withLock (s : State) (v : View) (n : Nat) : admitTo (withLock s n) v = withLock (admitTo s v) n := by
  rw [admitTo_eq, admitTo_eq]
  cases new_ : listsNew v.members s.cfg.id
  · rw [show listsNew v.members (withLock s n).cfg.id = false from new_]
    rfl
  · rw [show listsNew v.members (withLock s n).cfg.id = true from new_]
    rfl

theorem finishBoundary_admitTo (s : State) (v : View) : finishBoundary (admitTo s v) = plannedOn (admitTo s v) v := by
  rw [admitTo_eq]
  split
  · exact finishBoundary_grouped rfl rfl
  · exact finishBoundary_grouped rfl rfl

theorem admitTo_kept (s : State) (v : View) : (admitTo s v).cyt = s.cyt ∧ (admitTo s v).cfg = s.cfg ∧
    (admitTo s v).mbc.station = .member := by
  rw [admitTo_eq]
  split <;> exact ⟨rfl, rfl, rfl⟩

theorem not_admitted {m : Membership} {id : Nat} {now : Prop} {far : Prop}
    (stays : (now ∧ lists p.view.members id = false) ∨ (¬ now ∧ far)) :
    ¬ (m.station = .hailing ∧ lists p.view.members id = true) ∨ ¬ now :=
  stays.imp (fun on listed => by rw [on.2] at listed; cases listed.2) And.left

section
variable (begins : BeginsCycle order s c u) (held : u.mbc.observed.pending = some p)
  (heard : ∀ p ∈ (boundaryCounted u).peers, p.silence < 32)
include begins held

theorem BeginsCycle.observedDue (following : u.mbc.station.following = true)
    (now : Reached u.cyt.cycle p ∨ 8 < ahead p.switchCycle u.cyt.cycle) (n : Nat) :
    observedSwitchDue (withLock (boundaryCounted u) n) = true :=
  observedSwitchDue_of begins.begun held following now

include heard

theorem BeginsCycle.admits (hailing : u.mbc.station = .hailing) (now : Reached u.cyt.cycle p)
    (listed : lists p.view.members u.cfg.id = true) : exec c s = exec .observedSwitch (boundaryCounted u) := by
  have due := begins.observedDue held (hailing ▸ rfl) (.inl now)
  obtain ⟨cyt, cfg, member⟩ := admitTo_kept (boundaryCounted u) p.view
  rw [observedSwitch_admits (s := boundaryCounted u) begins.released (due u.cyt.lockCount) held hailing listed now heard,
    finishBoundary_admitTo]
  refine begins.keeps (by simp [hailing]) (fun n high => ?_) cyt cfg (admitTo_counting ..) (by exact member ▸ rfl)
    fun aligning => absurd (member.symm.trans aligning) nofun
  rw [controllerBoundary_hailing (by exact hailing), hailBoundary_admits (due n) (by exact held) (by exact hailing)
    (by exact listed) (by exact now), ended_still (admitTo_silence (by exact heard)), finishBoundary_admitTo,
    admitTo_withLock, plannedOn_withLock]

section
variable (stays : (Reached u.cyt.cycle p ∧ lists p.view.members u.cfg.id = false) ∨
  (¬ Reached u.cyt.cycle p ∧ 8 < ahead p.switchCycle u.cyt.cycle))
include stays

theorem BeginsCycle.hailingExamines (hailing : u.mbc.station = .hailing) (few : u.mbc.hailInterval < 15) :
    exec c s = exec .observedSwitch { boundaryCounted u with
      mbc := { (boundaryCounted u).mbc with hailInterval := (boundaryCounted u).mbc.hailInterval + 1 } } := by
  have due := begins.observedDue held (hailing ▸ rfl) (stays.imp And.left And.right)
  have out := not_admitted (m := u.mbc) stays
  rw [observedSwitch_stays (p := p) (by exact begins.released) (by exact due u.cyt.lockCount) (by exact held)
    (by exact hailing ▸ rfl) (by exact out)]
  refine begins.following (by exact hailing ▸ rfl) (fun n high => ?_) rfl rfl rfl rfl
    (by exact fun p hp => (heard p hp).trans (by decide))
  rw [controllerBoundary_hailing (by exact hailing), hailBoundary_examines (due n) (by exact held) (by exact hailing)
    (by exact few) (by exact out)]
  rfl

theorem BeginsCycle.hailingExaminesLast (hailing : u.mbc.station = .hailing) (count : u.mbc.hailInterval = 15) :
    ∃ r, exec .observedSwitch (boundaryCounted u) = .next r ∧
      exec c s = exec .hailInterval { r with mbc := { r.mbc with hailInterval := 16 } } := by
  have due := begins.observedDue held (hailing ▸ rfl) (stays.imp And.left And.right)
  have out := not_admitted (m := u.mbc) stays
  refine ⟨_, observedSwitch_stays (s := boundaryCounted u) begins.released (due u.cyt.lockCount) held
    (by exact hailing ▸ rfl) out, ?_⟩
  have examined : ∀ n, whenDue observedSwitchDue switchObserved (withLock (boundaryCounted u) n) =
      { withLock (boundaryCounted u) n with mbc := { u.mbc with observed := observedNext (boundaryCounted u) p } } :=
    fun n => (whenDue_of _ (due n)).trans (switchObserved_stays (s := withLock (boundaryCounted u) n) held out)
  rw [begins.intervalEnds hailing count (fun p hp => (heard p hp).trans (by decide)) examined,
    hailInterval_row (by exact begins.released) (by exact hailing), ← hailInterval_settle (by exact hailing),
    ← hailInterval_row (by exact begins.released) (by exact hailing)]
  rfl

end

theorem BeginsCycle.aligningExamines (aligning : u.mbc.station = .aligning)
    (now : Reached u.cyt.cycle p ∨ 8 < ahead p.switchCycle u.cyt.cycle) (few : u.mbc.alignCount < 63) :
    exec c s = exec .observedSwitch { boundaryCounted u with
      mbc := { (boundaryCounted u).mbc with alignCount := (boundaryCounted u).mbc.alignCount + 1 } } := by
  have due := begins.observedDue held (aligning ▸ rfl) now
  rw [observedSwitch_stays (p := p) (by exact begins.released) (by exact due u.cyt.lockCount) (by exact held)
    (by exact aligning ▸ rfl) (.inl fun is => by cases aligning.symm.trans is.1)]
  refine begins.following (by exact aligning ▸ rfl) (fun n high => ?_) rfl rfl rfl rfl
    (by exact fun p hp => (heard p hp).trans (by decide))
  rw [controllerBoundary_aligning (by exact aligning), alignBoundary_examines (due n) (by exact held) (by exact aligning)
    (by exact few)]
  rfl

end

end

end Sys2Proof.Machine

/-! ## A MEMBER's switch at a boundary (R62, R91, R99, R115, R118, R119) -/

namespace Sys2Proof.Machine

section
variable {s t u q a e x y : State} {v : View} {p : PendingView} {order : BoundaryOrder} {c : Instr} {high : Bool}

/-! ### Parts that differ in counts and outputs -/

/-- The part `s` with the lock count, the Plan Unit's counts and the outputs of `x`. -/
def alikeTo (s x : State) : State :=
  { s with
    cyt := { s.cyt with lockCount := x.cyt.lockCount }
    plu := { s.plu with lease := x.plu.lease, age := x.plu.age, counting := x.plu.counting }
    los := { s.los with quiet := x.los.quiet, out0 := x.los.out0, out1 := x.los.out1 }
    evq := { s.evq with irqLow := x.evq.irqLow } }

/-- Two parts differ in the lock count, the Plan Unit's counts and the outputs alone. -/
def Alike (s t : State) : Prop := t = alikeTo s t

theorem Alike.eq (h : Alike s t) : t = alikeTo s t := h

theorem Alike.refl (s : State) : Alike s s := rfl

theorem Alike.symm (h : Alike s t) : Alike t s := by
  rw [h.eq]
  rfl

theorem Alike.trans (h : Alike s t) (k : Alike t u) : Alike s u :=
  calc u = alikeTo t u := k
    _ = alikeTo (alikeTo s t) u := congrArg (alikeTo · u) h.eq

/-- What takes every part alike to `s` to a part alike to its image keeps the relation. -/
theorem Alike.congr (h : Alike s t) {f : State → State} (k : ∀ x, Alike (f s) (f (alikeTo s x))) : Alike (f s) (f t) := by
  rw [h.eq]
  exact k t

theorem alike_settle (s : State) : Alike s (settle s) := rfl

theorem Alike.claim (h : Alike s t) : t.tli.requests.claim = s.tli.requests.claim := by rw [h.eq]; rfl
theorem Alike.peers (h : Alike s t) : t.peers = s.peers := by rw [h.eq]; rfl
theorem Alike.mbc (h : Alike s t) : t.mbc = s.mbc := by rw [h.eq]; rfl
theorem Alike.cfg (h : Alike s t) : t.cfg = s.cfg := by rw [h.eq]; rfl
theorem Alike.begun (h : Alike s t) : t.cyt.begun = s.cyt.begun := by rw [h.eq]; rfl
theorem Alike.cycle (h : Alike s t) : t.cyt.cycle = s.cyt.cycle := by rw [h.eq]; rfl
theorem Alike.released (h : Alike s t) : t.resetAsserted = s.resetAsserted := by rw [h.eq]; rfl

/-- The part with a CLAIM request set or not. -/
def withClaim (s : State) (b : Bool) : State :=
  { s with tli := { s.tli with requests := { s.tli.requests with claim := b } } }

/-! ### The lease and the CLAIM age of a MEMBER (R115, R118, R119) -/

/-- The part after the lease's step of a boundary, but for its count. -/
def leaseRun (s : State) : State := if s.plu.lease = 1 then expireLease s else s

/-- The part whose lease has just run out, before the test for a CLAIM (R119). -/
def leaseOut (s : State) : State :=
  appended { s with plu := { s.plu with
      lease := 0, leg0 := { s.plu.leg0 with requested := 0 }, leg1 := { s.plu.leg1 with requested := 0 } } }
    { kind := .leaseExpired, cycle := some s.cyt.cycle, station := none, detail := some { code := 0, value := s.cfg.lease } }

theorem expireLease_due (member : s.mbc.station = .member) (due : claimIsDue (leaseOut s) = true) :
    expireLease s = requested (leaseOut s) .claim := by
  rw [expireLease_eq member]
  exact (if_pos due).trans (postRequest_eq_requested (by exact member ▸ rfl))

theorem expireLease_not (member : s.mbc.station = .member) (calm : ¬ claimIsDue (leaseOut s) = true) :
    expireLease s = leaseOut s := by
  rw [expireLease_eq member]
  exact if_neg calm

theorem expireLease_alike (member : s.mbc.station = .member) (x : State) :
    Alike (expireLease s) (expireLease (alikeTo s x)) := by
  by_cases due : claimIsDue (leaseOut s) = true
  · rw [expireLease_due member due, expireLease_due (by exact member) (by exact due)]
    rfl
  · rw [expireLease_not member due, expireLease_not (by exact member) (by exact due)]
    rfl

theorem expireLease_uncounted (member : s.mbc.station = .member) : expireLease { s with plu.counting := false } =
    withCounts (expireLease s) 0 s.plu.age false := by
  by_cases due : claimIsDue (leaseOut s) = true
  · rw [expireLease_due member due, expireLease_due (by exact member) (by exact due)]
    rfl
  · rw [expireLease_not member due, expireLease_not (by exact member) (by exact due)]
    rfl

/-- A heartbeat that is due sets the CLAIM request alone: no CLAIM of the station is in flight. -/
theorem heartbeat_claim (due : heartbeatDue s = true) : postRequest s .claim = withClaim s true := by
  simp only [heartbeatDue, Bool.and_eq_true, beq_iff_eq, Bool.not_eq_true'] at due
  obtain ⟨⟨⟨⟨member, -⟩, -⟩, -⟩, flight⟩ := due
  have same : renew s.tli.flight .claim = s.tli.flight := by
    cases held : s.tli.flight with
    | none => rfl
    | some f =>
      have other : f.kind ≠ .claim := by simpa [flightOf, held] using flight
      simp [renew, other]
  rw [postRequest, if_pos (by exact member ▸ rfl), same]
  rfl

theorem planCount_eq (made : s.plu.counting = true) (member : s.mbc.station = .member) :
    planCount s = ageStep (withCounts (leaseRun s) (s.plu.lease - 1) s.plu.age false) := by
  have step : leaseStep { s with plu.counting := false } = withCounts (leaseRun s) (s.plu.lease - 1) s.plu.age false := by
    rw [leaseStep, leaseRun]
    by_cases last : s.plu.lease = 1
    · rw [if_pos (by exact last), if_pos last, expireLease_uncounted member, last]
    · rw [if_neg (by exact last), if_neg last]
      rfl
  rw [planCount, if_pos ⟨made, member⟩]
  exact congrArg ageStep step

/-- The counts of a MEMBER's boundary (R115, R118, R119). -/
theorem planCount_member (made : s.plu.counting = true) (member : s.mbc.station = .member) : ∃ b,
    planCount s = withClaim (withCounts (leaseRun s) (s.plu.lease - 1) (min (s.plu.age + 1) 255) false) b ∧
    ((leaseRun s).tli.requests.claim = true → b = true) ∧
    (b = true → (leaseRun s).tli.requests.claim = true ∨ min (s.plu.age + 1) 255 = 8) := by
  rw [planCount_eq made member, ageStep]
  by_cases due : heartbeatDue
      (withCounts (leaseRun s) (s.plu.lease - 1) (min (s.plu.age + 1) 255) false) = true
  · refine ⟨true, (if_pos (by exact due)).trans (heartbeat_claim due), fun _ => rfl, fun _ => .inr ?_⟩
    simp only [heartbeatDue, Bool.and_eq_true, beq_iff_eq] at due
    exact due.1.1.1.2
  · exact ⟨_, (if_neg (by exact due)), id, .inl⟩

/-! ### The switch of a MEMBER with no peer overdue -/

/-- The MEMBER that its switch lists, at the switch (R62, R99, R116). -/
def seatedMember (s : State) (v : View) : State :=
  if listsNew v.members s.cfg.id then requested (zeroPublished (appended (seatedOn s v) (viewChanged s v))) .claim
  else appended (seatedOn s v) (viewChanged s v)

/-- The MEMBER that its switch does not list (R62). -/
def excludedBy (s : State) (v : View) : State :=
  zeroPublished (memberToAligning (appended { s with mbc := { s.mbc with current := some v, pending := none } }
    { kind := .excluded, cycle := some s.cyt.cycle, station := none, detail := some { code := 0, value := v.epoch.toNat } }))

/-- The part at the end of the boundary of a MEMBER's switch to `v`. -/
def switchedTo (s : State) (v : View) : State :=
  if lists v.members s.cfg.id then plannedOn (seatedMember s v) v else excludedBy s v

theorem seatedMember_kept (s : State) (v : View) : (seatedMember s v).mbc =
      { s.mbc with current := some v, pending := none } ∧ (seatedMember s v).cyt = s.cyt ∧
    (seatedMember s v).peers = (tableSwitch s v).peers ∧ (seatedMember s v).plu.lease = s.plu.lease ∧
    (seatedMember s v).plu.age = s.plu.age ∧ (seatedMember s v).plu.counting = s.plu.counting := by
  rw [seatedMember]
  split <;> exact ⟨rfl, rfl, rfl, rfl, rfl, rfl⟩

theorem switchView_switchedTo (member : s.mbc.station = .member) (held : s.mbc.pending = some p)
    (heard : ∀ p ∈ s.peers, p.silence < 32) :
    finishBoundary (lossTest (switchView s)) = switchedTo s p.view ∧ ended (switchView s) = switchedTo s p.view := by
  cases listed : lists p.view.members s.cfg.id
  · rw [switchView_excluded member held listed, switchedTo, if_neg (by simp [listed])]
    exact ⟨finishBoundary_lossTest_outside (by rfl), ended_outside (by rfl)
      (by exact demote_silence fun p hp => (heard p hp).trans (by decide))⟩
  · have switched : switchView s = seatedMember s p.view := switchView_member member held listed
    obtain ⟨mbc, -, peers, -⟩ := seatedMember_kept s p.view
    have heard_ : ∀ q ∈ (seatedMember s p.view).peers, q.silence < 32 := by
      rw [peers]
      exact tableSwitch_silence heard (by decide) p.view
    have planned : finishBoundary (seatedMember s p.view) = plannedOn (seatedMember s p.view) p.view :=
      finishBoundary_grouped (by rw [mbc, member]; rfl) (by rw [mbc])
    rw [switched, ended_still heard_, lossTest_still heard_, planned, switchedTo, if_pos listed]
    exact ⟨rfl, rfl⟩

theorem plannedOn_alike (h : Alike s t) (v : View) : Alike (plannedOn s v) (plannedOn t v) := by
  refine h.congr (f := (plannedOn · v)) fun x => ?_
  have plan : planOf (alikeTo s x) v = planOf s v :=
    PlansAs.planOf (s := s) (t := alikeTo s x) ⟨rfl, rfl, rfl, rfl, rfl⟩ v
  show Alike (plannedOn s v) (plannedOn (alikeTo s x) v)
  rw [plannedOn, plannedOn, plan]
  rfl

theorem seatedMember_alike (h : Alike s t) (v : View) : Alike (seatedMember s v) (seatedMember t v) := by
  refine h.congr (f := (seatedMember · v)) fun x => ?_
  show Alike (seatedMember s v) (seatedMember (alikeTo s x) v)
  rw [seatedMember, seatedMember]
  by_cases new_ : listsNew v.members s.cfg.id = true
  · rw [if_pos new_, if_pos (by exact new_)]
    rfl
  · rw [if_neg new_, if_neg (by exact new_)]
    rfl

theorem excludedBy_alike (h : Alike s t) (v : View) : Alike (excludedBy s v) (excludedBy t v) :=
  h.congr (f := (excludedBy · v)) fun _ => rfl

theorem switchedTo_alike (h : Alike s t) (v : View) : Alike (switchedTo s v) (switchedTo t v) := by
  rw [switchedTo, switchedTo, h.cfg]
  split
  · exact plannedOn_alike (seatedMember_alike h v) v
  · exact excludedBy_alike h v

theorem backedOff_alike (h : Alike s t) : Alike (backedOff s) (backedOff t) := by
  refine h.congr (f := backedOff) fun x => ?_
  rw [backedOff, backedOff]
  cases held : s.mbc.backoff with
  | none =>
    rw [show (alikeTo s x).mbc.backoff = none from held]
    rfl
  | some n =>
    rw [show (alikeTo s x).mbc.backoff = some n from held]
    dsimp only
    split <;> rfl

/-! ### A CLAIM request through the switch -/

theorem backedOff_withClaim (s : State) (b : Bool) : backedOff (withClaim s b) = withClaim (backedOff s) b := by
  rw [backedOff, backedOff]
  cases held : s.mbc.backoff with
  | none =>
    rw [show (withClaim s b).mbc.backoff = none from held]
  | some n =>
    rw [show (withClaim s b).mbc.backoff = some n from held]
    dsimp only
    split
    · rfl
    · simp [withClaim, requested]

theorem seatedMember_withClaim (s : State) (v : View) (b : Bool) : seatedMember (withClaim s b) v =
    withClaim (seatedMember s v) (b || listsNew v.members s.cfg.id) := by
  rw [seatedMember, seatedMember]
  cases new_ : listsNew v.members s.cfg.id
  · rw [if_neg (by exact new_ ▸ Bool.false_ne_true), if_neg (by simp), Bool.or_false]
    rfl
  · rw [if_pos (by exact new_), if_pos rfl]
    simp [withClaim, requested, appended, seatedOn, zeroPublished, viewChanged, tableSwitch]

theorem plannedOn_withClaim (s : State) (v : View) (b : Bool) :
    plannedOn (withClaim s b) v = withClaim (plannedOn s v) b := by
  have plan : planOf (withClaim s b) v = planOf s v :=
    PlansAs.planOf (s := s) (t := withClaim s b) ⟨rfl, rfl, rfl, rfl, rfl⟩ v
  rw [plannedOn, plan]
  rfl

theorem seatedMember_claim (s : State) (v : View) :
    (seatedMember s v).tli.requests.claim = (s.tli.requests.claim || listsNew v.members s.cfg.id) := by
  rw [seatedMember]
  cases new_ : listsNew v.members s.cfg.id <;> simp [requested, zeroPublished, appended, seatedOn]

section
variable (listed : lists v.members s.cfg.id = true)
include listed

theorem switchedTo_listed : switchedTo s v = plannedOn (seatedMember s v) v := if_pos listed

theorem switchedTo_claim : (switchedTo s v).tli.requests.claim =
    (s.tli.requests.claim || listsNew v.members s.cfg.id) := by
  rw [switchedTo_listed listed]
  exact seatedMember_claim s v

theorem switchedTo_withClaim (b : Bool) : switchedTo (withClaim s b) v =
    withClaim (switchedTo s v) (b || listsNew v.members s.cfg.id) := by
  rw [switchedTo_listed listed, switchedTo_listed (by exact listed), seatedMember_withClaim, plannedOn_withClaim]

theorem switchedTo_member (member : s.mbc.station = .member) :
    (switchedTo s v).mbc.station = .member ∧ (switchedTo s v).cyt = s.cyt := by
  obtain ⟨mbc, cyt, -⟩ := seatedMember_kept s v
  rw [switchedTo_listed listed]
  exact ⟨((congrArg Membership.station mbc :) : _ = s.mbc.station).trans member, cyt⟩

end

section
variable (unlisted : lists v.members s.cfg.id = false)
include unlisted

theorem switchedTo_unlisted : switchedTo s v = excludedBy s v := if_neg (by simp [unlisted])

theorem switchedTo_excluded (b : Bool) : switchedTo (withClaim s b) v = switchedTo s v := by
  rw [switchedTo_unlisted unlisted, switchedTo_unlisted (by exact unlisted), excludedBy, excludedBy,
    memberToAligning, memberToAligning, enterAligning_eq, enterAligning_eq]
  rfl

theorem switchedTo_aligning : (switchedTo s v).mbc.station = .aligning ∧ (switchedTo s v).cyt.adopted = false ∧
    (switchedTo s v).tli.requests.claim = false := by
  rw [switchedTo_unlisted unlisted, excludedBy, memberToAligning, enterAligning_eq]
  exact ⟨rfl, rfl, rfl⟩

end

theorem switchedTo_counts (s : State) (v : View) : (switchedTo s v).plu.lease = s.plu.lease ∧
    (switchedTo s v).plu.age = s.plu.age ∧ (switchedTo s v).plu.counting = s.plu.counting := by
  rw [switchedTo]
  split
  · exact (seatedMember_kept s v).2.2.2
  · exact ⟨rfl, rfl, rfl⟩

theorem backedOff_kept (s : State) : (backedOff s).mbc.station = s.mbc.station ∧ (backedOff s).mbc.pending = s.mbc.pending ∧
    (backedOff s).cyt = s.cyt ∧ (backedOff s).cfg = s.cfg ∧ (backedOff s).peers = s.peers ∧
    (backedOff s).plu = s.plu ∧ (backedOff s).resetAsserted = s.resetAsserted ∧
    (backedOff s).tli.requests.claim = s.tli.requests.claim := by
  rw [backedOff]
  split
  · exact ⟨rfl, rfl, rfl, rfl, rfl, rfl, rfl, rfl⟩
  · split
    · exact ⟨rfl, rfl, rfl, rfl, rfl, rfl, rfl, rfl⟩
    · exact ⟨rfl, rfl, rfl, rfl, rfl, rfl, rfl, by simp [requested]⟩

end

end Sys2Proof.Machine

/-! ## BoundaryEndsTimers (R50, R53 to R56, R59, R60, R99, R108, R119) -/

namespace Sys2Proof.Machine

section
variable {s t u q a e w x y : State} {v : View} {p : PendingView} {order : BoundaryOrder} {c : Instr} {high : Bool}

/-! ### The boundary of a MEMBER's switch -/

/-- A MEMBER at a boundary that is the switch of its pending view `p`, with no peer overdue. -/
structure AtSwitch (s : State) (p : PendingView) : Prop where
  released : s.resetAsserted = false
  member : s.mbc.station = .member
  held : s.mbc.pending = some p
  fresh : s.cyt.begun = true
  now : Reached s.cyt.cycle p
  heard : ∀ q ∈ s.peers, q.silence < 32

theorem AtSwitch.alike (h : AtSwitch s p) (k : Alike s t) : AtSwitch t p where
  released := k.released.trans h.released
  member := (congrArg Membership.station k.mbc).trans h.member
  held := (congrArg Membership.pending k.mbc).trans h.held
  fresh := k.begun.trans h.fresh
  now := by rw [k.cycle]; exact h.now
  heard := by rw [k.peers]; exact h.heard

theorem AtSwitch.counting (h : AtSwitch s p) (k : Counting s t) : AtSwitch t p := by
  rw [k.eq]
  exact { h with }

theorem AtSwitch.backedOff (h : AtSwitch s p) : AtSwitch (Machine.backedOff s) p := by
  obtain ⟨station, pending_, cyt, -, peers, -, released, -⟩ := backedOff_kept s
  exact {
    released := released.trans h.released
    member := station.trans h.member
    held := pending_.trans h.held
    fresh := (congrArg CycleTimer.begun cyt).trans h.fresh
    now := by rw [cyt]; exact h.now
    heard := by rw [peers]; exact h.heard }

theorem AtSwitch.due (h : AtSwitch s p) : viewSwitchDue s = true :=
  viewSwitchDue_of h.fresh h.held h.now (h.member ▸ rfl)

theorem AtSwitch.acts (h : AtSwitch s p) (high : Bool) :
    ended (controllerBoundary high s) = switchedTo (Machine.backedOff s) p.view := by
  rw [acts_member h.member, whenDue_of _ h.backedOff.due]
  exact (switchView_switchedTo h.backedOff.member h.backedOff.held h.backedOff.heard).2

theorem AtSwitch.row (h : AtSwitch s p) : exec .viewSwitch s = .next (settle (switchedTo s p.view)) := by
  rw [exec_due (c := .viewSwitch) rfl h.released h.due]
  exact congrArg (fun t => Host.Outcome.next (settle t)) (switchView_switchedTo h.member h.held h.heard).1

/-! ### The lease that runs out at a boundary, as a row (R119) -/

open Classical in
/-- The part after the row LEASE_EXPIRY where the lease runs out. -/
noncomputable def ranOut (due : Prop) (a : State) : State := if due then settle (expireLease (uncounted a)) else a

theorem leaseRunsOut (due : Prop) (can : due → a.resetAsserted = false ∧ a.mbc.station = .member ∧
    a.cyt.begun = true ∧ a.plu.lease = 1) : LeaseRunsOut due a (ranOut due a) := by
  refine ⟨fun is => ?_, fun not_ => if_neg not_⟩
  obtain ⟨released, member, fresh, lease⟩ := can is
  have due_ : leaseExpiryDue (uncounted a) = true := by simp [leaseExpiryDue, uncounted, member, fresh, lease]
  rw [ranOut, if_pos is]
  exact exec_due (c := .leaseExpiry) rfl released due_

theorem leaseRunsOut_not {due : Prop} (not_ : ¬ due) : LeaseRunsOut due a a := ⟨fun is => absurd is not_, fun _ => rfl⟩

theorem ranOut_alike {due : Prop} (member : s.mbc.station = .member) (h : Alike s t) (iff_ : due ↔ s.plu.lease = 1) :
    Alike (leaseRun s) (ranOut due t) := by
  rw [leaseRun, ranOut]
  by_cases last : s.plu.lease = 1
  · rw [if_pos last, if_pos (iff_.mpr last)]
    have same : Alike (expireLease s) (expireLease (uncounted t)) :=
      Alike.congr (t := uncounted t) (h.trans rfl) (expireLease_alike member)
    exact same.trans (alike_settle _)
  · rw [if_neg last, if_neg (fun is => last (iff_.mp is))]
    exact h

theorem ranOut_kept (due : Prop) (a : State) : (ranOut due a).cyt = a.cyt ∧ (ranOut due a).cfg = a.cfg := by
  have counts := (counting_expireLease (uncounted a)).eq
  rw [ranOut]
  split
  · exact ⟨(congrArg State.cyt counts :), (congrArg State.cfg counts :)⟩
  · exact ⟨rfl, rfl⟩

/-! ### The counts at the end of that boundary -/

/-- The part `t` is `x` with the lease and the age counted to these values, and with a CLAIM request where `x` has one or
the age has come to 8. -/
structure CountsAt (x t : State) (lease age : Nat) : Prop where
  eq : t = settle { x with
    cyt := { x.cyt with lockCount := t.cyt.lockCount }
    tli := { x.tli with requests := { x.tli.requests with claim := t.tli.requests.claim } }
    plu := { x.plu with lease := lease, age := age, counting := false } }
  kept : x.tli.requests.claim = true → t.tli.requests.claim = true
  due : t.tli.requests.claim = true → x.tli.requests.claim = true ∨ t.plu.age = 8

theorem countsAt_of {b : Bool} (h : Alike y x) (k : Nat) (counting : y.plu.counting = false)
    (kept : y.tli.requests.claim = true → b = true)
    (due : b = true → y.tli.requests.claim = true ∨ y.plu.age = 8) :
    CountsAt x (settle (withLock (withClaim y b) k)) y.plu.lease y.plu.age := by
  rw [← h.claim] at kept due
  refine ⟨?_, kept, due⟩
  rw [h.eq, ← counting]
  rfl

theorem withClaim_same (s : State) : withClaim s s.tli.requests.claim = s := rfl

/-- The counts of a station that is no MEMBER after its switch: none. -/
theorem countsAt_none (other : y.mbc.station ≠ .member) (h : Alike y x) (k : Nat) :
    CountsAt x (settle (withLock (planCount y) k)) y.plu.lease y.plu.age := by
  have none_ : planCount y = withClaim { y with plu.counting := false } y.tli.requests.claim :=
    if_neg fun is => other is.2
  rw [none_]
  exact countsAt_of (y := { y with plu.counting := false }) (Alike.trans (t := y) rfl h) k rfl id .inl

/-- The counts of a MEMBER after its switch. -/
theorem countsAt_last (made : y.plu.counting = true) (member : y.mbc.station = .member) (h : Alike (leaseRun y) x) (k : Nat) :
    CountsAt x (settle (withLock (planCount y) k)) (y.plu.lease - 1) (min (y.plu.age + 1) 255) := by
  obtain ⟨b, counts, kept, due⟩ := planCount_member made member
  rw [counts]
  exact countsAt_of (y := withCounts (leaseRun y) (y.plu.lease - 1) (min (y.plu.age + 1) 255) false)
    (Alike.trans (t := leaseRun y) rfl h) k rfl kept due

/-- The counts of a MEMBER before its switch. -/
theorem countsAt_first (made : y.plu.counting = true) (member : y.mbc.station = .member) (h : Alike (leaseRun y) e) (k : Nat) :
    CountsAt (settle (switchedTo (backedOff e) v)) (settle (withLock (switchedTo (backedOff (planCount y)) v) k))
      (y.plu.lease - 1) (min (y.plu.age + 1) 255) := by
  obtain ⟨b, counts, kept, due⟩ := planCount_member made member
  let z := withCounts (leaseRun y) (y.plu.lease - 1) (min (y.plu.age + 1) 255) false
  have same : Alike (switchedTo (backedOff z) v) (settle (switchedTo (backedOff e) v)) :=
    (switchedTo_alike (backedOff_alike (s := z) (Alike.trans (t := leaseRun y) rfl h)) v).trans (alike_settle _)
  obtain ⟨-, -, -, -, -, plu, -, claim⟩ := backedOff_kept z
  obtain ⟨lease, age, counting⟩ := switchedTo_counts (backedOff z) v
  rw [plu] at lease age counting
  rw [counts, backedOff_withClaim]
  have ends : ∀ d, ((switchedTo (backedOff z) v).tli.requests.claim = true → d = true) →
      (d = true → (switchedTo (backedOff z) v).tli.requests.claim = true ∨ min (y.plu.age + 1) 255 = 8) →
      CountsAt (settle (switchedTo (backedOff e) v)) (settle (withLock (withClaim (switchedTo (backedOff z) v) d) k))
        (y.plu.lease - 1) (min (y.plu.age + 1) 255) := fun d kept due => by
    have at_ := countsAt_of same k counting kept (fun is => (due is).imp id age.trans)
    rw [lease, age] at at_
    exact at_
  cases listed : lists v.members (backedOff z).cfg.id
  · rw [switchedTo_excluded (by exact listed), ← withClaim_same (switchedTo _ v)]
    exact ends _ id .inl
  · rw [switchedTo_withClaim (by exact listed)]
    have was := switchedTo_claim (s := backedOff z) (v := v) listed
    rw [claim] at was
    refine ends _ (fun is => ?_) fun is => ?_
    · rw [was, Bool.or_eq_true] at is
      exact Bool.or_eq_true _ _ ▸ is.imp kept id
    · rw [was, Bool.or_eq_true]
      rcases (Bool.or_eq_true _ _).mp is with is | is
      · exact (due is).imp .inl id
      · exact .inl (.inr is)

/-! ### The command at that boundary -/

theorem atSwitch_counted (begins : BeginsCycle order s c u) (member : u.mbc.station = .member)
    (held : u.mbc.pending = some p) (now : Reached u.cyt.cycle p) (heard : ∀ p ∈ (boundaryCounted u).peers, p.silence < 32)
    (n : Nat) : AtSwitch (uncounted (withLock (boundaryCounted u) n)) p :=
  ⟨begins.released, member, held, begins.begun, now, heard⟩

/-- A boundary of a MEMBER's switch, by the order of the counts (R119). -/
theorem boundary_switch (none_ : order.readout = none) (member : u.mbc.station = .member) (n : Nat)
    (at_ : AtSwitch (uncounted (withLock (boundaryCounted u) n)) p) (high : Bool) :
    boundary order high (Machine.begun (withLock u n)) =
      if order.leaseFirst then
        switchedTo (backedOff (planCount (uncounted (withLock (boundaryCounted u) n)))) p.view
      else planCount (switchedTo (backedOff (uncounted (withLock (boundaryCounted u) n))) p.view) := by
  rw [boundary_eq none_, counted_begun member, (at_.counting (counting_planCount _)).acts, at_.acts]

/-- An excluded MEMBER stands in ALIGNING with the adopted flag clear, and one listed in MEMBER. -/
theorem boundary_switch_place (none_ : order.readout = none) (member : u.mbc.station = .member) (n : Nat)
    (at_ : AtSwitch (uncounted (withLock (boundaryCounted u) n)) p) (high : Bool) :
    (lists p.view.members u.cfg.id = false → (boundary order high (Machine.begun (withLock u n))).cyt.adopted = false) ∧
    (lists p.view.members u.cfg.id = true →
      (boundary order high (Machine.begun (withLock u n))).mbc.station = .member) := by
  have place : ∀ w, AtSwitch w p → w.cfg = u.cfg →
      (lists p.view.members u.cfg.id = false → (switchedTo (backedOff w) p.view).cyt.adopted = false) ∧
      (lists p.view.members u.cfg.id = true → (switchedTo (backedOff w) p.view).mbc.station = .member) := fun w at_ same => by
    have cfg : (backedOff w).cfg = u.cfg := (backedOff_kept w).2.2.2.1.trans same
    rw [← cfg]
    exact ⟨fun unlisted => (switchedTo_aligning unlisted).2.1,
      fun listed => (switchedTo_member listed at_.backedOff.member).1⟩
  have counts := fun w => counting_planCount w
  rw [boundary_switch none_ member n at_]
  split
  · exact place _ (at_.counting (counts _)) (by rw [(counts _).eq]; rfl)
  · rw [(counts _).eq]
    exact place _ at_ rfl

theorem switchedTo_released (s : State) (v : View) : (switchedTo s v).resetAsserted = s.resetAsserted := by
  have seated_ : (seatedMember s v).resetAsserted = s.resetAsserted := by
    rw [seatedMember]
    split <;> rfl
  rw [switchedTo]
  split
  · exact seated_
  · rfl

theorem AtSwitch.leaseRun (h : AtSwitch s p) : AtSwitch (Machine.leaseRun s) p := by
  rw [Machine.leaseRun]
  split
  · exact h.counting (counting_expireLease s)
  · exact h

theorem BeginsCycle.memberSwitches (begins : BeginsCycle order s c u) (member : u.mbc.station = .member)
    (held : u.mbc.pending = some p) (now : Reached u.cyt.cycle p) (heard : ∀ p ∈ (boundaryCounted u).peers, p.silence < 32) :
    ∃ e r x t, LeaseRunsOut (order.leaseFirst = true ∧ u.plu.lease = 1) (boundaryCounted u) e ∧
      exec .viewSwitch (backedOff e) = .next r ∧
      LeaseRunsOut (order.leaseFirst = false ∧ u.plu.lease = 1 ∧ lists p.view.members u.cfg.id = true) r x ∧
      exec c s = .next t ∧ (lists p.view.members u.cfg.id = true → t.cyt.lockCount = r.cyt.lockCount) ∧
      CountsAt x t
        (if order.leaseFirst = true ∨ lists p.view.members u.cfg.id = true then u.plu.lease - 1 else u.plu.lease)
        (if order.leaseFirst = true ∨ lists p.view.members u.cfg.id = true then min (u.plu.age + 1) 255 else u.plu.age) := by
  have at_ := atSwitch_counted begins member held now heard
  have place := fun n high => boundary_switch_place begins.1 member n (at_ n) high
  obtain ⟨high, n, k, row, lock⟩ := begins.ofMember (begins.station.symm.trans member) fun high n aligning => by
    cases listed : lists p.view.members u.cfg.id
    · exact (place n high).1 listed
    · rw [(place n high).2 listed] at aligning
      cases aligning
  have kept : lists p.view.members u.cfg.id = true → k = u.cyt.lockCount := fun listed => lock ((place n high).2 listed)
  rw [boundary_switch begins.1 member n (at_ n)] at row
  let w := uncounted (withLock (boundaryCounted u) n)
  have plain : Alike w (boundaryCounted u) := rfl
  cases first : order.leaseFirst
  · rw [first, if_neg Bool.false_ne_true] at row
    have at_q : AtSwitch (boundaryCounted u) p := (at_ n).alike plain
    have same : Alike (switchedTo (backedOff w) p.view) (settle (switchedTo (backedOff (boundaryCounted u)) p.view)) :=
      (switchedTo_alike (backedOff_alike plain) _).trans (alike_settle _)
    obtain ⟨-, -, cyt, cfg, -, plu, released, -⟩ := backedOff_kept (boundaryCounted u)
    obtain ⟨lease_q, -⟩ := switchedTo_counts (backedOff (boundaryCounted u)) p.view
    obtain ⟨-, -, -, cfg_w, -, plu_w, -⟩ := backedOff_kept w
    obtain ⟨lease, age, counting⟩ := switchedTo_counts (backedOff w) p.view
    rw [plu_w] at lease age counting
    cases listed : lists p.view.members u.cfg.id
    · obtain ⟨aligning, -⟩ := switchedTo_aligning (s := backedOff w) (v := p.view) (by rw [cfg_w]; exact listed)
      have counts := countsAt_none (by simp [aligning]) same k
      rw [lease, age] at counts
      have counts : CountsAt _ _ u.plu.lease u.plu.age := counts
      exact ⟨_, _, _, _, leaseRunsOut_not nofun, at_q.backedOff.row, leaseRunsOut_not nofun,
        row, nofun, by simpa using counts⟩
    · obtain ⟨on, -⟩ := switchedTo_member (s := backedOff w) (v := p.view) (by rw [cfg_w]; exact listed)
        (at_ n).backedOff.member
      obtain ⟨on_q, timer⟩ := switchedTo_member (s := backedOff (boundaryCounted u)) (v := p.view)
        (by rw [cfg]; exact listed) at_q.backedOff.member
      rw [cyt] at timer
      rw [plu] at lease_q
      have ran := ranOut_alike (due := false = false ∧ u.plu.lease = 1 ∧ true = true) on same
        (by rw [lease]; simp; rfl)
      have counts := countsAt_last counting on ran k
      rw [lease, age] at counts
      have counts : CountsAt _ _ (u.plu.lease - 1) (min (u.plu.age + 1) 255) := counts
      refine ⟨_, _, _, _, leaseRunsOut_not nofun, at_q.backedOff.row, leaseRunsOut _ fun is => ?_, row,
        fun _ => ?_, by simpa using counts⟩
      · exact ⟨(switchedTo_released ..).trans (released.trans begins.released), on_q,
          (congrArg CycleTimer.begun timer).trans begins.begun, lease_q.trans is.2.1⟩
      · exact (kept listed).trans (congrArg CycleTimer.lockCount timer).symm
  · rw [first, if_pos rfl] at row
    have ran := ranOut_alike (due := order.leaseFirst = true ∧ u.plu.lease = 1) (at_ n).member plain (by simp [first]; rfl)
    have at_e := (at_ n).leaseRun.alike ran
    have counts : CountsAt _ _ (u.plu.lease - 1) (min (u.plu.age + 1) 255) :=
      countsAt_first (v := p.view) rfl (at_ n).member ran k
    rw [first] at ran at_e counts
    refine ⟨_, _, _, _, leaseRunsOut _ fun is => ⟨begins.released, member, begins.begun, is.2⟩, at_e.backedOff.row,
      leaseRunsOut_not nofun, row, fun listed => ?_, by simpa using counts⟩
    obtain ⟨-, -, cyt, cfg, -⟩ := backedOff_kept (ranOut (true = true ∧ u.plu.lease = 1) (boundaryCounted u))
    obtain ⟨cyt_, cfg_⟩ := ranOut_kept (true = true ∧ u.plu.lease = 1) (boundaryCounted u)
    obtain ⟨-, timer⟩ := switchedTo_member (v := p.view) (by rw [cfg, cfg_]; exact listed) at_e.backedOff.member
    exact (kept listed).trans (congrArg CycleTimer.lockCount (timer.trans (cyt.trans cyt_))).symm

/-- Settles O31. -/
theorem boundaryEndsTimers : Obligations.BoundaryEndsTimers := by
  rintro order s c u q begins rfl heard
  have heard_ := begins.heard heard
  have quiet : ∀ p ∈ (boundaryCounted u).peers, p.silence < 64 := fun p hp => (heard_ p hp).trans (by decide)
  rw [← begins.mbc, ← begins.plu, ← begins.cfg]
  refine ⟨fun aligning count => begins.alignEnds aligning count quiet, fun hailing stays count => ?_,
    fun leaving stays count => begins.leaveEnds leaving count stays quiet,
    fun wraps listening count clear high => begins.founds wraps listening count clear high heard_,
    fun p leaving held few now => ?_, fun p leaving held count now => ?_, fun p member held now => ?_,
    fun p hailing held listed now => begins.admits held heard_ hailing now listed,
    fun p hailing held stays => ⟨begins.hailingExamines held heard_ stays hailing,
      begins.hailingExaminesLast held heard_ stays hailing⟩,
    fun p aligning held now => begins.aligningExamines held heard_ aligning (or_assoc.mpr now)⟩
  · exact begins.intervalEnds (o := u.mbc.observed) hailing count quiet fun n =>
      whenDue_not _ (NoSwitchDue.observed_not (s := withLock (boundaryCounted u) n) stays)
  · have due := begins.leavingSwitches leaving held now u.cyt.lockCount
    refine Eq.trans ?_ (viewSwitch_leaving (s := leaveCounted (boundaryCounted u)) leaving held heard_ due
      begins.released).symm
    cases listed : lists p.view.members u.cfg.id
    · rw [if_neg (by exact listed ▸ Bool.false_ne_true)]
      exact begins.leavingLeft leaving held now heard_ listed
    · rw [if_pos (by exact listed)]
      exact begins.leavingStays leaving held now heard_ listed few
  · have due := begins.leavingSwitches leaving held now u.cyt.lockCount
    have row := viewSwitch_leaving (s := leaveCounted (boundaryCounted u)) leaving held heard_ due begins.released
    have over_ : { boundaryCounted u with mbc := { (boundaryCounted u).mbc with leaveCount := 32 } } =
        leaveCounted (boundaryCounted u) :=
      congrArg (fun n => { boundaryCounted u with mbc := { (boundaryCounted u).mbc with leaveCount := n } })
        (congrArg (· + 1) count).symm
    refine ⟨_, (congrArg (exec .viewSwitch) over_).trans row, fun unlisted => ?_, fun listed => ?_⟩
    · rw [if_neg (by exact unlisted ▸ Bool.false_ne_true)]
      exact ⟨rfl, begins.leavingLeft leaving held now heard_ unlisted⟩
    · rw [if_pos (by exact listed)]
      exact begins.leavingTimesOut leaving held now heard_ listed count
  · obtain ⟨e, r, x, t, first, switch, last, row, lock, counts⟩ := begins.memberSwitches member held now heard_
    exact ⟨e, r, x, t, first, switch, last, row, lock, counts.eq, counts.kept, counts.due⟩

end

end Sys2Proof.Machine

/-! ## What a boundary leaves of the Peer Table (R47, R67, R74, R75, R77, R84) -/

namespace Sys2Proof.Machine

section
variable {s t u q w x y : State} {v : View} {p : PendingView} {order : BoundaryOrder} {c : Instr} {high : Bool}

/-! ### The acts of a boundary, readouts among them -/

/-- What the Membership Controller reads of a part at a boundary stands from `s` to `t`. -/
structure Handed (s t : State) : Prop where
  mbc : t.mbc = s.mbc
  cyt : t.cyt = s.cyt
  cfg : t.cfg = s.cfg
  peers : t.peers = s.peers

theorem Handed.trans (h : Handed s t) (k : Handed t u) : Handed s u :=
  ⟨k.mbc.trans h.mbc, k.cyt.trans h.cyt, k.cfg.trans h.cfg, k.peers.trans h.peers⟩

theorem Handed.refl (s : State) : Handed s s := ⟨rfl, rfl, rfl, rfl⟩

/-- A readout within a boundary moves the port alone. -/
theorem readoutAt_port (order : BoundaryOrder) (k : Nat) (s : State) : ∃ port, readoutAt order k s = { s with hpt := port } := by
  unfold readoutAt
  split
  · split
    next due => exact byteComplete_readout due.2
    · exact ⟨s.hpt, rfl⟩
  · exact ⟨s.hpt, rfl⟩

theorem handed_readoutAt (order : BoundaryOrder) (k : Nat) (s : State) : Handed s (readoutAt order k s) := by
  obtain ⟨port, moved⟩ := readoutAt_port order k s
  rw [moved]
  exact ⟨rfl, rfl, rfl, rfl⟩

theorem handed_planCount (s : State) : Handed s (planCount s) := by
  rw [(counting_planCount s).eq]
  exact ⟨rfl, rfl, rfl, rfl⟩

theorem handed_counted (h : Handed s t) : Handed (counted s) (counted t) := by
  rw [counted_eq, counted_eq]
  exact ⟨h.mbc, h.cyt, h.cfg, by simp only [boundaryCounted, h.cyt, h.peers]⟩

/-- A boundary's work from the Membership Controller on: the part `w` that the controller finds, and the part `d` that the
tests of the Peer Table find. -/
theorem boundary_acts (order : BoundaryOrder) (high : Bool) (s : State) : ∃ w d, Handed (counted s) w ∧
    Aside (controllerBoundary high w) d ∧ Aside (purgeTest (lossTest d)) (boundary order high s) := by
  have read := fun k t => handed_readoutAt order k t
  have aside := fun k t => aside_readoutAt order k t
  refine ⟨readoutAt order 2 (if order.leaseFirst then planCount (readoutAt order 1 (counted (readoutAt order 0 s)))
    else readoutAt order 1 (counted (readoutAt order 0 s))), _, ?_, aside 3 _, ?_⟩
  · refine ((handed_counted (read 0 s)).trans (read 1 _)).trans (.trans ?_ (read 2 _))
    split
    · exact handed_planCount _
    · exact .refl _
  · have ends := fun t => (aside 4 t).trans ((aside_finishBoundary _).trans (aside 5 _))
    exact .ite (ends _) ((ends _).trans (aside_planCount _))

/-! ### After the tests (R75, R77) -/

/-- No entry stands in the table past its time: no HEARD entry silent for 64 boundaries where the station runs, no MEMBER
entry silent for 32 in MEMBER and LEAVING. -/
structure Tested (s : State) : Prop where
  heard : s.mbc.station.running = true → ∀ p ∈ s.peers, p.kind = .heard → p.silence < 64
  member : s.mbc.station.inGroup = true → ∀ p ∈ s.peers, p.kind = .member → p.silence < 32

theorem Tested.aside (h : Tested s) (k : Aside s t) : Tested t := by
  refine ⟨?_, ?_⟩
  · rw [k.station, k.peers]
    exact h.heard
  · rw [k.station, k.peers]
    exact h.member

/-- Marking the entries of a list leaves the MEMBER entries of other stations alone. -/
theorem mem_markLost {lost : List Peer} {q : Peer} (member : q.kind = .member) (held : q ∈ (lost.foldl markLost s).peers) :
    q ∈ s.peers ∧ ∀ p ∈ lost, p.id ≠ q.id := by
  induction lost generalizing s with
  | nil => exact ⟨held, by simp⟩
  | cons p lost ih =>
    obtain ⟨marked, others⟩ := ih held
    obtain ⟨r, hr, is⟩ := List.mem_map.mp (show q ∈ updatePeer s.peers p.id _ from marked)
    by_cases same : r.id = p.id
    · rw [if_pos (by simpa using same)] at is
      rw [← is] at member
      cases member
    · rw [if_neg (by simpa using same)] at is
      subst is
      exact ⟨hr, List.forall_mem_cons.mpr ⟨fun is => same is.symm, others⟩⟩

theorem placeLost_peers (ids : List Nat) (s : State) : (ids.foldl placeLost s).peers = s.peers := by
  induction ids generalizing s with
  | nil => rfl
  | cons id ids ih =>
    refine (ih (placeLost s id)).trans ?_
    rw [placeLost]
    split
    · exact (confined_placeChange s id (.remove .lost)).peers
    · rfl

theorem lossTest_tested (grouped : s.mbc.station.inGroup = true) {q : Peer} (held : q ∈ (lossTest s).peers)
    (member : q.kind = .member) : q.silence < 32 := by
  rw [lossTest, if_pos grouped] at held
  dsimp only at held
  rw [placeLost_peers] at held
  obtain ⟨stood, others⟩ := mem_markLost member held
  by_contra overdue
  exact others q (List.mem_filter.mpr ⟨stood, by simp [isOverdue, member]; omega⟩) rfl

theorem tests_station (s : State) : (purgeTest (lossTest s)).mbc.station = s.mbc.station := by
  have same : (purgeTest (lossTest s)).mbc = (lossTest s).mbc := by
    unfold purgeTest
    split <;> rfl
  rw [same]
  exact (congrArg (·.mbc.station) (losing_lossTest s).eq :)

theorem tested_tests (s : State) : Tested (purgeTest (lossTest s)) := by
  have station : (lossTest s).mbc.station = s.mbc.station := (congrArg (·.mbc.station) (losing_lossTest s).eq :)
  have kept : ∀ q ∈ (purgeTest (lossTest s)).peers, q ∈ (lossTest s).peers := fun q held => by
    unfold purgeTest at held
    split at held
    · exact (List.mem_filter.mp held).1
    · exact held
  refine ⟨fun runs q held is => ?_, fun grouped q held is => ?_⟩
  · rw [tests_station, ← station] at runs
    rw [purgeTest, if_pos runs] at held
    have stays := (List.mem_filter.mp held).2
    simp only [isPurgeable, is, Bool.not_eq_true', Bool.and_eq_false_iff, decide_eq_false_iff_not] at stays
    have := stays.resolve_left (by simp)
    omega
  · rw [tests_station] at grouped
    exact lossTest_tested grouped (kept q held) is

theorem tests_still (rests : s.mbc.station.running = false) : purgeTest (lossTest s) = s := by
  have outside : s.mbc.station.inGroup = false := by
    by_contra grouped
    rw [running_of_inGroup (by simpa using grouped)] at rests
    cases rests
  rw [lossTest_outside outside, purgeTest, if_neg (by simp [rests])]

theorem tested_boundary (order : BoundaryOrder) (high : Bool) (s : State) : Tested (boundary order high s) := by
  obtain ⟨w, d, -, -, ends⟩ := boundary_acts order high s
  exact (tested_tests d).aside ends

theorem tryHail_place (s : State) : (tryHail s).peers = s.peers ∧
    (tryHail s).mbc.station.running = s.mbc.station.running ∧ (tryHail s).mbc.station.inGroup = s.mbc.station.inGroup := by
  rw [tryHail_eq]
  split
  next hails =>
    rw [hails.1]
    exact ⟨rfl, rfl, rfl⟩
  next => exact ⟨rfl, rfl, rfl⟩

theorem relock_place (amount : Nat) (s : State) : (relock amount s).peers = s.peers ∧
    (relock amount s).mbc.station.running = s.mbc.station.running ∧
    (relock amount s).mbc.station.inGroup = s.mbc.station.inGroup := by
  rw [relock]
  split
  · exact tryHail_place (withLock s (lockAfter s amount))
  · exact ⟨rfl, rfl, rfl⟩

theorem Tested.relock (h : Tested s) (amount : Nat) : Tested (Machine.relock amount s) := by
  obtain ⟨peers, runs, grouped⟩ := relock_place amount s
  refine ⟨?_, ?_⟩
  · rw [peers, runs]
    exact h.heard
  · rw [peers, grouped]
    exact h.member

/-! ### After a boundary that detaches the station (R47, R67, R84) -/

/-- The entries that the detach of a boundary leaves: those HEARD at 64 are purged before it, the others demoted. -/
def detachedEntries (ps : List Peer) : List Peer := (ps.filter (fun p => !isPurgeable p)).map Peer.demote

/-- A step that detaches the station is taken after the purge, and demotes what it finds. -/
theorem purgeBefore_detaches {f : State → State} (gone : (f s).mbc.station = .detached)
    (peers : (f (purgeHeard s)).peers = (purgeHeard s).peers.map Peer.demote) :
    (purgeBefore f s).peers = detachedEntries s.peers := by
  rw [purgeBefore, if_pos gone]
  exact peers

theorem purgeBefore_runs {f : State → State} (runs : (f s).mbc.station.running = true) : purgeBefore f s = f s :=
  if_neg fun gone => by
    rw [gone] at runs
    cases runs

theorem hailInterval_detaches (hailing : s.mbc.station = .hailing)
    (rests : (purgeBefore hailInterval s).mbc.station.running = false) :
    (purgeBefore hailInterval s).peers = detachedEntries s.peers := by
  by_cases few : s.mbc.hailCount < 4
  · have again := hailInterval_again hailing few
    have runs : (hailInterval s).mbc.station.running = true := by
      rw [again]
      exact hailing ▸ rfl
    rw [purgeBefore_runs runs, runs] at rests
    cases rests
  · refine purgeBefore_detaches ?_ ?_
    · rw [hailInterval_ends hailing few]
      rfl
    · rw [hailInterval_ends (s := purgeHeard s) hailing few]
      rfl

theorem leaveTimeout_detaches (leaving : s.mbc.station = .leaving) :
    (purgeBefore (detachLeft · .leaveTimeout) s).peers = detachedEntries s.peers := by
  refine purgeBefore_detaches (f := (detachLeft · .leaveTimeout)) rfl ?_
  show (detachLeft (purgeHeard s) .leaveTimeout).peers = _
  rw [detachLeft_of_leaving (by exact leaving)]
  rfl

theorem switchView_detaches (leaving : s.mbc.station = .leaving) (held : s.mbc.pending = some p)
    (unlisted : lists p.view.members s.cfg.id = false) :
    (purgeBefore switchView s).peers = detachedEntries s.peers ∧ (purgeBefore switchView s).mbc.station = .detached := by
  have left := switchView_left leaving held unlisted
  have left_ := switchView_left (s := purgeHeard s) leaving held unlisted
  refine ⟨purgeBefore_detaches ?_ ?_, ?_⟩
  · rw [left]
    rfl
  · rw [left_]
    rfl
  · rw [purgeBefore, if_pos (by rw [left]; rfl), left_]
    rfl

/-- Outside HAILING and LEAVING no boundary detaches a running station. -/
theorem controllerBoundary_runs (runs : s.mbc.station.running = true) (hailing : s.mbc.station ≠ .hailing)
    (leaving : s.mbc.station ≠ .leaving) : (controllerBoundary high s).mbc.station.running = true := by
  rw [controllerBoundary]
  split
  next listening =>
    rw [listenBoundary, whenDue]
    split
    · rw [(found_facts _).1]
      rfl
    · exact runs
  next aligning =>
    obtain ⟨o, examined⟩ := examined_aligning aligning
    rw [alignBoundary, examined, whenDue]
    split
    · rfl
    · exact runs
  next is => exact absurd is hailing
  next member =>
    rw [memberBoundary_eq member, whenDue]
    obtain ⟨station, -⟩ := backedOff_kept s
    rw [member] at station
    split
    · cases held : (backedOff s).mbc.pending with
      | none =>
        simp [switchView, held, station, Station.running]
      | some p =>
        cases listed : lists p.view.members (backedOff s).cfg.id
        · rw [switchView_excluded station held listed]
          rfl
        · have switched : switchView (backedOff s) = seatedMember (backedOff s) p.view :=
            switchView_member station held listed
          rw [switched, (seatedMember_kept _ _).1]
          exact station ▸ rfl
    · exact station ▸ rfl
  next is => exact absurd is leaving
  next => exact runs

/-- A HAILING station's observed view moves its record alone, or admits the station. -/
theorem examined_hailing (hailing : s.mbc.station = .hailing) :
    (∃ o, whenDue observedSwitchDue switchObserved s = { s with mbc := { s.mbc with observed := o } }) ∨
    (whenDue observedSwitchDue switchObserved s).mbc.station = .member := by
  rw [whenDue]
  split
  · cases held : s.mbc.observed.pending with
    | none => exact .inl ⟨s.mbc.observed, by rw [switchObserved, held]⟩
    | some p =>
      by_cases admits : Reached s.cyt.cycle p ∧ lists p.view.members s.cfg.id = true
      · rw [switchObserved_admits hailing held admits.2 admits.1]
        exact .inr (admitTo_kept s p.view).2.2
      · refine .inl ⟨_, switchObserved_stays held ?_⟩
        by_cases now : Reached s.cyt.cycle p
        · exact .inl fun is => admits ⟨now, is.2⟩
        · exact .inr now
  · exact .inl ⟨s.mbc.observed, rfl⟩

theorem hailBoundary_detaches (hailing : s.mbc.station = .hailing)
    (rests : (hailBoundary s).mbc.station.running = false) : (hailBoundary s).peers = detachedEntries s.peers := by
  rw [hailBoundary] at rests ⊢
  obtain ⟨o, examined⟩ | member := examined_hailing hailing
  · rw [examined] at rests ⊢
    dsimp only at rests ⊢
    rw [if_pos hailing, whenDue] at rests ⊢
    split at rests
    next due =>
      rw [if_pos due]
      exact hailInterval_detaches (s := { s with mbc := { s.mbc with
        observed := o, hailInterval := s.mbc.hailInterval + 1 } }) hailing rests
    next =>
      exact nomatch (congrArg Station.running hailing).symm.trans rests
  · dsimp only at rests
    rw [if_neg (by simp [member]), member] at rests
    cases rests

theorem leavingBoundary_detaches (leaving : s.mbc.station = .leaving)
    (unlisted : ∀ p, s.mbc.pending = some p → lists p.view.members s.cfg.id = true → ¬ Reached s.cyt.cycle p)
    (rests : (leavingBoundary s).mbc.station.running = false) : (leavingBoundary s).peers = detachedEntries s.peers := by
  rw [leavingBoundary_eq] at rests ⊢
  cases due : viewSwitchDue (leaveCounted s)
  · rw [whenDue_not (due := viewSwitchDue) _ due] at rests ⊢
    unfold whenDue at rests ⊢
    split at rests
    next timeout =>
      rw [if_pos timeout]
      exact leaveTimeout_detaches (s := leaveCounted s) leaving
    next =>
      exact nomatch (congrArg Station.running leaving).symm.trans rests
  · rw [whenDue_of (due := viewSwitchDue) _ due]
    obtain ⟨p, held, now⟩ : ∃ p, s.mbc.pending = some p ∧ Reached s.cyt.cycle p := by
      simp only [viewSwitchDue, Bool.and_eq_true] at due
      split at due
      next p held => exact ⟨p, held, (reached_iff ..).mp due.2⟩
      next => cases due.2
    have out : lists p.view.members s.cfg.id = false := by
      cases listed : lists p.view.members s.cfg.id
      · rfl
      · exact absurd now (unlisted p held listed)
    obtain ⟨peers, gone⟩ := switchView_detaches (s := leaveCounted s) leaving held out
    rw [whenDue_not _ (leaveTimeoutDue_not (.inl (by rw [gone]; decide)))]
    exact peers

/-- The entries that a boundary leaves of a station it detaches, where no switch still lists a LEAVING one. -/
theorem controllerBoundary_detaches (runs : s.mbc.station.running = true)
    (unlisted : ∀ p, s.mbc.pending = some p → lists p.view.members s.cfg.id = true → ¬ Reached s.cyt.cycle p)
    (rests : (controllerBoundary high s).mbc.station.running = false) :
    (controllerBoundary high s).peers = detachedEntries s.peers := by
  by_cases hailing : s.mbc.station = .hailing
  · rw [controllerBoundary_hailing hailing] at rests ⊢
    exact hailBoundary_detaches hailing rests
  by_cases leaving : s.mbc.station = .leaving
  · rw [controllerBoundary_leaving leaving] at rests ⊢
    exact leavingBoundary_detaches leaving unlisted rests
  · exact nomatch (controllerBoundary_runs runs hailing leaving).symm.trans rests

end

end Sys2Proof.Machine

/-! ## BoundaryFindings (R75, R77, R89, R91, R115, R118, R119) -/

namespace Sys2Proof.Machine

section
variable {s t u q w x y : State} {v : View} {p : PendingView} {order : BoundaryOrder} {c : Instr} {high : Bool}

/-! ### The entries after a command that begins a cycle -/

/-- What a boundary's command is said to leave of the entries of `s` in the part `t`. -/
structure LeavesEntries (s t : State) : Prop where
  tested : Tested t
  detached : t.mbc.station.running = false →
    (∀ p, s.mbc.pending = some p → lists p.view.members s.cfg.id = true → ¬ Reached (s.cyt.cycle + 1) p) →
    t.peers = detachedEntries (boundaryCounted { s with cyt := { s.cyt with cycle := s.cyt.cycle + 1 } }).peers

theorem LeavesEntries.settle (h : LeavesEntries s t) : LeavesEntries s (Machine.settle t) :=
  ⟨⟨h.tested.heard, h.tested.member⟩, h.detached⟩

theorem LeavesEntries.relock (h : LeavesEntries s t) (amount : Nat) : LeavesEntries s (Machine.relock amount t) := by
  obtain ⟨peers, runs, -⟩ := relock_place amount t
  refine ⟨h.tested.relock amount, ?_⟩
  rw [peers, runs]
  exact h.detached

/-- A boundary of the part `m`, in which the Cycle Timer has begun the cycle after that of `s`. -/
theorem leavesEntries_boundary {m : State} (runs : m.mbc.station.running = true) (held : m.mbc.pending = s.mbc.pending)
    (cfg : m.cfg = s.cfg) (peers : m.peers = s.peers) (cycle : m.cyt.cycle = s.cyt.cycle + 1)
    (adopted : m.cyt.adopted = s.cyt.adopted) (order : BoundaryOrder) (high : Bool) :
    LeavesEntries s (boundary order high m) := by
  refine ⟨tested_boundary order high m, fun rests unlisted => ?_⟩
  obtain ⟨w, d, handed, controller, ends⟩ := boundary_acts order high m
  have start := counted_eq m
  have mbc : w.mbc = m.mbc := handed.mbc.trans (congrArg State.mbc start :)
  have cfg_ : w.cfg = s.cfg := handed.cfg.trans ((congrArg State.cfg start :) ▸ cfg)
  have cyt : w.cyt = m.cyt := handed.cyt.trans (congrArg State.cyt start :)
  have entries : w.peers = (boundaryCounted { s with cyt := { s.cyt with cycle := s.cyt.cycle + 1 } }).peers := by
    rw [handed.peers, start]
    simp only [boundaryCounted, peers, cycle, adopted]
  have outside : d.mbc.station.running = false := by
    rw [← tests_station d, ← ends.station]
    exact rests
  have rested : (controllerBoundary high w).mbc.station.running = false := by
    rw [← controller.station]
    exact outside
  rw [ends.peers, tests_still outside, controller.peers, ← entries]
  refine controllerBoundary_detaches (by rw [mbc]; exact runs) (fun p is listed => ?_) rested
  rw [mbc, held] at is
  rw [cfg_] at listed
  rw [cyt, cycle]
  exact unlisted p is listed

/-- The second clause of O32: a wrap, and a snap with the lock first or last. -/
theorem leavesEntries (runs : Runs s) (begins : (c = .wrap order ∧ s.cfg.fp.p ≤ s.cyt.position + 1) ∨
      ((∃ lockFirst, c = .syncFall lockFirst order) ∧ s.mbc.station ≠ .listening ∧ s.sli.prevHigh = true ∧
        0 < s.cyt.position ∧ s.cfg.fp.p / 2 ≤ s.cyt.position)) :
    ∃ t, exec c s = .next t ∧ LeavesEntries s t := by
  obtain ⟨rfl, last⟩ | ⟨⟨lockFirst, rfl⟩, other, high, later, late⟩ := begins
  · exact ⟨_, exec_due (c := .wrap order) rfl runs.1 (wrapDue_of runs.2 last),
      (leavesEntries_boundary (s := s) (m := nextCycle s) runs.2 rfl rfl rfl rfl rfl order s.sli.prevHigh).settle⟩
  · have snaps : Snaps s := ⟨runs, other, high, later, late⟩
    have frame := snapped_frame s
    have cyt := snapped_cyt s
    have station := (snapped_station s).trans (rfl : s.mbc.station = _)
    cases lockFirst
    · refine ⟨_, snaps.lockLast order, (LeavesEntries.relock (leavesEntries_boundary ?_ ?_ ?_ ?_ ?_ ?_ order false) _).settle⟩
      · exact (congrArg Station.running station).trans runs.2
      · exact (congrArg (·.mbc.pending) frame :)
      · exact snapped_cfg s
      · exact (congrArg State.peers frame :)
      · exact (congrArg CycleTimer.cycle cyt :)
      · exact (congrArg CycleTimer.adopted cyt :)
    · refine ⟨_, snaps.lockFirst order, (leavesEntries_boundary ?_ ?_ ?_ ?_ ?_ ?_ order false).settle⟩
      · rw [(tryHail_place _).2.1]
        exact (congrArg Station.running station).trans runs.2
      · rw [tryHail_eq]
        split <;> exact (congrArg (·.mbc.pending) frame :)
      · exact ((inside_tryHail (p := True) _).cfg).trans (snapped_cfg s)
      · rw [(tryHail_place _).1]
        exact (congrArg State.peers frame :)
      · rw [tryHail_cyt]
        exact (congrArg CycleTimer.cycle cyt :)
      · rw [tryHail_cyt]
        exact (congrArg CycleTimer.adopted cyt :)

/-! ### The frame in flight through a boundary -/

theorem flightOf_renew (f : Option Flight) (k j : FrameKind) :
    (match renew f k with | some f => f.kind == j | none => false) =
      (match f with | some f => f.kind == j | none => false) := by
  cases f with
  | none => rfl
  | some f =>
    simp only [renew, Option.map_some]
    split <;> rfl

theorem flightOf_postRequest (s : State) (k j : FrameKind) : flightOf (postRequest s k) j = flightOf s j := by
  rw [postRequest]
  split
  · exact flightOf_renew s.tli.flight k j
  · rfl

theorem flightOf_setBackoff (s : State) (j : FrameKind) : flightOf (setBackoff s) j = flightOf s j := by
  rw [setBackoff]
  split
  · exact flightOf_postRequest { s with mbc.backoff := none } .recast j
  · rfl

theorem flightOf_appendChange (s : State) (kept : List ChangeEntry) (id : Nat) (change : Change) (j : FrameKind) :
    flightOf (appendChange s kept id change) j = flightOf s j := by
  rw [appendChange]
  dsimp only
  split
  · exact flightOf_setBackoff { s with mbc.changes := kept ++ [changeNow s id change] } j
  · rfl

theorem flightOf_placeChange (s : State) (id : Nat) (change : Change) (j : FrameKind) :
    flightOf (placeChange s id change) j = flightOf s j := by
  unfold placeChange
  dsimp only
  split
  · exact flightOf_appendChange ..
  · split
    · exact flightOf_appendChange ..
    · split
      · split
        next old _ => exact flightOf_appendChange (refuseHail s old.id true) ..
        · exact flightOf_appendChange ..
      · rfl

/-- The loss of peers changes no kind of the frame in flight. -/
theorem flightOf_lossTest (s : State) (j : FrameKind) : flightOf (lossTest s) j = flightOf s j := by
  have marks : ∀ (lost : List Peer) q, flightOf (lost.foldl markLost q) j = flightOf q j := fun lost => by
    induction lost with
    | nil => exact fun _ => rfl
    | cons p lost ih => exact fun q => ih (markLost q p)
  have places : ∀ (ids : List Nat) q, flightOf (ids.foldl placeLost q) j = flightOf q j := fun ids => by
    induction ids with
    | nil => exact fun _ => rfl
    | cons id ids ih =>
      refine fun q => (ih (placeLost q id)).trans ?_
      rw [placeLost]
      split
      · exact flightOf_placeChange ..
      · rfl
  rw [lossTest]
  split
  · exact (places _ _).trans (marks _ _)
  · rfl

theorem flightOf_expireLease (member : s.mbc.station = .member) (j : FrameKind) :
    flightOf (expireLease s) j = flightOf s j := by
  rw [expireLease_eq member, claimDueTest]
  split
  · exact flightOf_postRequest (leaseOut s) .claim j
  · rfl

theorem flightOf_backedOff (s : State) (j : FrameKind) : flightOf (backedOff s) j = flightOf s j := by
  rw [backedOff]
  split
  · rfl
  · split
    · rfl
    · exact flightOf_renew s.tli.flight .recast j

/-! ### The acts of a MEMBER's boundary without a switch -/

/-- The acts of a MEMBER's boundary at which no view switches. -/
def unswitched (s : State) : State := ended (backedOff s)

theorem acts_unswitched (member : s.mbc.station = .member) (calm : viewSwitchDue s = false) (high : Bool) :
    ended (controllerBoundary high s) = unswitched s := by
  obtain ⟨station, pending_, cyt, -⟩ := backedOff_kept s
  have calm_ : viewSwitchDue (backedOff s) = false := by
    rw [viewSwitchDue, station, pending_, cyt]
    exact calm
  rw [acts_member member, whenDue_not _ calm_, unswitched]

/-- What the end of a boundary moves: the tables of the Peer Table, of the change list and of the plan, but neither the
Plan Unit's counts and demands nor a CLAIM. -/
theorem ended_kept (s : State) : (ended s).plu.lease = s.plu.lease ∧ (ended s).plu.age = s.plu.age ∧
    (ended s).plu.claimed = s.plu.claimed ∧ (ended s).tli.requests.claim = s.tli.requests.claim ∧
    (∀ j, flightOf (ended s) j = flightOf s j) := by
  have purged : purgeTest (lossTest s) = { lossTest s with peers := (purgeTest (lossTest s)).peers } := by
    unfold purgeTest
    split <;> rfl
  have lost := (losing_lossTest s).eq
  have frame := finishBoundary_frame (purgeTest (lossTest s))
  have plu : (ended s).plu.lease = (lossTest s).plu.lease ∧ (ended s).plu.age = (lossTest s).plu.age ∧
      (ended s).plu.claimed = (lossTest s).plu.claimed ∧ (ended s).tli = (lossTest s).tli := by
    rw [ended, frame, purged]
    exact ⟨rfl, rfl, rfl, rfl⟩
  obtain ⟨lease, age, claimed, tli⟩ := plu
  refine ⟨lease.trans (congrArg (·.plu.lease) lost :), age.trans (congrArg (·.plu.age) lost :),
    claimed.trans (congrArg (·.plu.claimed) lost :), ?_, fun j => ?_⟩
  · rw [tli]
    exact (congrArg (·.tli.requests.claim) lost :)
  · refine Eq.trans ?_ (flightOf_lossTest s j)
    rw [flightOf, flightOf, tli]

end

end Sys2Proof.Machine

/-! ## BoundaryFindings (R75, R77, R89, R91, R115, R118, R119) -/

namespace Sys2Proof.Machine

section
variable {s t u q w x y : State} {v : View} {p : Peer} {order : BoundaryOrder} {c : Instr} {high : Bool}

/-! ### The CLAIM age at 8 (R115) -/

theorem leaseRun_kept (member : s.mbc.station = .member) : (leaseRun s).mbc = s.mbc ∧ (leaseRun s).peers = s.peers ∧
    (leaseRun s).cyt = s.cyt ∧ (leaseRun s).plu.claimed = s.plu.claimed ∧
    flightOf (leaseRun s) .claim = flightOf s .claim := by
  rw [leaseRun]
  split
  · have counts := (counting_expireLease s).eq
    exact ⟨(congrArg State.mbc counts :), (congrArg State.peers counts :), (congrArg State.cyt counts :),
      (congrArg (·.plu.claimed) counts :), flightOf_expireLease member .claim⟩
  · exact ⟨rfl, rfl, rfl, rfl, rfl⟩

theorem planCount_heartbeat (made : s.plu.counting = true) (member : s.mbc.station = .member) (age : s.plu.age = 7)
    (claimed : s.plu.claimed = true) (other : flightOf s .claim = false) :
    (planCount s).tli.requests.claim = true ∧ (planCount s).plu.age = 8 := by
  obtain ⟨mbc, -, -, claimed_, flight⟩ := leaseRun_kept member
  let z := withCounts (leaseRun s) (s.plu.lease - 1) (min (s.plu.age + 1) 255) false
  have eight : z.plu.age = 8 := by
    show min (s.plu.age + 1) 255 = 8
    omega
  have counts : planCount s = if heartbeatDue z then postRequest z .claim else z := planCount_eq made member
  have member_ : z.mbc.station = .member := (congrArg Membership.station mbc).trans member
  rw [counts]
  cases asked : z.tli.requests.claim
  · have due : heartbeatDue z = true := by
      have claimed_ : z.plu.claimed = true := claimed_.trans claimed
      have flight_ : flightOf z .claim = false := flight.trans other
      simp [heartbeatDue, member_, eight, claimed_, asked, flight_]
    rw [if_pos due, heartbeat_claim due]
    exact ⟨rfl, eight⟩
  · have calm : heartbeatDue z = false := by simp [heartbeatDue, asked]
    rw [if_neg (by simp [calm])]
    exact ⟨asked, eight⟩

/-! ### The lease at its end (R118, R119) -/

/-- Some configured leg's last put value is not 0. -/
def PutSome (s : State) : Prop := ∃ leg n, leg < s.cfg.legs ∧ LastPut s leg n ∧ n ≠ 0

theorem lastPut_leaseOut (s : State) (leg : Nat) : lastPut (leaseOut s) leg = lastPut s leg := by
  by_cases first : leg = 0 <;> simp [lastPut, ownLeg, lastPut.settledPut, first, leaseOut, appended]

theorem claimIsDue_leaseOut (put : PutSome s) : claimIsDue (leaseOut s) = true := by
  obtain ⟨leg, n, configured, last, some_⟩ := put
  refine (claimIsDue_iff _).mpr ⟨leg, n, configured, ?_, ?_⟩
  · rw [lastPut_spec] at last ⊢
    rw [last, lastPut_leaseOut]
  · split <;> exact some_

/-- What the counts of a boundary that ends the lease leave of the Plan Unit (R119). -/
structure LeaseEnds (s t : State) : Prop where
  lease : t.plu.lease = 0
  leg0 : t.plu.leg0.requested = 0
  leg1 : t.plu.leg1.requested = 0
  records : t.evq.records = arrive s.evq.records
    { kind := .leaseExpired, cycle := some s.cyt.cycle, station := none, detail := some { code := 0, value := s.cfg.lease } }
  claim : PutSome s → t.tli.requests.claim = true

theorem expireLease_ends (member : s.mbc.station = .member) : LeaseEnds s (expireLease s) := by
  by_cases due : claimIsDue (leaseOut s) = true
  · rw [expireLease_due member due]
    exact ⟨rfl, rfl, rfl, rfl, fun _ => by simp [requested]⟩
  · rw [expireLease_not member due]
    exact ⟨rfl, rfl, rfl, rfl, fun put => absurd (claimIsDue_leaseOut put) due⟩

theorem planCount_ends (made : s.plu.counting = true) (member : s.mbc.station = .member) (last : s.plu.lease = 1) :
    LeaseEnds s (planCount s) := by
  obtain ⟨b, counts, kept, -⟩ := planCount_member made member
  have ends := expireLease_ends member
  rw [leaseRun, if_pos last] at counts kept
  rw [counts]
  exact ⟨by exact congrArg (· - 1) last, ends.leg0, ends.leg1, ends.records, fun put => kept (ends.claim put)⟩

theorem planCount_leased (made : s.plu.counting = true) (member : s.mbc.station = .member) (runs : s.plu.lease ≠ 1) :
    (planCount s).evq.records = s.evq.records := by
  obtain ⟨b, counts, -⟩ := planCount_member made member
  rw [leaseRun, if_neg runs] at counts
  rw [counts]
  rfl

/-! ### Acts with no peer overdue -/

theorem unswitched_still (heard : ∀ p ∈ s.peers, p.silence < 32) : unswitched s = finishBoundary (backedOff s) :=
  ended_still (by rw [(backedOff_kept s).2.2.2.2.1]; exact heard)

theorem backedOff_records (s : State) : (backedOff s).evq = s.evq := by
  rw [backedOff]
  split
  · rfl
  · split <;> rfl

theorem backedOff_asks (last : s.mbc.backoff = some 1) :
    (backedOff s).mbc.backoff = none ∧ (backedOff s).tli.requests.recast = true := by
  rw [backedOff, last]
  exact ⟨rfl, by simp [requested]⟩

theorem lastPut_requested (s : State) (leg : Nat) : lastPut (requested s .recast) leg = lastPut s leg := by
  cases held : s.tli.flight with
  | none => simp [lastPut, requested, held, ownLeg]
  | some f =>
    simp only [lastPut, requested, held, Option.map_some, ownLeg]
    split
    next recast => simp [recast]
    next => rfl

theorem putSome_backedOff (put : PutSome s) : PutSome (backedOff s) := by
  obtain ⟨leg, n, configured, last, some_⟩ := put
  rw [lastPut_spec] at last
  rw [backedOff]
  split
  · exact ⟨leg, n, configured, (lastPut_spec ..).mpr last, some_⟩
  · split
    · exact ⟨leg, n, configured, (lastPut_spec ..).mpr last, some_⟩
    · exact ⟨leg, n, configured, (lastPut_spec ..).mpr (last.trans (lastPut_requested _ leg).symm), some_⟩

/-- The acts of a MEMBER's boundary keep the Plan Unit's counts and the station. -/
theorem unswitched_kept (s : State) : (unswitched s).plu.age = s.plu.age ∧ (unswitched s).plu.lease = s.plu.lease ∧
    (unswitched s).plu.claimed = s.plu.claimed ∧ (unswitched s).tli.requests.claim = s.tli.requests.claim ∧
    flightOf (unswitched s) .claim = flightOf s .claim ∧ (unswitched s).mbc.station = s.mbc.station ∧
    (unswitched s).plu.counting = s.plu.counting := by
  obtain ⟨station, -, -, -, -, plu, -, claim⟩ := backedOff_kept s
  obtain ⟨lease, age, claimed, claim_, flight⟩ := ended_kept (backedOff s)
  rw [plu] at lease age claimed
  exact ⟨age, lease, claimed, claim_.trans claim, (flight .claim).trans (flightOf_backedOff s .claim),
    (ended_station _).trans station, (ended_counting _).trans (congrArg PlanUnit.counting plu)⟩

/-! ### The loss of one peer (R75, R89) -/

theorem filter_eq_singleton {α : Type} [DecidableEq α] {l : List α} {a : α} {k : α → Bool} (nodup : l.Nodup) (held : a ∈ l)
    (alone : ∀ x ∈ l, k x = true ↔ x = a) : l.filter k = [a] := by
  rw [List.filter_congr (q := (· == a)) fun x hx => Bool.eq_iff_iff.mpr ((alone x hx).trans beq_iff_eq.symm),
    List.filter_beq, List.count_eq_one_of_mem nodup held]
  rfl

/-- What the acts of a MEMBER's boundary leave where one peer, with no change held, is lost. -/
structure LosesOne (s : State) (p : Peer) (t : State) : Prop where
  entry : ∃ x, findPeer t.peers p.id = some x ∧ x.kind = .lost ∧ x.silence = p.silence
  changes : t.mbc.changes = [changeNow s p.id (.remove .lost)]
  records : t.evq.records = arrive s.evq.records (about s.cyt.cycle .peerLost p.id p.silence)

theorem lossTest_one (member : s.mbc.station = .member) (ascending : (s.peers.map (·.id)).Pairwise (· < ·))
    (lost : s.peers.filter isOverdue = [p]) (empty : s.mbc.changes = []) :
    LosesOne s p (lossTest s) ∧ (lossTest s).peers = updatePeer s.peers p.id (fun q => { q with kind := .lost }) := by
  have held : p ∈ s.peers := (List.mem_filter.mp (lost ▸ List.mem_singleton_self p : p ∈ s.peers.filter isOverdue)).1
  let marked := appended { s with peers := updatePeer s.peers p.id (fun q => { q with kind := .lost }) }
    (about s.cyt.cycle .peerLost p.id p.silence)
  have taken : lossTest s = appendChange marked [] p.id (.remove .lost) := by
    rw [lossTest, if_pos (by rw [member]; rfl), lost]
    show placeLost (markLost s p) p.id = _
    rw [markLost_eq (by rw [member]; rfl), placeLost, if_pos (show marked.mbc.station = .member from member)]
    exact (placeChange_of_room (s := marked) (by simp [marked, appended, empty]) (by simp [marked, appended, empty]) _).trans
      (by rw [show marked.mbc.changes = [] from empty])
  have moved := confined_appendChange marked [] p.id (.remove .lost)
  rw [taken]
  refine ⟨⟨?_, ?_, ?_⟩, moved.peers⟩
  · rw [moved.peers]
    refine ⟨{ p with kind := .lost }, ?_, rfl, rfl⟩
    show findPeer (updatePeer s.peers p.id _) p.id = _
    rw [findPeer_updatePeer (f := fun q => { q with kind := .lost }) fun _ => rfl, findPeer_of_mem ascending held]
    simp
  · unfold appendChange
    dsimp only
    split
    · exact setBackoff_changes _
    · rfl
  · unfold appendChange
    dsimp only
    split
    · exact setBackoff_records _
    · rfl

theorem unswitched_one (member : s.mbc.station = .member) (ascending : (s.peers.map (·.id)).Pairwise (· < ·))
    (lost : s.peers.filter isOverdue = [p]) (empty : s.mbc.changes = []) (quiet : ∀ q ∈ s.peers, q.silence < 64) :
    LosesOne s p (unswitched s) := by
  obtain ⟨station, -, cyt, -, peers, -⟩ := backedOff_kept s
  have changes : (backedOff s).mbc.changes = s.mbc.changes := by
    rw [backedOff]
    split
    · rfl
    · split <;> rfl
  obtain ⟨⟨entry, changes_, records⟩, table⟩ := lossTest_one (s := backedOff s) (p := p) (station.trans member)
    (by rw [peers]; exact ascending) (by rw [peers]; exact lost) (changes.trans empty)
  have still : purgeTest (lossTest (backedOff s)) = lossTest (backedOff s) := purgeTest_still fun q held => by
    rw [table, peers] at held
    obtain ⟨r, hr, -, rfl⟩ | ⟨hr, -⟩ := mem_updatePeer.mp held
    · exact quiet r hr
    · exact quiet q hr
  rw [backedOff_records, cyt] at records
  rw [changeNow, cyt] at changes_
  rw [unswitched, ended, still, finishBoundary_frame]
  exact ⟨entry, changes_, records⟩

/-! ### A MEMBER's boundary without a switch, in both orders of the counts -/

/-- The part that a MEMBER's boundary without a switch leaves, by the order of the counts (R119). -/
def memberEnd (order : BoundaryOrder) (a : State) : State :=
  if order.leaseFirst then unswitched (planCount a) else planCount (unswitched a)

theorem memberEnd_backoff {a : State} (heard : ∀ p ∈ a.peers, p.silence < 32) (last : a.mbc.backoff = some 1) (order : BoundaryOrder) :
    (memberEnd order a).mbc.backoff = none ∧ (memberEnd order a).tli.requests.recast = true := by
  have acts : ∀ q, (∀ p ∈ q.peers, p.silence < 32) → q.mbc.backoff = some 1 →
      (unswitched q).mbc.backoff = none ∧ (unswitched q).tli.requests.recast = true := fun q heard last => by
    rw [unswitched_still heard, finishBoundary_frame]
    exact backedOff_asks last
  rw [memberEnd]
  split
  · refine acts _ ?_ ?_
    · rw [(handed_planCount a).peers]
      exact heard
    · rw [(handed_planCount a).mbc]
      exact last
  · rw [(counting_planCount (unswitched a)).eq]
    exact acts a heard last

section
variable {a : State} (member : a.mbc.station = .member) (made : a.plu.counting = true)
include member

theorem memberEnd_station (order : BoundaryOrder) : (memberEnd order a).mbc.station = .member := by
  have counts := fun q => (congrArg (·.mbc.station) (counting_planCount q).eq :)
  rw [memberEnd]
  split
  · exact (unswitched_kept _).2.2.2.2.2.1.trans ((counts a).trans member)
  · exact (counts _).trans ((unswitched_kept a).2.2.2.2.2.1.trans member)

include made

theorem unswitched_ready : (unswitched a).plu.counting = true ∧ (unswitched a).mbc.station = .member := by
  obtain ⟨-, -, -, -, -, station, counting⟩ := unswitched_kept a
  exact ⟨counting.trans made, station.trans member⟩

theorem memberEnd_heartbeat (age : a.plu.age = 7) (claimed : a.plu.claimed = true) (other : flightOf a .claim = false)
    (order : BoundaryOrder) : (memberEnd order a).plu.age = 8 ∧ (memberEnd order a).tli.requests.claim = true := by
  obtain ⟨age_, -, claimed_, -, flight, -⟩ := unswitched_kept a
  rw [memberEnd]
  split
  · obtain ⟨asks, eight⟩ := planCount_heartbeat made member age claimed other
    obtain ⟨kept, -, -, claim, -⟩ := unswitched_kept (planCount a)
    exact ⟨kept.trans eight, claim.trans asks⟩
  · obtain ⟨made_, member_⟩ := unswitched_ready member made
    obtain ⟨asks, eight⟩ := planCount_heartbeat made_ member_ (age_.trans age) (claimed_.trans claimed) (flight.trans other)
    exact ⟨eight, asks⟩

theorem memberEnd_lease (last : a.plu.lease = 1) (heard : ∀ p ∈ a.peers, p.silence < 32) (order : BoundaryOrder) :
    LeaseEnds a (memberEnd order a) := by
  rw [memberEnd]
  split
  · have ends := planCount_ends made member last
    have claim := (unswitched_kept (planCount a)).2.2.2.1
    have plu := (backedOff_kept (planCount a)).2.2.2.2.2.1
    have records := backedOff_records (planCount a)
    rw [unswitched_still (by rw [(handed_planCount a).peers]; exact heard), finishBoundary_frame] at claim ⊢
    exact ⟨((congrArg PlanUnit.lease plu :) : _ = _).trans ends.lease,
      ((congrArg (·.leg0.requested) plu :) : _ = _).trans ends.leg0,
      ((congrArg (·.leg1.requested) plu :) : _ = _).trans ends.leg1,
      ((congrArg (·.records) records :) : _ = _).trans ends.records, fun put => claim.trans (ends.claim put)⟩
  · obtain ⟨made_, member_⟩ := unswitched_ready member made
    have ends := planCount_ends made_ member_ ((unswitched_kept a).2.1.trans last)
    obtain ⟨-, -, cyt, cfg, -, plu, -, -⟩ := backedOff_kept a
    have still := unswitched_still heard
    have frame := finishBoundary_frame (backedOff a)
    rw [← still] at frame
    have records : (unswitched a).evq.records = a.evq.records :=
      ((congrArg (·.evq.records) frame :) : _ = _).trans (congrArg (·.records) (backedOff_records a))
    have cycle : (unswitched a).cyt.cycle = a.cyt.cycle :=
      ((congrArg (·.cyt.cycle) frame :) : _ = _).trans (congrArg CycleTimer.cycle cyt)
    have cfg_ : (unswitched a).cfg = a.cfg := ((congrArg State.cfg frame :) : _ = _).trans cfg
    refine ⟨ends.lease, ends.leg0, ends.leg1, ?_, fun put => ends.claim ?_⟩
    · rw [ends.records, records, cycle, cfg_]
    · obtain ⟨leg, n, configured, put_, some_⟩ := putSome_backedOff put
      rw [frame]
      exact ⟨leg, n, configured, put_, some_⟩

theorem memberEnd_one (runs : a.plu.lease ≠ 1) (ascending : (a.peers.map (·.id)).Pairwise (· < ·))
    (lost : a.peers.filter isOverdue = [p]) (empty : a.mbc.changes = []) (quiet : ∀ q ∈ a.peers, q.silence < 64)
    (order : BoundaryOrder) : LosesOne a p (memberEnd order a) := by
  rw [memberEnd]
  split
  · have records := planCount_leased made member runs
    obtain ⟨mbc, cyt, -, peers⟩ := handed_planCount a
    obtain ⟨entry, changes, loses⟩ := unswitched_one (s := planCount a) (p := p) (by rw [mbc]; exact member)
      (by rw [peers]; exact ascending) (by rw [peers]; exact lost) (by rw [mbc]; exact empty) (by rw [peers]; exact quiet)
    rw [records, cyt] at loses
    rw [changeNow, cyt] at changes
    exact ⟨entry, changes, loses⟩
  · obtain ⟨made_, member_⟩ := unswitched_ready member made
    obtain ⟨entry, changes, loses⟩ := unswitched_one member ascending lost empty quiet
    obtain ⟨mbc, -, -, peers⟩ := handed_planCount (unswitched a)
    refine ⟨?_, ?_, ?_⟩
    · rw [peers]
      exact entry
    · rw [mbc]
      exact changes
    · rw [planCount_leased made_ member_ (by rw [(unswitched_kept a).2.1]; exact runs)]
      exact loses

end

/-! ### BoundaryFindings -/

theorem boundary_memberEnd (none_ : order.readout = none) (member : u.mbc.station = .member)
    (stays : NoSwitchDue u.mbc u.cyt.cycle) (high : Bool) (n : Nat) : boundary order high (Machine.begun (withLock u n)) =
      memberEnd order (uncounted (withLock (boundaryCounted u) n)) := by
  let a := uncounted (withLock (boundaryCounted u) n)
  have calm : viewSwitchDue a = false := NoSwitchDue.view_not ⟨stays.pending, stays.observed⟩
  obtain ⟨mbc, cyt, -, -⟩ := handed_planCount a
  have calm_ : viewSwitchDue (planCount a) = false := by
    rw [viewSwitchDue, mbc, cyt]
    exact calm
  have member_ : (planCount a).mbc.station = .member := (congrArg Membership.station mbc).trans member
  rw [boundary_eq none_, counted_begun member, acts_unswitched member_ calm_, acts_unswitched (by exact member) calm]
  rfl

theorem BeginsCycle.untouched (begins : BeginsCycle order s c u) (row : exec c s = .next t) : Untouched s t := by
  obtain ⟨none_, runs, ⟨rfl, last, -⟩ | ⟨⟨lockFirst, rfl⟩, other, high, later, late, -⟩⟩ := begins
  · obtain rfl := Host.Outcome.next.inj (row.symm.trans
      (exec_due (c := .wrap order) rfl runs.1 (wrapDue_of runs.2 last)))
    exact ((inside_wrap order s.sli.prevHigh s).weaken fun _ => none_).untouched.settle
  · obtain ⟨r, row_, -, -, -, -, -, -, untouched⟩ := Snaps.taken ⟨runs, other, high, later, late⟩ none_ lockFirst
    obtain rfl := Host.Outcome.next.inj (row.symm.trans row_)
    exact untouched

theorem boundaryCounted_ids (u : State) : (boundaryCounted u).peers.map (·.id) = u.peers.map (·.id) := by
  simp [boundaryCounted]

/-- A MEMBER entry that alone comes to a silence of 32 at the boundary is the one overdue entry (R75). -/
theorem overdue_one (law : TableLaw s) (peers : u.peers = s.peers) (held : p ∈ s.peers) (kind : p.kind = .member)
    (silent : p.silence = 31) (others : ∀ x ∈ s.peers, x ≠ p → x.silence < 31) :
    ∃ q, (boundaryCounted u).peers.filter isOverdue = [q] ∧ q.id = p.id ∧ q.silence = 32 := by
  have nodup : s.peers.Nodup := .of_map _ (law.ascending.imp fun h => Nat.ne_of_lt h)
  have alone : s.peers.filter (fun x => x.kind == .member && decide (32 ≤ min (x.silence + 1) 255)) = [p] :=
    filter_eq_singleton nodup held fun x hx => by
      constructor
      · intro is
        by_contra other
        have := others x hx other
        simp only [Bool.and_eq_true, decide_eq_true_eq] at is
        omega
      · rintro rfl
        simp [kind, silent]
  refine ⟨_, (List.filter_map ..).trans (congrArg (List.map _) ((congrArg (List.filter _) peers).trans alone)), rfl, ?_⟩
  show min (p.silence + 1) 255 = 32
  omega

/-- Settles O32. -/
theorem boundaryFindings : Obligations.BoundaryFindings := by
  refine ⟨?_, fun order s c runs begins => ?_⟩
  · rintro order s c u q begins rfl member stays
    rw [← begins.mbc, ← begins.plu, ← begins.tli, ← begins.cfg]
    rw [← begins.mbc] at stays
    have member_ : u.mbc.station = .member := begins.station.trans member
    have ends := boundary_memberEnd begins.1 member_ stays
    obtain ⟨high, n, k, row, -⟩ := begins.ofMember member fun high n aligning => by
      rw [ends, memberEnd_station (by exact member_)] at aligning
      cases aligning
    rw [ends] at row
    let a := uncounted (withLock (boundaryCounted u) n)
    have is : a.mbc.station = .member := member_
    have heard_ := fun heard => begins.heard heard
    refine ⟨_, row, memberEnd_station is order, begins.untouched row, fun heard last => ?_, fun age claimed other => ?_,
      fun last heard => ?_, fun p held law kind silent others empty runs => ?_⟩
    · exact memberEnd_backoff (a := a) (heard_ heard) last order
    · refine memberEnd_heartbeat is rfl age claimed ?_ order
      show (match u.tli.flight with | some f => f.kind == .claim | none => false) = false
      cases flight : u.tli.flight with
      | none => rfl
      | some f => exact beq_eq_false_iff_ne.mpr (other f flight)
    · obtain ⟨lease, leg0, leg1, records, claim⟩ := memberEnd_lease is rfl last (heard_ heard) order
      exact ⟨lease, leg0, leg1, records, claim⟩
    · obtain ⟨q, lost, id, silence⟩ := overdue_one law begins.peers held kind silent others
      have quiet : ∀ x ∈ s.peers, x.silence < 63 := fun x hx => by
        by_cases same : x = p
        · rw [same]
          omega
        · have := others x hx same
          omega
      have ascending : ((boundaryCounted u).peers.map (·.id)).Pairwise (· < ·) := by
        rw [boundaryCounted_ids, begins.peers]
        exact law.ascending
      obtain ⟨⟨x, found, gone, same⟩, changes, records⟩ := memberEnd_one is rfl runs ascending lost empty
        (boundaryCounted_silence (n := 63) (begins.peers ▸ quiet)) order
      rw [id] at found
      rw [changeNow, id] at changes
      rw [id, silence] at records
      exact ⟨⟨x, found, gone, same.trans silence⟩, changes, records⟩
  · obtain ⟨t, row, leaves⟩ := leavesEntries runs begins
    exact ⟨t, row, leaves.tested.heard, leaves.tested.member, leaves.detached⟩

end

end Sys2Proof.Machine

/-! ## The acts of a tick, in every order (R2, R3, R7, R15, R17) -/

namespace Sys2Proof.Machine

section
variable {s t : State} {pins : Pins} {order : TickOrder}

/-! ### The order of the acts -/

/-- The stages named, once each, in the order of their first places. -/
def distinct (acc named : List Stage) : List Stage :=
  named.foldl (fun acc x => if acc.contains x then acc else acc ++ [x]) acc

theorem distinct_spec (acc named : List Stage) (nodup : acc.Nodup) :
    (distinct acc named).Nodup ∧ ∀ x, x ∈ distinct acc named ↔ x ∈ acc ∨ x ∈ named := by
  induction named generalizing acc with
  | nil => exact ⟨nodup, fun x => by simp [distinct]⟩
  | cons y named ih =>
    by_cases held : y ∈ acc
    · have same : distinct acc (y :: named) = distinct acc named := by simp [distinct, held]
      obtain ⟨nodup_, mem⟩ := ih acc nodup
      rw [same]
      refine ⟨nodup_, fun x => (mem x).trans ?_⟩
      rw [List.mem_cons]
      constructor
      · exact fun is => is.imp id .inr
      · rintro (is | rfl | is)
        · exact .inl is
        · exact .inl held
        · exact .inr is
    · have next_ : distinct acc (y :: named) = distinct (acc ++ [y]) named := by simp [distinct, held]
      obtain ⟨nodup_, mem⟩ := ih (acc ++ [y]) (nodup.append (List.nodup_singleton y) (by simpa using held))
      rw [next_]
      exact ⟨nodup_, fun x => (mem x).trans (by simp [or_assoc])⟩

theorem stageOrder_nodup (named : List Stage) : (stageOrder named).Nodup := by
  obtain ⟨nodup, mem⟩ := distinct_spec [] named List.nodup_nil
  have rest : ([Stage.cycle, .sync, .talk, .fault].filter (fun x => !named.contains x)).Nodup :=
    List.Nodup.filter _ (by decide)
  refine nodup.append rest fun x first later => ?_
  have unnamed := (List.mem_filter.mp later).2
  have named_ := ((mem x).mp first).resolve_left (by simp)
  simp [named_] at unnamed

theorem mem_stageOrder (named : List Stage) (x : Stage) : x ∈ stageOrder named := by
  obtain ⟨-, mem⟩ := distinct_spec [] named List.nodup_nil
  by_cases is : x ∈ named
  · exact List.mem_append_left _ ((mem x).mpr (.inr is))
  · refine List.mem_append_right _ (List.mem_filter.mpr ⟨?_, by simpa using is⟩)
    cases x <;> decide

/-! ### Which acts are done -/

/-- The acts of a tick that are done: the position counted, TALK and FAULT sampled, and SYNC not yet come to, its stuck
episode ended, or sampled. -/
structure Acts where
  cycle : Bool
  talk : Bool
  fault : Bool
  sync : Option Bool

/-- An act is done. -/
def Acts.done (a : Acts) : Stage → Bool
  | .cycle => a.cycle
  | .sync => a.sync.isSome
  | .talk => a.talk
  | .fault => a.fault

/-- One act more is done; a line that is high is sampled once the position has been counted. -/
def Acts.after (low : Bool) (a : Acts) : Stage → Acts
  | .cycle => { a with cycle := true }
  | .sync => { a with sync := some (low || a.cycle) }
  | .talk => { a with talk := true }
  | .fault => { a with fault := true }

theorem Acts.done_after (low : Bool) (a : Acts) (x y : Stage) : (a.after low x).done y = (a.done y || x == y) := by
  cases x <;> cases y <;> simp [Acts.after, Acts.done]

theorem Acts.done_foldl (low : Bool) (l : List Stage) (a : Acts) (y : Stage) :
    (l.foldl (Acts.after low) a).done y = (a.done y || l.contains y) := by
  induction l generalizing a with
  | nil => simp
  | cons x l ih =>
    rw [List.foldl_cons, ih, Acts.done_after, List.contains_cons, Bool.or_assoc]
    cases x <;> cases y <;> rfl

/-- A low line is sampled at once, wherever its act stands. -/
theorem Acts.low_sampled {low : Bool} (l : List Stage) {a : Acts} (fresh : a.sync = some false → low = false) :
    (l.foldl (Acts.after low) a).sync = some false → low = false := by
  induction l generalizing a with
  | nil => exact fresh
  | cons x l ih =>
    refine ih fun is => ?_
    cases x with
    | sync => exact (Bool.or_eq_false_iff.mp (Option.some.inj is)).1
    | cycle => exact fresh is
    | talk => exact fresh is
    | fault => exact fresh is

/-! ### A tick whose acts are of one block each -/

/-- What the acts of a tick without a wrap or a fall make of the part `base`: the line and the leg stage after their
samples, and the event queue by which of the two have been made. -/
structure Made where
  base : State
  low : Bool
  talk : TalkLine
  stage : LegStage
  queue : Bool → Bool → EventUnit

/-- The Sync Line Interface by what its act has done. -/
def Made.sync (m : Made) : Option Bool → SyncLine
  | none => m.base.sli
  | some false => { m.base.sli with stuckCount := 0, stuck := false }
  | some true => (syncSampled (!m.low) m.base).sli

/-- The part after the acts `a`. -/
def Made.part (m : Made) (a : Acts) : State :=
  { m.base with
    cyt := if a.cycle then (moved m.base).cyt else m.base.cyt
    sli := m.sync a.sync
    tli := if a.talk then m.talk else m.base.tli
    los := if a.fault then m.stage else m.base.los
    evq := m.queue a.talk a.fault }

/-- What the acts `a` have told each other. -/
def Made.note (m : Made) (a : Acts) : TickNote :=
  { captured := m.base.cyt.position, moved := false, sampled := a.sync == some true, counted := a.cycle }

/-- The acts of a tick without a wrap or a fall do what `m` says, each from every point at which it may be taken. -/
structure Made.Holds (m : Made) (pins : Pins) (order : TickOrder) : Prop where
  runs : Runs m.base
  inside : m.base.cyt.position + 1 < m.base.cfg.fp.p
  level : m.low = !(pins.sync && !m.base.sli.markerActive)
  steady : m.low = true → m.base.sli.prevHigh = false ∧ m.base.sli.stuckCount + 1 < m.base.cfg.fp.p
  start : m.queue false false = m.base.evq
  talk : ∀ c f y, talkStage pins order (m.part ⟨c, false, f, y⟩) = m.part ⟨c, true, f, y⟩
  fault : ∀ c t y, faultStage pins (m.part ⟨c, t, false, y⟩) = m.part ⟨c, t, true, y⟩

variable {m : Made}

theorem Made.part_runs (h : m.Holds pins order) (a : Acts) : (m.part a).mbc.station.running = true := h.runs.2

theorem Made.part_marker (m : Made) (a : Acts) : (m.part a).sli.markerActive = m.base.sli.markerActive := by
  show (m.sync a.sync).markerActive = _
  cases a.sync with
  | none => rfl
  | some y => cases y <;> rfl

theorem Made.part_level (h : m.Holds pins order) (a : Acts) : syncHigh pins (m.part a) = !m.low := by
  rw [syncHigh, syncDriven, Made.part_marker, h.level, Bool.not_not]

theorem Made.cycle_act (h : m.Holds pins order) (t f : Bool) (y : Option Bool) :
    cycleStage pins order (m.note ⟨false, t, f, y⟩) (m.part ⟨false, t, f, y⟩) =
      (m.note ⟨true, t, f, y⟩, m.part ⟨true, t, f, y⟩) := by
  have waits : wrapDue (m.part ⟨false, t, f, y⟩) = false := by
    have : ¬ m.base.P ≤ m.base.cyt.position + 1 := h.inside.not_ge
    simp only [wrapDue, Bool.and_eq_false_iff]
    exact .inr (decide_eq_false this)
  rw [cycleStage, Made.part_runs h, if_pos (by rfl), waits]
  rfl

/-- SYNC sampled at a level that begins no fall. -/
theorem Made.sample_act (h : m.Holds pins order) (c t f : Bool) (y : Option Bool) (fresh : m.low = true → y = none) :
    sampleSync pins order (m.note ⟨c, t, f, y⟩) (m.part ⟨c, t, f, y⟩) =
      (m.note ⟨c, t, f, some true⟩, m.part ⟨c, t, f, some true⟩) := by
  rw [sampleSync, if_pos (Made.part_runs h _), Made.part_level h]
  cases low : m.low
  · have sampled : syncHighSample (m.part ⟨c, t, f, y⟩) = m.part ⟨c, t, f, some true⟩ := by
      have line : (syncHighSample (m.part ⟨c, t, f, y⟩)).sli = m.sync (some true) := by
        show ({ m.sync y with prevHigh := true, stuckCount := 0, stuck := false } : SyncLine) = (syncSampled (!m.low) m.base).sli
        rw [low]
        cases y with
        | none => rfl
        | some y => cases y <;> rfl
      exact congrArg (fun l => { m.part ⟨c, t, f, y⟩ with sli := l }) line
    rw [Bool.not_false, if_pos rfl, sampled]
    rfl
  · obtain ⟨prev, few⟩ := h.steady low
    obtain rfl := fresh low
    have unseen : fallSeen (m.part ⟨c, t, f, none⟩) = false := by
      simp only [fallSeen, Bool.and_eq_false_iff]
      exact .inr prev
    have sampled : syncLowSample (m.part ⟨c, t, f, none⟩) = m.part ⟨c, t, f, some true⟩ := by
      have line : (syncLowSample (m.part ⟨c, t, f, none⟩)).sli = m.sync (some true) := by
        show (syncLowSample (m.part ⟨c, t, f, none⟩)).sli = (syncSampled (!m.low) m.base).sli
        rw [low]
        rfl
      exact congrArg (fun l => { m.part ⟨c, t, f, none⟩ with sli := l }) line
    have calm : syncStuckDue (m.part ⟨c, t, f, some true⟩) = false := by
      have count : (m.part ⟨c, t, f, some true⟩).sli.stuckCount = min (m.base.sli.stuckCount + 1) m.base.cfg.fp.p := by
        show (syncSampled (!m.low) m.base).sli.stuckCount = _
        rw [low]
        rfl
      simp only [syncStuckDue, Bool.and_eq_false_iff, count]
      refine .inl (.inr (decide_eq_false ?_))
      show ¬ m.base.cfg.fp.p ≤ _
      omega
    rw [Bool.not_true, if_neg Bool.false_ne_true, unseen]
    dsimp only
    rw [if_neg Bool.false_ne_true, sampled, whenDue_not _ calm]
    rfl

theorem Made.sync_act (h : m.Holds pins order) (c t f : Bool) :
    syncStage pins order (m.note ⟨c, t, f, none⟩) (m.part ⟨c, t, f, none⟩) =
      (m.note ⟨c, t, f, some (m.low || c)⟩, m.part ⟨c, t, f, some (m.low || c)⟩) := by
  rw [syncStage, Made.part_level h]
  cases low : m.low
  · cases c
    · rw [if_pos (by rfl), endEpisode, if_pos (Made.part_runs h _)]
      rfl
    · rw [if_neg (by exact Bool.false_ne_true)]
      exact Made.sample_act h true t f none fun _ => rfl
  · rw [if_neg (by exact Bool.false_ne_true)]
    exact Made.sample_act h c t f none fun _ => rfl

/-- One act, where it is not yet done. -/
theorem Made.act (h : m.Holds pins order) (a : Acts) (x : Stage) (undone : a.done x = false) :
    runStage pins order (m.note a, m.part a) x = (m.note (a.after m.low x), m.part (a.after m.low x)) := by
  obtain ⟨c, t, f, y⟩ := a
  cases x with
  | cycle =>
    obtain rfl : c = false := undone
    exact Made.cycle_act h t f y
  | sync =>
    obtain rfl : y = none := by simpa [Acts.done] using undone
    exact Made.sync_act h c t f
  | talk =>
    obtain rfl : t = false := undone
    exact congrArg (Prod.mk _) (h.talk c f y)
  | fault =>
    obtain rfl : f = false := undone
    exact congrArg (Prod.mk _) (h.fault c t y)

theorem Made.acts (h : m.Holds pins order) (l : List Stage) (a : Acts) (nodup : l.Nodup)
    (undone : ∀ x ∈ l, a.done x = false) : l.foldl (runStage pins order) (m.note a, m.part a) =
      (m.note (l.foldl (Acts.after m.low) a), m.part (l.foldl (Acts.after m.low) a)) := by
  induction l generalizing a with
  | nil => rfl
  | cons x l ih =>
    obtain ⟨fresh, nodup⟩ := List.nodup_cons.mp nodup
    rw [List.foldl_cons, Made.act h a x (undone x List.mem_cons_self), List.foldl_cons]
    refine ih _ nodup fun y hy => ?_
    have other : (x == y) = false := beq_eq_false_iff_ne.mpr fun same => fresh (same ▸ hy)
    rw [Acts.done_after, undone y (List.mem_cons_of_mem x hy), other]
    rfl

/-- The part at the end of the tick: every act done, in whatever order. -/
def Made.whole (m : Made) : State := m.part ⟨true, true, true, some true⟩

/-- No act is done yet. -/
def Acts.none_ : Acts := ⟨false, false, false, none⟩

/-- The four acts of a tick from the part `q`, with SYNC sampled last if its sample was put off. -/
def runActs (pins : Pins) (order : TickOrder) (q : State) : State :=
  let n : TickNote := { captured := q.cyt.position, moved := false, sampled := false, counted := false }
  let r := (stageOrder order.stages).foldl (runStage pins order) (n, q)
  if r.1.sampled then r.2 else (sampleSync pins order r.1 r.2).2

theorem tickBody_eq (pins : Pins) (order : TickOrder) (s : State) :
    tickBody pins order s = runActs pins order (if s.sli.markerActive then markerTick s else s) := rfl

theorem Made.tick (h : m.Holds pins order) : runActs pins order m.base = m.whole := by
  have begins : m.base = m.part Acts.none_ := congrArg (fun q => { m.base with evq := q }) h.start.symm
  have all : ∀ x, ((stageOrder order.stages).foldl (Acts.after m.low) Acts.none_).done x = true := fun x => by
    rw [Acts.done_foldl, Bool.or_eq_true]
    exact .inr (by simpa using mem_stageOrder order.stages x)
  have run := Made.acts h (stageOrder order.stages) Acts.none_ (stageOrder_nodup _) fun x _ => by cases x <;> rfl
  rw [← begins] at run
  rw [runActs, show ({ captured := m.base.cyt.position, moved := false, sampled := false, counted := false } : TickNote) =
    m.note Acts.none_ from rfl, run]
  have early := Acts.low_sampled (stageOrder order.stages) (low := m.low) (a := Acts.none_) nofun
  generalize (stageOrder order.stages).foldl (Acts.after m.low) Acts.none_ = a at all early
  obtain ⟨c, t, f, y⟩ := a
  obtain rfl : c = true := all .cycle
  obtain rfl : t = true := all .talk
  obtain rfl : f = true := all .fault
  obtain ⟨y, rfl⟩ := Option.isSome_iff_exists.mp (all .sync)
  cases y
  · dsimp only
    rw [if_neg (by exact Bool.false_ne_true), Made.sample_act h true true true (some false) fun low => ?_]
    · rfl
    · rw [early rfl] at low
      cases low
  · rfl

end

end Sys2Proof.Machine

/-! ## The TALK sample, and quiet ticks (R2, R3, R22 to R24, R27, R33, R41) -/

namespace Sys2Proof.Machine

section
variable {s t z x : State} {pins : Pins} {order : TickOrder} {m : Made}

/-! ### The TALK sample where it makes nothing due -/

/-- The samples of TALK taken so far make nothing due: no framing fault, no stuck line, no failure, no frame's end. -/
structure TalkCalm (s : State) : Prop where
  low : s.tli.rx.phase = .receiving → s.tli.stuckCount < s.cfg.fp.tb
  high : s.tli.rx.phase = .waiting ∨ s.tli.idle < s.cfg.fp.tb
  stuck : s.tli.stuckCount < 16 * s.cfg.fp.tb ∨ s.tli.stuck = true
  sender : ∀ f, s.tli.flight = some f → arbitrationLostDue s = false ∧ bitErrorDue s = false
  whole : frameComplete s = false
  void : s.tli.rx.phase = .faulted → s.tli.flight = none

theorem TalkCalm.longLow_not (calm : TalkCalm s) : longLowDue s = false := by
  by_cases receiving : s.tli.rx.phase = .receiving
  · simp only [longLowDue, Bool.and_eq_false_iff]
    exact .inr (decide_eq_false (calm.low receiving).not_ge)
  · simp [longLowDue, receiving]

theorem TalkCalm.longHigh_not (calm : TalkCalm s) : longHighDue s = false := by
  rcases calm.high with waiting | few
  · simp [longHighDue, waiting]
  · simp only [longHighDue, Bool.and_eq_false_iff]
    exact .inl (.inr (decide_eq_false few.not_ge))

theorem TalkCalm.talkStuck_not (calm : TalkCalm s) : talkStuckDue s = false := by
  rcases calm.stuck with few | already
  · simp only [talkStuckDue, Bool.and_eq_false_iff]
    exact .inl (.inr (decide_eq_false few.not_ge))
  · simp [talkStuckDue, already]

theorem TalkCalm.sender_not (calm : TalkCalm s) : arbitrationLostDue s = false ∧ bitErrorDue s = false := by
  cases held : s.tli.flight with
  | none => exact ⟨by simp [arbitrationLostDue, held], by simp [bitErrorDue, held]⟩
  | some f => exact calm.sender f held

theorem TalkCalm.void_not (calm : TalkCalm s) : frameVoidedDue s = false := by
  by_cases faulted : s.tli.rx.phase = .faulted
  · simp [frameVoidedDue, calm.whole, calm.void faulted]
  · simp [frameVoidedDue, calm.whole, faulted]

theorem accepted_not (whole : frameComplete s = false) (k : FrameKind) : acceptedDue k s = false := by
  simp [acceptedDue, whole]

theorem talkFindings_calm (calm : TalkCalm s) (tableFirst : Bool) : talkFindings tableFirst s = s := by
  have low := whenDue_not longLow calm.longLow_not
  have high := whenDue_not longHigh calm.longHigh_not
  have stuck := whenDue_not talkStuck calm.talkStuck_not
  have lost := whenDue_not loseArbitration calm.sender_not.1
  have error := whenDue_not countFailure calm.sender_not.2
  have void := whenDue_not voidFrame calm.void_not
  have accept : ∀ k, acceptDue tableFirst k s = s := fun k => whenDue_not _ (accepted_not calm.whole k)
  simp only [talkFindings, low, high, stuck, lost, error, void, accept]

/-- The counters that a sample of TALK moves (R24, R41). -/
def lineSampled (low : Bool) (s : State) : State := if low then talkLowSample s else talkHighSample s

/-- The TALK sample of a station that makes no start mark, where TALK is low or not as `low` says. -/
theorem talkStage_eq {low : Bool} (runs : z.mbc.station.running = true) (none_ : originateDue z = false)
    (level : low = (!pins.talk || (pins.transmits && pullsNext z))) : talkStage pins order z =
      talkFindings order.tableFirst (sampleTick (!low) (lineSampled low
        (if low && z.tli.prevHigh then talkMark z else cellTick z))) := by
  have started : startsFrame z = false := by rw [startsFrame, none_, Bool.false_and]
  rw [talkStage, if_pos runs, started, whenDue_not _ none_]
  dsimp only
  rw [Bool.false_or, ← level]
  rfl

theorem originateDue_requests (requests : z.tli.requests = Requests.empty) : originateDue z = false := by
  simp [originateDue, requests, Requests.any, Requests.empty]

theorem originateDue_phase (other : z.tli.rx.phase ≠ .waiting) : originateDue z = false := by
  simp [originateDue, other]

/-! ### TALK at rest -/

section
variable (runs : z.mbc.station.running = true) (rests : TalkRests z)
include rests

theorem TalkRests.pulls_not : pullsNext z = false := by
  simp [pullsNext, makesMark, rests.flight, rests.waiting]

include runs

/-- A high sample of a line at rest counts the idle run (R24). -/
theorem talkStage_rests (talk : pins.talk = true) (some_ : 0 < z.cfg.fp.tb) : talkStage pins order z = talkHigh z := by
  rw [talkStage_eq (low := false) runs (originateDue_requests rests.requests) (by rw [rests.pulls_not, talk]; simp)]
  have same : sampleTick (!false) (lineSampled false
      (if (false && z.tli.prevHigh) = true then talkMark z else cellTick z)) = talkHigh z := by
    rw [if_neg (by simp), cellTick, if_pos rests.waiting, sampleTick, if_neg fun is => is.1 rests.waiting]
    rfl
  rw [same]
  have calm : TalkCalm (talkHigh z) := {
    low := fun is => by cases rests.waiting.symm.trans is
    high := .inl rests.waiting
    stuck := .inl (Nat.mul_pos (by decide) some_)
    sender := fun f held => by cases rests.flight.symm.trans held
    whole := by simp [frameComplete, talkHigh, rests.waiting]
    void := fun _ => rests.flight }
  exact talkFindings_calm calm _

end

/-! ### The command TICK -/

/-- A CLK edge that is a tick (R2). -/
structure IsTick (s : State) : Prop where
  runs : Runs s
  prescaler : s.cyt.prescRunning = true ∧ 2 ^ s.cfg.fp.prescale ≤ s.cyt.presc + 1

theorem IsTick.row (tick : IsTick s) (pins : Pins) (order : TickOrder) :
    exec (.tick pins order) s = .next (settle (tickBody pins order (edge s))) := by
  rw [exec_due (c := .tick pins order) rfl tick.runs.1 tick.prescaler.1]
  refine congrArg (fun t => Host.Outcome.next (settle t)) ?_
  exact if_neg tick.prescaler.2.not_gt

/-- A tick whose acts do what `m` says, in whatever order it takes them. -/
theorem IsTick.made (tick : IsTick s) (h : m.Holds pins order)
    (base : (if s.sli.markerActive then markerTick (edge s) else edge s) = m.base) :
    exec (.tick pins order) s = .next (settle m.whole) := by
  rw [tick.row, tickBody_eq, ← Made.tick h, ← base]
  rfl

theorem faultStage_still (high : pins.fault = true) (clear : z.los.latch ≠ .asserted) : faultStage pins z = z := by
  rw [faultStage, if_pos high]
  exact whenDue_not _ (by simp [faultReleasedDue, clear])

/-- The acts of a tick on which SYNC is high and FAULT in its place: those of the position and the TALK sample. -/
def quietly (b : State) (line : TalkLine) : Made :=
  { base := b, low := false, talk := line, stage := b.los, queue := fun _ _ => b.evq }

/-- The record that no marker is driven on a tick with SYNC high, nor a wrap due. -/
theorem IsTick.quietly (tick : IsTick s) (idle : s.sli.markerActive = false) (inside : s.cyt.position + 1 < s.cfg.fp.p)
    (sync : pins.sync = true) (high : pins.fault = true) (clear : s.los.latch ≠ .asserted) {line : TalkLine}
    (talk : ∀ z, z.tli = s.tli → z.mbc = s.mbc → z.cfg = s.cfg → talkStage pins order z = { z with tli := line }) :
    exec (.tick pins order) s = .next (settle (moved (syncSampled true { edge s with tli := line }))) := by
  have h : (Machine.quietly (edge s) line).Holds pins order := {
    runs := tick.runs
    inside := inside
    level := by simp [Machine.quietly, edge, sync, idle]
    steady := nofun
    start := rfl
    talk := fun c f y => talk ((Machine.quietly (edge s) line).part ⟨c, false, f, y⟩) rfl rfl rfl
    fault := fun c t y => by
      rw [faultStage_still high (by exact clear)]
      cases y <;> rfl }
  exact tick.made h (if_neg (by simp [idle]))

/-- Settles O34. -/
theorem tickTaken : Obligations.TickTaken := by
  intro s pins order released running
  refine ⟨fun few => ?_, fun full sync talk high runs idle inside waiting flight requests clear some_ => ?_⟩
  · rw [exec_due (c := .tick pins order) rfl released running]
    exact congrArg (fun t => Host.Outcome.next (settle t)) (if_pos few)
  · have tick : IsTick s := ⟨⟨released, runs⟩, running, full⟩
    rw [tick.quietly (line := (talkHigh s).tli) idle inside sync high clear fun z tli mbc cfg => ?_]
    · rfl
    · have rests : TalkRests z := by rw [← tli] at waiting flight requests; exact ⟨waiting, flight, requests⟩
      rw [talkStage_rests (by rw [mbc]; exact runs) rests talk (by rw [cfg]; exact some_), talkHigh, talkHigh, tli, cfg]

end

end Sys2Proof.Machine

/-! ## Ticks of a cell in progress, of marks and of a sender (R22 to R24, R27, R28, R33, R41, R138) -/

namespace Sys2Proof.Machine

section
variable {s t z x : State} {pins : Pins} {order : TickOrder} {m : Made} {f : Flight} {low b : Bool}

/-! ### A cell that goes on (R23, R33) -/

/-- In RECEIVING, before the veto cell has lasted TB ticks, only a sender's own tests can make anything due. -/
theorem calm_receiving (receiving : s.tli.rx.phase = .receiving) (few : s.tli.stuckCount < s.cfg.fp.tb)
    (idle : s.tli.idle < s.cfg.fp.tb) (tick : s.tli.rx.tick ≤ s.cfg.fp.tb)
    (sender : ∀ f, s.tli.flight = some f → arbitrationLostDue s = false ∧ bitErrorDue s = false) : TalkCalm s where
  low _ := few
  high := .inr idle
  stuck := .inl (by omega)
  sender := sender
  whole := by
    have lasts : vetoEnded s = false := decide_eq_false tick.not_gt
    simp [frameComplete, lasts]
  void is := by cases receiving.symm.trans is

/-- The part with one more tick of the cell in progress and a sample of TALK, and with the assembler `rx`. -/
def cellSampled (low : Bool) (s : State) (rx : Rx) : State :=
  { s with tli := { (lineSampled low s).tli with rx := rx } }

theorem sampleTick_not (other : z.tli.rx.tick ≠ z.cfg.fp.tb / 2) (high : Bool) : sampleTick high z = z :=
  if_neg fun is => other is.2

theorem sampleTick_of (phase : z.tli.rx.phase ≠ .waiting) (tick : z.tli.rx.tick = z.cfg.fp.tb / 2) (high : Bool) :
    sampleTick high z = sampleCell high z := if_pos ⟨phase, tick⟩

theorem cellTick_of (phase : z.tli.rx.phase ≠ .waiting) :
    cellTick z = { z with tli := { z.tli with rx := { z.tli.rx with tick := z.tli.rx.tick + 1 } } } := if_neg phase

/-- A TALK sample without a mark goes on with the cell in progress. -/
theorem talkStage_goesOn {rx : Rx} (runs : z.mbc.station.running = true) (phase : z.tli.rx.phase ≠ .waiting)
    (level : low = (!pins.talk || (pins.transmits && pullsNext z))) (unmarked : low = true → z.tli.prevHigh = false)
    (sampled : sampleTick (!low) (cellSampled low z { z.tli.rx with tick := z.tli.rx.tick + 1 }) = cellSampled low z rx)
    (calm : TalkCalm (cellSampled low z rx)) : talkStage pins order z = cellSampled low z rx := by
  have none_ : (low && z.tli.prevHigh) = false := by
    cases low
    · rfl
    · exact unmarked rfl
  have ticks : lineSampled low (cellTick z) = cellSampled low z { z.tli.rx with tick := z.tli.rx.tick + 1 } := by
    rw [cellTick_of phase, cellSampled, lineSampled, lineSampled]
    split <;> rfl
  rw [talkStage_eq runs (originateDue_phase phase) level, none_, if_neg Bool.false_ne_true, ticks, sampled,
    talkFindings_calm calm]

theorem pullsNext_receiver (flight : z.tli.flight = none) (idle : z.tli.rx.vetoing = false) : pullsNext z = false := by
  simp [pullsNext, makesMark, pullsAt, flight, idle]

/-- Between the start cell and the length's last cell no value is a fault. -/
theorem faultOfBits_none {bits : List Bool} (some_ : 1 < bits.length) (few : bits.length < 14) : faultOfBits bits = none := by
  rw [faultOfBits, if_neg (by omega), if_neg (by omega), if_neg (by omega)]

/-- The sample tick of a cell of the key or the length at a receiver reads its value (R23, R26). -/
theorem talkStage_reads (runs : z.mbc.station.running = true) (flight : z.tli.flight = none)
    (receiving : z.tli.rx.phase = .receiving) (idle : z.tli.rx.vetoing = false)
    (tick : z.tli.rx.tick + 1 = z.cfg.fp.tb / 2) (some_ : 1 ≤ z.tli.rx.bits.length) (few : z.tli.rx.bits.length < 13)
    (level : low = !pins.talk) (unmarked : low = true → z.tli.prevHigh = false)
    (count : (lineSampled low z).tli.stuckCount < z.cfg.fp.tb) (run : (lineSampled low z).tli.idle < z.cfg.fp.tb) :
    talkStage pins order z = cellSampled low z { z.tli.rx with
      bits := z.tli.rx.bits ++ [!low], tick := z.tli.rx.tick + 1, lastBit := some (!low) } := by
  have phase : z.tli.rx.phase ≠ .waiting := by simp [receiving]
  have unseen : (lineSampled low z).tli.flight = none := by
    rw [lineSampled]
    split <;> exact flight
  refine talkStage_goesOn runs phase (by rw [pullsNext_receiver flight idle, Bool.and_false, Bool.or_false, level])
    unmarked ?_ (calm_receiving (by exact receiving) count run (by exact tick ▸ Nat.div_le_self _ _)
      fun f held => by cases unseen.symm.trans held)
  have none_ : faultOfBits (z.tli.rx.bits ++ [!low]) = none :=
    faultOfBits_none (by simp; omega) (by simp; omega)
  rw [sampleTick_of (by exact phase) (by exact tick), sampleCell]
  show (match z.tli.rx.phase with | .waiting => _ | .faulted => _ | .receiving => _) = _
  rw [receiving]
  dsimp only [cellSampled]
  rw [none_]

/-! ### Marks (R22, R24, R33) -/

/-- The row TALK_MARK where the previous sample was high. -/
theorem exec_talkMark (released : s.resetAsserted = false) (runs : s.mbc.station.running = true)
    (high : s.tli.prevHigh = true) : exec .talkMark s = .next (settle (talkMark s)) :=
  exec_due (c := .talkMark) rfl released (by simp [runs, high])

/-- The part right after a mark, with the assembler `rx` and the low sample counted. -/
def markSampled (s : State) (rx : Rx) : State :=
  { s with tli := { s.tli with idle := 0, prevHigh := false, stuckCount := s.tli.stuckCount + 1, rx := rx } }

/-- A low sample after a high one is a mark, which begins a cell at its first tick. -/
theorem talkStage_marks {rx : Rx} (runs : z.mbc.station.running = true) (none_ : originateDue z = false)
    (level : true = (!pins.talk || (pins.transmits && pullsNext z))) (high : z.tli.prevHigh = true)
    (marks : talkMark z = lowMark { z with tli := { z.tli with rx := rx } }) (receiving : rx.phase = .receiving)
    (first : rx.tick = 1) (room : 4 ≤ z.cfg.fp.tb) (few : z.tli.stuckCount + 1 < z.cfg.fp.tb)
    (sender : ∀ f, z.tli.flight = some f →
      arbitrationLostDue (markSampled z rx) = false ∧ bitErrorDue (markSampled z rx) = false) :
    talkStage pins order z = markSampled z rx := by
  have sampled : lineSampled true (talkMark z) = markSampled z rx := by
    have count : min (z.tli.stuckCount + 1) (16 * z.cfg.fp.tb) = z.tli.stuckCount + 1 := by omega
    rw [marks]
    exact congrArg (fun n => { z with tli := { z.tli with idle := 0, prevHigh := false, stuckCount := n, rx := rx } }) count
  have other : (markSampled z rx).tli.rx.tick ≠ (markSampled z rx).cfg.fp.tb / 2 := by
    show rx.tick ≠ z.cfg.fp.tb / 2
    omega
  have tick : rx.tick ≤ z.cfg.fp.tb := by omega
  have empty : 0 < z.cfg.fp.tb := by omega
  rw [talkStage_eq runs none_ level, high]
  rw [if_pos (by rfl), sampled, sampleTick_not other, talkFindings_calm (calm_receiving receiving few empty tick sender)]

/-- A mark on a line idle for TB ticks begins a frame, at a station with no request (R24, R26). -/
theorem talkMark_receives (rests : TalkRests z) (idle : z.cfg.fp.tb ≤ z.tli.idle) (clear : z.tli.stuck = false) :
    talkMark z = lowMark { z with tli := { z.tli with rx := Rx.started } } := by
  have silent : ¬ (z.tli.requests.any = true ∧ z.tli.flight = none) := by
    rw [rests.requests]
    exact fun asked => Bool.false_ne_true asked.1
  rw [talkMark, rests.waiting]
  exact (if_pos ⟨idle, clear⟩).trans (if_neg silent)

/-- A mark of a cell that has lasted TB ticks, before the veto cell, begins the next cell. -/
theorem talkMark_next (flight : z.tli.flight = some f) (receiving : z.tli.rx.phase = .receiving)
    (lasted : z.cfg.fp.tb ≤ z.tli.rx.tick) (before : z.tli.rx.cell < vetoCell f.payload.length) :
    talkMark z = lowMark { z with tli := { z.tli with rx := z.tli.rx.nextCell false } } := by
  have early : ¬ z.tli.rx.tick + 1 ≤ z.cfg.fp.tb / 2 := by omega
  have other : inVetoCell z = false := by
    rw [inVetoCell, flight]
    exact beq_eq_false_iff_ne.mpr before.ne
  rw [talkMark, receiving]
  exact (if_neg early).trans (if_neg (by simp [other]))

/-- A sender's tests at a cell just begun: nothing has been read in it. -/
theorem sender_unread (receiving : s.tli.rx.phase = .receiving) (unread : s.tli.rx.lastBit = none) :
    arbitrationLostDue s = false ∧ bitErrorDue s = false := by
  cases held : s.tli.flight with
  | none => exact ⟨by simp [arbitrationLostDue, held], by simp [bitErrorDue, held]⟩
  | some f => exact ⟨by simp [arbitrationLostDue, held, unread], by simp [bitErrorDue, held, unread, receiving]⟩

/-! ### A sender in a cell that it drives (R33) -/

/-- A sender's tests at a cell before the veto cell, read as it is driven or not yet read. -/
theorem sender_read (flight : s.tli.flight = some f) (receiving : s.tli.rx.phase = .receiving)
    (driven : (frameCells f.kind s.cfg.id f.payload)[s.tli.rx.cell]? = some b)
    (read : s.tli.rx.lastBit = none ∨ s.tli.rx.lastBit = some b) :
    arbitrationLostDue s = false ∧ bitErrorDue s = false := by
  rcases read with unread | read
  · exact sender_unread receiving unread
  · have bit := drivenBit_of_cell driven
    have start : s.tli.rx.cell = 0 → b = false := fun first => by
      rw [first] at driven
      exact (Option.some.inj driven).symm
    refine ⟨?_, ?_⟩
    · cases b <;> simp [arbitrationLostDue, flight, read, bit]
    · cases b
      · simp [bitErrorDue, flight, read, bit, receiving]
      · have later : s.tli.rx.cell ≠ 0 := fun first => by cases start first
        simp [bitErrorDue, flight, read, bit, receiving, later]

theorem pullsNext_sender (flight : z.tli.flight = some f) (receiving : z.tli.rx.phase = .receiving)
    (idle : z.tli.rx.vetoing = false) (driven : (frameCells f.kind z.cfg.id f.payload)[z.tli.rx.cell]? = some b)
    (short : z.tli.rx.tick < z.cfg.fp.tb) : pullsNext z =
      decide (z.tli.rx.tick + 1 ≤ if b then z.cfg.fp.tb / 4 else 3 * (z.cfg.fp.tb / 4)) := by
  have early : makesMark z = false := by
    have : ¬ z.TB ≤ z.tli.rx.tick := short.not_ge
    simp [makesMark, flight, this]
  have phase : (z.tli.rx.phase != .waiting) = true := by simp [receiving]
  rw [pullsNext, early, phase, Bool.false_or, Bool.true_and, pullsAt, flight, idle]
  simp only [drivenBit_of_cell driven, Bool.false_and, Bool.or_false]
  rfl

/-- A sender's tick in a cell that it drives, apart from the sample tick. -/
theorem talkStage_drives (runs : z.mbc.station.running = true) (flight : z.tli.flight = some f)
    (receiving : z.tli.rx.phase = .receiving) (idle : z.tli.rx.vetoing = false)
    (driven : (frameCells f.kind z.cfg.id f.payload)[z.tli.rx.cell]? = some b)
    (read : z.tli.rx.lastBit = none ∨ z.tli.rx.lastBit = some b) (short : z.tli.rx.tick < z.cfg.fp.tb)
    (other : z.tli.rx.tick + 1 ≠ z.cfg.fp.tb / 2)
    (level : low = (!pins.talk || (pins.transmits &&
      decide (z.tli.rx.tick + 1 ≤ if b then z.cfg.fp.tb / 4 else 3 * (z.cfg.fp.tb / 4)))))
    (unmarked : low = true → z.tli.prevHigh = false)
    (count : (lineSampled low z).tli.stuckCount < z.cfg.fp.tb) (run : (lineSampled low z).tli.idle < z.cfg.fp.tb) :
    talkStage pins order z = cellSampled low z { z.tli.rx with tick := z.tli.rx.tick + 1 } := by
  have flight_ : (lineSampled low z).tli.flight = some f := by
    rw [lineSampled]
    split <;> exact flight
  exact talkStage_goesOn runs (by simp [receiving])
    (by rw [pullsNext_sender flight receiving idle driven short]; exact level) unmarked
    (sampleTick_not (by exact other) _)
    (calm_receiving (by exact receiving) count run (by exact short) fun _ _ =>
      sender_read (f := f) (b := b) (by exact flight_) (by exact receiving) (by exact driven) (by exact read))

/-- A sender makes the mark of its next cell when the cell in progress has lasted TB ticks (R33). -/
theorem pullsNext_mark (flight : z.tli.flight = some f) (receiving : z.tli.rx.phase = .receiving)
    (lasted : z.cfg.fp.tb ≤ z.tli.rx.tick) (before : z.tli.rx.cell < vetoCell f.payload.length) : pullsNext z = true := by
  have lasted : z.TB ≤ z.tli.rx.tick := lasted
  simp [pullsNext, makesMark, flight, receiving, lasted, before]

/-! ### A FAULTED assembler that holds the veto (R28) -/

theorem pullsNext_veto (flight : z.tli.flight = none) (faulted : z.tli.rx.phase = .faulted) (vetoing : z.tli.rx.vetoing = true) :
    pullsNext z = decide (z.tli.rx.tick + 1 ≤ 3 * (z.cfg.fp.tb / 4)) := by
  simp [pullsNext, makesMark, pullsAt, flight, faulted, vetoing]
  rfl

theorem talkStage_vetoes {bit : Option Bool} (runs : z.mbc.station.running = true) (flight : z.tli.flight = none)
    (faulted : z.tli.rx.phase = .faulted) (vetoing : z.tli.rx.vetoing = true)
    (level : low = (!pins.talk || (pins.transmits && decide (z.tli.rx.tick + 1 ≤ 3 * (z.cfg.fp.tb / 4)))))
    (unmarked : low = true → z.tli.prevHigh = false)
    (count : (lineSampled low z).tli.stuckCount < 16 * z.cfg.fp.tb) (run : (lineSampled low z).tli.idle < z.cfg.fp.tb)
    (read : bit = if z.tli.rx.tick + 1 = z.cfg.fp.tb / 2 then some (!low) else z.tli.rx.lastBit) :
    talkStage pins order z = cellSampled low z { z.tli.rx with tick := z.tli.rx.tick + 1, lastBit := bit } := by
  have phase : z.tli.rx.phase ≠ .waiting := by simp [faulted]
  have unseen : (lineSampled low z).tli.flight = none := by
    rw [lineSampled]
    split <;> exact flight
  have calm : TalkCalm (cellSampled low z { z.tli.rx with tick := z.tli.rx.tick + 1, lastBit := bit }) := {
    low := fun is => by cases faulted.symm.trans is
    high := .inr run
    stuck := .inl count
    sender := fun f held => by cases unseen.symm.trans held
    whole := by simp [frameComplete, cellSampled, faulted]
    void := fun _ => unseen }
  refine talkStage_goesOn runs phase (by rw [pullsNext_veto flight faulted vetoing]; exact level) unmarked ?_ calm
  by_cases half : z.tli.rx.tick + 1 = z.cfg.fp.tb / 2
  · rw [if_pos half] at read
    rw [sampleTick_of (by exact phase) (by exact half), sampleCell, read]
    show (match z.tli.rx.phase with | .waiting => _ | .faulted => _ | .receiving => _) = _
    rw [faulted]
    rfl
  · rw [if_neg half] at read
    rw [sampleTick_not (by exact half), read]

end

end Sys2Proof.Machine

/-! ## What a tick does to the lines, and what the lines do to it (R17, R23, R28, R33, R41, R138) -/

namespace Sys2Proof.Machine

section
variable {s t z u : State} {pins : Pins} {order : TickOrder} {f : Flight} {low b : Bool}

/-! ### A FAULT sample (R138) -/

/-- The FAULT sample reaches the leg stage and the event queue, and reads no more than them, the state, the cycle number
and the lock. -/
theorem faultStage_parts (los : z.los = s.los) (evq : z.evq = s.evq) (mbc : z.mbc = s.mbc) (locked : z.locked = s.locked)
    (cycle : z.cyt.cycle = s.cyt.cycle) :
    faultStage pins z = { z with los := (faultStage pins s).los, evq := (faultStage pins s).evq } := by
  simp only [faultStage, whenDue, faultReleasedDue, faultAssertedDue, faultReleased, faultAsserted, post, postAt, stamp,
    activeLegs, los, evq, mbc, locked, cycle]
  split <;> split <;> simp [← los, ← evq, ← mbc, ← locked]

/-- The acts of a tick on which SYNC and TALK are high and TALK is at rest: those of the position and of the samples. -/
def highLines (pins : Pins) (b : State) : Made :=
  { base := b, low := false, talk := (talkHigh b).tli, stage := (faultStage pins b).los
    queue := fun _ f => if f then (faultStage pins b).evq else b.evq }

/-- A tick with both lines high and TALK at rest does with the FAULT sample what its row does. -/
theorem IsTick.samplesFault (tick : IsTick s) (idle : s.sli.markerActive = false) (inside : s.cyt.position + 1 < s.cfg.fp.p)
    (sync : pins.sync = true) (talk : pins.talk = true) (rests : TalkRests s) (some_ : 0 < s.cfg.fp.tb) :
    exec (.tick pins order) s = .next (settle (faultStage pins (moved (syncSampled true (talkHigh (edge s)))))) := by
  have h : (highLines pins (edge s)).Holds pins order := {
    runs := tick.runs
    inside := inside
    level := by simp [highLines, edge, sync, idle]
    steady := nofun
    start := rfl
    talk := fun c f y => talkStage_rests (z := (highLines pins (edge s)).part ⟨c, false, f, y⟩) tick.runs.2 { rests with }
      talk some_
    fault := fun c t y => faultStage_parts (s := edge s) rfl rfl rfl rfl (by cases c <;> rfl) }
  rw [tick.made h (if_neg (by simp [idle])), faultStage_parts (s := edge s)] <;> rfl

/-! ### TALK stuck (R41) -/

/-- At rest, a sample that brings the low-duration count to 16 TB does TALK_STUCK alone. -/
theorem talkFindings_stuck (runs : z.mbc.station.running = true) (rests : TalkRests z)
    (count : z.tli.stuckCount = 16 * z.cfg.fp.tb) (fresh : z.tli.stuck = false) (tableFirst : Bool) :
    talkFindings tableFirst z = talkStuck z := by
  have due : talkStuckDue z = true := by
    have : 16 * z.TB ≤ z.tli.stuckCount := count.ge
    simp [talkStuckDue, runs, fresh, this]
  have low := whenDue_not (due := longLowDue) longLow (s := z) (by simp [longLowDue, rests.waiting])
  have high := whenDue_not (due := longHighDue) longHigh (s := z) (by simp [longHighDue, rests.waiting])
  have waiting : (talkStuck z).tli.rx.phase = .waiting := rfl
  have flight : (talkStuck z).tli.flight = none := rfl
  have whole : frameComplete (talkStuck z) = false := by simp [frameComplete, waiting]
  have lost := whenDue_not (due := arbitrationLostDue) loseArbitration (s := talkStuck z) (by simp [arbitrationLostDue, flight])
  have error := whenDue_not (due := bitErrorDue) countFailure (s := talkStuck z) (by simp [bitErrorDue, flight])
  have void := whenDue_not (due := frameVoidedDue) voidFrame (s := talkStuck z) (by simp [frameVoidedDue, whole, flight])
  have accept : ∀ k, acceptDue tableFirst k (talkStuck z) = talkStuck z := fun k => whenDue_not _ (accepted_not whole k)
  simp only [talkFindings, low, high, whenDue_of talkStuck due, lost, error, void, accept]

/-- The low-duration count of TALK stands at 16 TB. -/
def talkLow (s : State) : State := { s with tli := { s.tli with idle := 0, stuckCount := 16 * s.cfg.fp.tb } }

theorem talkStage_stuck (runs : z.mbc.station.running = true) (rests : TalkRests z) (talk : pins.talk = false)
    (prev : z.tli.prevHigh = false) (fresh : z.tli.stuck = false) (count : z.tli.stuckCount + 1 = 16 * z.cfg.fp.tb) :
    talkStage pins order z = talkStuck (talkLow z) := by
  have sampled : sampleTick (!true) (lineSampled true
      (if (true && z.tli.prevHigh) = true then talkMark z else cellTick z)) = talkLow z := by
    have full : min (z.tli.stuckCount + 1) (16 * z.TB) = 16 * z.cfg.fp.tb := (congrArg (min · _) count).trans (Nat.min_self _)
    rw [if_neg (by simp [prev]), cellTick, if_pos rests.waiting, sampleTick, if_neg fun is => is.1 rests.waiting]
    simp only [lineSampled, if_true, talkLowSample, talkLow, full, ← prev]
  rw [talkStage_eq (low := true) runs (originateDue_requests rests.requests) (by rw [talk]; rfl), sampled]
  exact talkFindings_stuck (z := talkLow z) runs { rests with } rfl fresh _

/-- TALK_STUCK reaches the line and the event queue, and reads no more than them, the state and the cycle number. -/
theorem talkStuck_parts (tli : z.tli = s.tli) (evq : z.evq = s.evq) (mbc : z.mbc = s.mbc)
    (cycle : z.cyt.cycle = s.cyt.cycle) : talkStuck z = { z with tli := (talkStuck s).tli, evq := (talkStuck s).evq } := by
  simp only [talkStuck, post, postAt, stamp, tli, evq, mbc, cycle]

/-- The acts of a tick that does TALK_STUCK. -/
def stuckTalk (b : State) : Made :=
  { base := b, low := false, talk := (talkStuck (talkLow b)).tli, stage := b.los
    queue := fun t _ => if t then (talkStuck (talkLow b)).evq else b.evq }

theorem IsTick.sticksTalk (tick : IsTick s) (idle : s.sli.markerActive = false) (inside : s.cyt.position + 1 < s.cfg.fp.p)
    (high : pins.fault = true) (clear : s.los.latch ≠ .asserted) (sync : pins.sync = true) (talk : pins.talk = false)
    (rests : TalkRests s) (prev : s.tli.prevHigh = false) (fresh : s.tli.stuck = false)
    (count : s.tli.stuckCount + 1 = 16 * s.cfg.fp.tb) :
    exec (.tick pins order) s = .next (settle (talkStuck (moved (syncSampled true (edge (talkLow s)))))) := by
  have h : (stuckTalk (edge s)).Holds pins order := {
    runs := tick.runs
    inside := inside
    level := by simp [stuckTalk, edge, sync, idle]
    steady := nofun
    start := rfl
    talk := fun c f y => by
      rw [talkStage_stuck (z := (stuckTalk (edge s)).part ⟨c, false, f, y⟩) tick.runs.2 { rests with } talk prev fresh count]
      exact talkStuck_parts (s := talkLow (edge s)) rfl rfl rfl (by cases c <;> rfl)
    fault := fun c t y => faultStage_still high clear }
  rw [tick.made h (if_neg (by simp [idle])), talkStuck_parts (s := talkLow (edge s))] <;> rfl

/-! ### SYNC stuck (R17) -/

/-- At the end of a tick's other acts, a low sample that brings the count to P does SYNC_STUCK. -/
theorem syncStage_stuck {n : TickNote} (runs : z.mbc.station.running = true) (sync : pins.sync = false)
    (prev : z.sli.prevHigh = false) (fresh : z.sli.stuck = false) (count : z.sli.stuckCount + 1 = z.cfg.fp.p) :
    (syncStage pins order n z).2 = syncStuck { z with sli := { z.sli with stuckCount := z.cfg.fp.p } } ∧
      (syncStage pins order n z).1.sampled = true := by
  have level : syncHigh pins z = false := by rw [syncHigh, sync, Bool.false_and]
  have unseen : fallSeen z = false := by simp [fallSeen, prev]
  have low : syncLowSample z = { z with sli := { z.sli with stuckCount := z.cfg.fp.p } } := by
    have full : min (z.sli.stuckCount + 1) z.P = z.cfg.fp.p := (congrArg (min · _) count).trans (Nat.min_self _)
    simp only [syncLowSample, full, ← prev]
  have due : syncStuckDue (syncLowSample z) = true := by
    rw [low]
    simp only [syncStuckDue, runs, fresh, Bool.true_and, Bool.not_false, Bool.and_true]
    exact decide_eq_true (Nat.le_refl z.cfg.fp.p)
  rw [syncStage, level, if_neg (by simp), sampleSync, if_pos runs, level, if_neg (by simp), unseen]
  dsimp only
  rw [if_neg (by simp), whenDue_of syncStuck due, low]
  exact ⟨rfl, rfl⟩

theorem cycleStage_moves {n : TickNote} (runs : z.mbc.station.running = true) (still : n.moved = false)
    (inside : z.cyt.position + 1 < z.cfg.fp.p) : cycleStage pins order n z = ({ n with counted := true }, moved z) := by
  have waits : wrapDue z = false := by
    have : ¬ z.P ≤ z.cyt.position + 1 := inside.not_ge
    simp only [wrapDue, Bool.and_eq_false_iff]
    exact .inr (decide_eq_false this)
  rw [cycleStage, runs, still, if_pos (by rfl), waits]
  rfl

/-- A tick whose acts, in the order `l`, have sampled SYNC leaves the part as they leave it. -/
theorem runActs_sampled {q : State} {l : List Stage} {r : TickNote × State} (list : stageOrder order.stages = l)
    (run : l.foldl (runStage pins order) ({ captured := q.cyt.position, moved := false, sampled := false, counted := false }, q) =
      r) (sampled : r.1.sampled = true) : runActs pins order q = r.2 := by
  subst list run
  exact if_pos sampled

theorem IsTick.sticksSync (tick : IsTick s) (idle : s.sli.markerActive = false) (inside : s.cyt.position + 1 < s.cfg.fp.p)
    (high : pins.fault = true) (clear : s.los.latch ≠ .asserted) (sync : pins.sync = false) (talk : pins.talk = true)
    (rests : TalkRests s) (some_ : 0 < s.cfg.fp.tb) (prev : s.sli.prevHigh = false) (fresh : s.sli.stuck = false)
    (count : s.sli.stuckCount + 1 = s.cfg.fp.p) (stages : order.stages = [.cycle, .talk, .fault, .sync]) :
    exec (.tick pins order) s = .next (settle (syncStuck (moved (talkHigh (edge
      { s with sli := { s.sli with stuckCount := s.cfg.fp.p } }))))) := by
  have list : stageOrder order.stages = [.cycle, .talk, .fault, .sync] := by rw [stages]; rfl
  obtain ⟨part, sampled⟩ := syncStage_stuck (z := talkHigh (moved (edge s))) (pins := pins) (order := order)
    (n := { captured := s.cyt.position, moved := false, sampled := false, counted := true }) tick.runs.2 sync prev fresh count
  have run := runActs_sampled (q := edge s) (pins := pins) list (by
    simp only [List.foldl_cons, List.foldl_nil, runStage]
    rw [cycleStage_moves (z := edge s) tick.runs.2 rfl inside]
    dsimp only
    rw [talkStage_rests (z := moved (edge s)) tick.runs.2 { rests with } talk some_,
      faultStage_still (z := talkHigh (moved (edge s))) high clear]
    rfl) sampled
  rw [tick.row, tickBody_eq, if_neg (by simp [edge, idle]), run, part]
  rfl

end

end Sys2Proof.Machine

/-! ## The tick and the lines, put together (R17, R23, R28, R33, R41, R138) -/

namespace Sys2Proof.Machine

section
variable {s t z u : State} {pins : Pins} {order : TickOrder} {f : Flight} {low b : Bool} {rx : Rx}

theorem tick_of_onTick (on : OnTick s pins) : IsTick s := ⟨on.runs, on.prescaler⟩

/-- The samples of the lines read the line records and the configuration alone. -/
theorem cellSampled_parts (tli : z.tli = s.tli) (cfg : z.cfg = s.cfg) (low : Bool) (rx : Rx) :
    cellSampled low z rx = { z with tli := (cellSampled low s rx).tli } := by
  cases low <;> simp only [cellSampled, lineSampled, talkLowSample, talkHighSample, State.TB, tli, cfg] <;> rfl

theorem markSampled_parts (tli : z.tli = s.tli) (rx : Rx) :
    markSampled z rx = { z with tli := (markSampled s rx).tli } := by
  simp only [markSampled, tli]

/-- A tick of the cell in progress, on a line that makes nothing due. -/
theorem IsTick.samples (tick : IsTick s) (on : OnTick s pins) (idle : s.sli.markerActive = false)
    (inside : s.cyt.position + 1 < s.cfg.fp.p) (sync : pins.sync = true)
    (talk : ∀ z, z.tli = s.tli → z.mbc = s.mbc → z.cfg = s.cfg → talkStage pins order z = cellSampled low z rx) :
    exec (.tick pins order) s = .next (settle (moved (syncSampled true (edge (cellSampled low s rx))))) := by
  rw [tick.quietly (line := (cellSampled low s rx).tli) idle inside sync on.fault.1 on.fault.2 fun z tli mbc cfg =>
    (talk z tli mbc cfg).trans (cellSampled_parts tli cfg low rx)]
  cases low <;> rfl

/-- A low sample counts, short of the count at which it stops. -/
theorem cellSampled_low (few : s.tli.stuckCount + 1 < 16 * s.cfg.fp.tb) (unmarked : s.tli.prevHigh = false) (rx : Rx) :
    cellSampled true s rx =
      { s with tli := { s.tli with idle := 0, stuckCount := s.tli.stuckCount + 1, rx := rx } } := by
  have count : min (s.tli.stuckCount + 1) (16 * s.TB) = s.tli.stuckCount + 1 := Nat.min_eq_left few.le
  simp only [cellSampled, lineSampled, if_true, talkLowSample, count, ← unmarked]

theorem stuckCount_low (some_ : s.tli.stuckCount + 1 < 16 * s.cfg.fp.tb) :
    (lineSampled true s).tli.stuckCount = s.tli.stuckCount + 1 := Nat.min_eq_left some_.le

/-- The counts of the line after a sample, as the tests on them want them. -/
theorem counts_low {n : Nat} (few : s.tli.stuckCount + 1 < n) (most : n ≤ 16 * s.cfg.fp.tb) (some_ : 0 < s.cfg.fp.tb) :
    (lineSampled true s).tli.stuckCount < n ∧ (lineSampled true s).tli.idle < s.cfg.fp.tb :=
  ⟨by rw [stuckCount_low (by omega)]; exact few, some_⟩

theorem counts_high {n : Nat} (few : s.tli.idle + 1 < s.cfg.fp.tb) (some_ : 0 < n) :
    (lineSampled false s).tli.stuckCount < n ∧ (lineSampled false s).tli.idle < s.cfg.fp.tb :=
  ⟨some_, (Nat.min_le_left _ _).trans_lt few⟩

theorem lineSampled_parts (tli : z.tli = s.tli) (cfg : z.cfg = s.cfg) (low : Bool) :
    (lineSampled low z).tli = (lineSampled low s).tli := by
  cases low <;> simp only [lineSampled, talkLowSample, talkHighSample, State.TB, tli, cfg] <;> rfl

/-! ### A sender's and a veto holder's ticks -/

/-- A sender's tick in a cell that it drives, apart from the sample tick. -/
theorem IsTick.drives (on : OnTick s pins) (idle : s.sli.markerActive = false)
    (inside : s.cyt.position + 1 < s.cfg.fp.p) (sync : pins.sync = true) (flight : s.tli.flight = some f)
    (receiving : s.tli.rx.phase = .receiving) (vetoless : s.tli.rx.vetoing = false)
    (driven : (frameCells f.kind s.cfg.id f.payload)[s.tli.rx.cell]? = some b)
    (read : s.tli.rx.lastBit = none ∨ s.tli.rx.lastBit = some b) (short : s.tli.rx.tick < s.cfg.fp.tb)
    (other : s.tli.rx.tick + 1 ≠ s.cfg.fp.tb / 2)
    (level : low = (!pins.talk || (pins.transmits &&
      decide (s.tli.rx.tick + 1 ≤ if b then s.cfg.fp.tb / 4 else 3 * (s.cfg.fp.tb / 4)))))
    (unmarked : low = true → s.tli.prevHigh = false)
    (counts : (lineSampled low s).tli.stuckCount < s.cfg.fp.tb ∧ (lineSampled low s).tli.idle < s.cfg.fp.tb) :
    exec (.tick pins order) s =
      .next (settle (moved (syncSampled true (edge (cellSampled low s { s.tli.rx with tick := s.tli.rx.tick + 1 }))))) := by
  refine (tick_of_onTick on).samples on idle inside sync fun z tli mbc cfg => ?_
  have line := lineSampled_parts tli cfg low
  rw [← line, ← cfg] at counts
  rw [← tli] at flight receiving vetoless driven read short other level unmarked
  rw [← cfg] at driven short other level
  rw [← tli]
  exact talkStage_drives (by rw [mbc]; exact on.runs.2) flight receiving vetoless driven read short other level unmarked
    counts.1 counts.2

/-- A tick of a FAULTED receiver that holds the veto. -/
theorem IsTick.vetoes {bit : Option Bool} (on : OnTick s pins) (idle : s.sli.markerActive = false)
    (inside : s.cyt.position + 1 < s.cfg.fp.p) (sync : pins.sync = true) (flight : s.tli.flight = none)
    (faulted : s.tli.rx.phase = .faulted) (vetoing : s.tli.rx.vetoing = true)
    (level : low = (!pins.talk || (pins.transmits && decide (s.tli.rx.tick + 1 ≤ 3 * (s.cfg.fp.tb / 4)))))
    (unmarked : low = true → s.tli.prevHigh = false)
    (counts : (lineSampled low s).tli.stuckCount < 16 * s.cfg.fp.tb ∧ (lineSampled low s).tli.idle < s.cfg.fp.tb)
    (read : bit = if s.tli.rx.tick + 1 = s.cfg.fp.tb / 2 then some (!low) else s.tli.rx.lastBit) :
    exec (.tick pins order) s = .next (settle (moved (syncSampled true (edge
      (cellSampled low s { s.tli.rx with tick := s.tli.rx.tick + 1, lastBit := bit }))))) := by
  refine (tick_of_onTick on).samples on idle inside sync fun z tli mbc cfg => ?_
  have line := lineSampled_parts tli cfg low
  rw [← line, ← cfg] at counts
  rw [← tli] at flight faulted vetoing level unmarked
  rw [← tli, ← cfg] at read
  rw [← cfg] at level
  rw [← tli]
  exact talkStage_vetoes (by rw [mbc]; exact on.runs.2) flight faulted vetoing level unmarked counts.1 counts.2 read

/-- The low sample of a mark counts toward a stuck line. -/
def markCounted (s : State) : State := { s with tli := { s.tli with stuckCount := s.tli.stuckCount + 1 } }

/-- A tick on which TALK falls does TALK_MARK. -/
theorem IsTick.marks (on : OnTick s pins) (idle : s.sli.markerActive = false) (inside : s.cyt.position + 1 < s.cfg.fp.p)
    (sync : pins.sync = true) (high : s.tli.prevHigh = true) (receiving : rx.phase = .receiving) (first : rx.tick = 1)
    (unread : rx.lastBit = none) (room : 4 ≤ s.cfg.fp.tb) (few : s.tli.stuckCount + 1 < s.cfg.fp.tb)
    (none_ : ∀ z, z.tli = s.tli → z.mbc = s.mbc → z.cfg = s.cfg → originateDue z = false)
    (level : ∀ z, z.tli = s.tli → z.mbc = s.mbc → z.cfg = s.cfg →
      true = (!pins.talk || (pins.transmits && pullsNext z)))
    (marks : ∀ z, z.tli = s.tli ∨ z.tli = (markCounted s).tli → z.cfg = s.cfg →
      talkMark z = lowMark { z with tli := { z.tli with rx := rx } }) :
    exec (.tick pins order) s = exec .talkMark (moved (syncSampled true (edge (markCounted s)))) := by
  have made : exec (.tick pins order) s = _ :=
    (tick_of_onTick on).quietly (order := order) (line := (markSampled s rx).tli) idle inside sync on.fault.1 on.fault.2
      fun z tli mbc cfg => by
        have stage := talkStage_marks (pins := pins) (order := order) (z := z) (rx := rx) (by rw [mbc]; exact on.runs.2)
          (none_ z tli mbc cfg) (level z tli mbc cfg) (by rw [tli]; exact high) (marks z (.inl tli) cfg) receiving first
          (by rw [cfg]; exact room) (by rw [tli, cfg]; exact few) fun f _ => sender_unread (by exact receiving) (by exact unread)
        rw [stage, markSampled_parts tli]
  rw [made, exec_talkMark (s := moved (syncSampled true (edge (markCounted s)))) on.runs.1 on.runs.2 high,
    marks (moved (syncSampled true (edge (markCounted s)))) (.inr rfl) rfl]
  rfl

/-- Settles O36. -/
theorem tickDrivesTheLines : Obligations.TickDrivesTheLines := by
  intro s pins order readout runs running full idle inside room
  have tick : IsTick s := ⟨runs, running, full⟩
  have some_ : 0 < s.cfg.fp.tb := by omega
  refine ⟨fun on sync => ⟨fun f b low flight receiving vetoless driven read short other level => ?_,
      fun f flight receiving lasted before transmits high few => ?_,
      fun low bit flight faulted vetoing talk level read => ?_⟩,
    fun u rests sync talk locked is => ?_, fun on rests => ⟨fun sync talk prev fresh count stages => ?_,
      fun sync talk prev fresh count => ?_⟩⟩
  · refine ⟨fun is unmarked few => ?_, fun is few => ?_⟩
    · subst is
      rw [IsTick.drives on idle inside sync flight receiving vetoless driven read short other level (fun _ => unmarked)
        (counts_low few (by omega) some_), cellSampled_low (by omega) unmarked]
    · subst is
      rw [IsTick.drives on idle inside sync flight receiving vetoless driven read short other level nofun
        (counts_high few some_)]
      rfl
  · refine IsTick.marks (rx := s.tli.rx.nextCell false) on idle inside sync high (by exact receiving) rfl rfl room few
      (fun z tli _ _ => originateDue_phase (by simp [tli, receiving])) (fun z tli _ cfg => ?_) fun z tli cfg => ?_
    · rw [← tli] at flight receiving lasted before
      rw [← cfg] at lasted
      rw [pullsNext_mark flight receiving lasted before, transmits]
      simp
    · rcases tli with tli | tli
      · rw [← tli] at flight receiving lasted before ⊢
        exact talkMark_next flight receiving (by rw [cfg]; exact lasted) before
      · have same : z.tli.rx = s.tli.rx := (congrArg TalkLine.rx tli :)
        have flying : z.tli.flight = s.tli.flight := (congrArg TalkLine.flight tli :)
        rw [← same] at receiving lasted before ⊢
        exact talkMark_next (flying.trans flight) receiving (by rw [cfg]; exact lasted) before
  · refine ⟨fun is unmarked few => ?_, fun is few => ?_⟩
    · subst is
      rw [IsTick.vetoes (low := true) on idle inside sync flight faulted vetoing (by rw [← level, talk]; rfl) (fun _ => unmarked)
        (counts_low few le_rfl some_) read, cellSampled_low few unmarked]
    · subst is
      rw [IsTick.vetoes (low := false) on idle inside sync flight faulted vetoing (by rw [← level, talk]; rfl) nofun
        (counts_high few (by omega)) read]
      rfl
  · subst is
    rw [tick.samplesFault idle inside sync talk rests some_]
    refine ⟨fun asserted clear => ?_, fun asserted held => ?_, fun released held => ?_⟩
    · have due : faultAssertedDue (moved (syncSampled true (talkHigh (edge s)))) = true := by
        simp [faultAssertedDue, moved, syncSampled, talkHigh, edge, locked, clear]
      rw [exec_due (c := .faultAsserted) rfl (by exact runs.1) due, faultStage, if_neg (by simp [asserted]), whenDue_of _ due]
    · have still : faultAssertedDue (moved (syncSampled true (talkHigh (edge s)))) = false := by
        simp [faultAssertedDue, moved, syncSampled, talkHigh, edge, held]
      rw [faultStage, if_neg (by simp [asserted]), whenDue_not _ still]
    · have due : faultReleasedDue (moved (syncSampled true (talkHigh (edge s)))) = true := by
        simp [faultReleasedDue, moved, syncSampled, talkHigh, edge, locked, held]
      rw [exec_due (c := .faultReleased) rfl (by exact runs.1) due, faultStage, if_pos released, whenDue_of _ due]
  · rw [tick.sticksSync idle inside on.fault.1 on.fault.2 sync talk rests some_ prev fresh count stages]
    refine (exec_due (c := .syncStuck) rfl (by exact runs.1) ?_).symm
    simp [syncStuckDue, moved, talkHigh, edge, runs.2, fresh, State.P]
  · rw [tick.sticksTalk idle inside on.fault.1 on.fault.2 sync talk rests prev fresh count]
    refine (exec_due (c := .talkStuck) (s := moved (syncSampled true (edge (talkLow s)))) rfl runs.1 ?_).symm
    simp [talkStuckDue, moved, syncSampled, talkLow, edge, runs.2, fresh, State.TB]

end

end Sys2Proof.Machine

/-! ## An accepted frame at the end of its veto cell, on the tick (R26, R29, R30, R36) -/

namespace Sys2Proof.Machine

section
variable {s t u z : State} {pins : Pins} {order : TickOrder} {k : FrameKind} {sender : Nat} {payload : List Byte}

/-! ### The assembler while a frame is delivered -/

/-- The receive assembler stands. -/
def SameRx (s t : State) : Prop := t.tli.rx = s.tli.rx

theorem SameRx.ite {a b : State} {q : Prop} [Decidable q] (ha : SameRx s a) (hb : SameRx s b) :
    SameRx s (if q then a else b) := by
  split
  · exact ha
  · exact hb

theorem SameRx.trans (h : SameRx s t) (k : SameRx t u) : SameRx s u := Eq.trans k h

theorem sameRx_compareForeign (s : State) (sender : Nat) (i : Identity) : SameRx s (compareForeign s sender i) := by
  refine .ite rfl ?_
  unfold foreignWon
  split
  · exact .ite rfl rfl
  · rfl

theorem sameRx_testRecast (s : State) (sender : Nat) (r : RecastContent) (bytes : Nat) :
    SameRx s (testRecast s sender r bytes) := by
  have again : ∀ q, SameRx q (if s.mbc.station = .member then restartBackoff q else q) := fun q =>
    .ite (confined_restartBackoff q).rx rfl
  refine SameRx.trans ?_ (again _)
  split
  · rfl
  · exact .ite ((confined_coverChanges { s with mbc.pending := some (pendingView r) } r.members).rx :) rfl

theorem sameRx_memberRecast (s : State) (sender : Nat) (r : RecastContent) (bytes : Nat) :
    SameRx s (memberRecast s sender r bytes) :=
  .ite (sameRx_testRecast s _ _ _) (.ite (.ite rfl (sameRx_compareForeign s _ _)) rfl)

theorem sameRx_memberClaim (s : State) (sender : Nat) (c : ClaimContent) : SameRx s (memberClaim s sender c) :=
  .ite (.ite rfl rfl) (sameRx_compareForeign s _ _)

theorem sameRx_tryHail (s : State) : SameRx s (tryHail s) := .ite ((confined_postRequest _ _).rx :) rfl

theorem sameRx_follow (s : State) (k : FrameKind) (sender : Nat) (payload : List Byte) (own boundary : Bool) :
    SameRx s (controllerFrame.follow s k sender payload own boundary) := by
  refine .ite rfl ?_
  cases k with
  | claim => exact .ite rfl (sameRx_tryHail _)
  | recast => exact .ite rfl rfl
  | hail => rfl
  | leave => rfl

theorem sameRx_controllerFrame (s : State) (k : FrameKind) (sender : Nat) (payload : List Byte) (own boundary : Bool) :
    SameRx s (controllerFrame s k sender payload own boundary) := by
  unfold controllerFrame
  split
  · rfl
  · exact sameRx_follow s k sender payload own boundary
  · exact sameRx_follow s k sender payload own boundary
  · split
    · exact .ite rfl (confined_judgeHail s _ _).rx
    · exact sameRx_memberClaim s _ _
    · exact sameRx_memberRecast s _ _ _
    · exact .ite rfl (confined_takeLeave s _).rx
  · split
    · exact sameRx_memberRecast s _ _ _
    · rfl
  · rfl

theorem sameRx_hearFrame (cycle : Option U16) (s : State) (k : FrameKind) (sender : Nat) (payload : List Byte) :
    SameRx s (hearFrame cycle s k sender payload) := by
  have entered : SameRx s (enterSender cycle s sender k) := by
    refine .ite rfl (.ite rfl ?_)
    split <;> rfl
  have returned : ∀ q, SameRx q (returnPeer cycle q sender) := fun q => by
    unfold returnPeer
    split
    · exact .ite (.ite (confined_withdrawLost _ _).rx rfl) rfl
    · rfl
  exact entered.trans (returned _)

theorem sameRx_deliver (tableFirst : Bool) (s : State) (k : FrameKind) (sender : Nat) (payload : List Byte)
    (own boundary : Bool) : SameRx s (deliver tableFirst s k sender payload own boundary) := by
  have planned : SameRx s (planFrame s k payload own) := .ite (.ite rfl rfl) rfl
  have heard : ∀ cycle q, SameRx q (tableFrame cycle q k sender payload own) := fun cycle q =>
    .ite rfl (sameRx_hearFrame cycle q k sender payload)
  have flagged : ∀ won q, SameRx q (flagForeign won q sender) := fun won q => .ite rfl rfl
  exact .ite (planned.trans ((heard _ _).trans (sameRx_controllerFrame _ _ _ _ _ _)))
    (planned.trans ((sameRx_controllerFrame _ _ _ _ _ _).trans ((heard _ _).trans (flagged _ _))))

/-- An accepted frame leaves the assembler idle (R26). -/
theorem acceptFrame_idle (tableFirst : Bool) (s : State) : (acceptFrame tableFirst s).tli.rx = Rx.idle := by
  unfold acceptFrame
  dsimp only
  split
  next f _ => exact sameRx_deliver _ (completeSender { s with tli.rx := Rx.idle } f) _ _ _ _ _
  · split
    · rfl
    · exact sameRx_deliver _ { s with tli.rx := Rx.idle } _ _ _ _ _

/-! ### The tick that ends the veto cell (R29) -/

/-- A sample that leaves a whole frame with its veto cell read 1, the line not stuck, accepts the frame and does nothing
else. -/
theorem talkFindings_accepts (complete : Complete z k sender payload) (silent : z.tli.flight = none)
    (few : z.tli.stuckCount < z.cfg.fp.tb) (idle : z.tli.idle < z.cfg.fp.tb) (tableFirst : Bool) :
    talkFindings tableFirst z = acceptFrame tableFirst z := by
  have low := whenDue_not (due := longLowDue) longLow (s := z) (by
    simp only [longLowDue, Bool.and_eq_false_iff]
    exact .inr (decide_eq_false few.not_ge))
  have high := whenDue_not (due := longHighDue) longHigh (s := z) (by
    simp only [longHighDue, Bool.and_eq_false_iff]
    exact .inl (.inr (decide_eq_false idle.not_ge)))
  have stuck := whenDue_not (due := talkStuckDue) talkStuck (s := z) (by
    have : ¬ 16 * z.cfg.fp.tb ≤ z.tli.stuckCount := by omega
    simp only [talkStuckDue, Bool.and_eq_false_iff]
    exact .inl (.inr (decide_eq_false this)))
  have lost := whenDue_not (due := arbitrationLostDue) loseArbitration (s := z) (by simp [arbitrationLostDue, silent])
  have error := whenDue_not (due := bitErrorDue) countFailure (s := z) (by simp [bitErrorDue, silent])
  have void := whenDue_not (due := frameVoidedDue) voidFrame (s := z) (by simp [frameVoidedDue, complete.veto, silent])
  have takes : acceptDue tableFirst k z = acceptFrame tableFirst z := whenDue_of _ complete.due
  have others : ∀ j, j ≠ k → acceptDue tableFirst j z = z := fun j other => whenDue_not _ (by
    simp only [acceptedDue, complete.kind, Bool.and_eq_false_iff, beq_eq_false_iff_ne]
    exact .inr (Ne.symm other))
  have later : ∀ j, acceptDue tableFirst j (acceptFrame tableFirst z) = acceptFrame tableFirst z := fun j =>
    whenDue_not _ (accepted_not (by simp [frameComplete, acceptFrame_idle, Rx.idle]) j)
  simp only [talkFindings, low, high, stuck, lost, error, void]
  cases k with
  | hail => rw [takes, later, later, later]
  | claim => rw [others .hail nofun, takes, later, later]
  | recast => rw [others .hail nofun, others .claim nofun, takes, later]
  | leave => rw [others .hail nofun, others .claim nofun, others .recast nofun, takes]

/-- The part that a high sample leaves at the end of the veto cell. -/
def vetoOver (s : State) : State :=
  moved (syncSampled true (talkHigh (edge { s with tli := { s.tli with rx := { s.tli.rx with tick := s.tli.rx.tick + 1 } } })))

/-- A line that is high is sampled where the position has been counted. -/
theorem syncStage_high {n : TickNote} (counted : n.counted = true) (runs : z.mbc.station.running = true)
    (level : syncHigh pins z = true) :
    syncStage pins order n z = ({ n with sampled := true }, syncSampled true z) := by
  rw [syncStage, level, counted, if_neg (by simp), sampleSync, if_pos runs, level, if_pos rfl]
  refine congrArg (·, syncHighSample z) ?_
  rw [counted]

/-- With TALK sampled last, the tick that ends the veto cell accepts the frame. -/
theorem IsTick.accepts (tick : IsTick s) (driver : s.sli.markerActive = false) (inside : s.cyt.position + 1 < s.cfg.fp.p)
    (high : pins.fault = true) (clear : s.los.latch ≠ .asserted) (sync : pins.sync = true) (silent : s.tli.flight = none)
    (talk : pins.talk = true) (stages : order.stages = [.cycle, .sync, .fault, .talk]) (vetoless : s.tli.rx.vetoing = false)
    (last : s.tli.rx.tick = s.cfg.fp.tb) (idle : s.tli.idle + 1 < s.cfg.fp.tb)
    (complete : Complete (vetoOver s) k sender payload) :
    exec (.tick pins order) s = exec (acceptRow order.tableFirst k) (vetoOver s) := by
  have list : stageOrder order.stages = [.cycle, .sync, .fault, .talk] := by rw [stages]; rfl
  have phase : s.tli.rx.phase ≠ .waiting := by
    have receiving : s.tli.rx.phase = .receiving := complete.phase
    simp [receiving]
  have level : syncHigh pins (moved (edge s)) = true := by simp [syncHigh, syncDriven, moved, edge, driver, sync]
  have stage : talkStage pins order (syncSampled true (moved (edge s))) = acceptFrame order.tableFirst (vetoOver s) := by
    have other : s.tli.rx.tick + 1 ≠ s.cfg.fp.tb / 2 := by omega
    rw [talkStage_eq (z := syncSampled true (moved (edge s))) (low := false) tick.runs.2 (originateDue_phase phase)
      (by rw [pullsNext_receiver (by exact silent) (by exact vetoless), talk]; simp), cellTick_of (by exact phase)]
    rw [if_neg (by simp), sampleTick_not (by exact other)]
    exact talkFindings_accepts (z := vetoOver s) complete silent (Nat.zero_lt_of_lt idle) ((Nat.min_le_left _ _).trans_lt idle) _
  have run := runActs_sampled (q := edge s) (pins := pins) list
    (r := ({ captured := s.cyt.position, moved := false, sampled := true, counted := true },
      acceptFrame order.tableFirst (vetoOver s))) (by
    simp only [List.foldl_cons, List.foldl_nil, runStage]
    rw [cycleStage_moves (z := edge s) tick.runs.2 rfl inside, syncStage_high (z := moved (edge s)) rfl tick.runs.2 level]
    dsimp only
    rw [faultStage_still (z := syncSampled true (moved (edge s))) high clear, stage]
    rfl) rfl
  rw [tick.row, tickBody_eq, if_neg (by simp [edge, driver]), run, exec_accepted complete]

end

end Sys2Proof.Machine

/-! ## A wrap and a fall of SYNC on the tick (R3, R7, R8, R11, R13, R15, R17) -/

namespace Sys2Proof.Machine

section
variable {s t u w y z : State} {pins : Pins} {order : TickOrder} {boundary_ : BoundaryOrder} {lockFirst : Bool} {c : Nat}

/-! ### The low-duration count through a fall -/

theorem counted_sli (s : State) : (counted s).sli = s.sli := by rw [counted_eq]; rfl

theorem lockRule_sli (n : Nat) (s : State) : (lockRule n s).sli = s.sli := by
  rw [lockRule_eq, tryHail_eq]
  split <;> rfl

theorem slipRule_sli (n : Nat) (s : State) : (slipRule n s).sli = s.sli := by
  unfold slipRule
  split <;> rfl

theorem markBoundary_sli (s : State) : (markBoundary s).sli = s.sli := by rw [markBoundary_eq]

/-- The low-duration count and the previous sample stand, unless the station is detached. -/
def LineKept (s t : State) : Prop :=
  (t.sli.stuckCount = s.sli.stuckCount ∧ t.sli.prevHigh = s.sli.prevHigh) ∨ t.mbc.station = .detached

theorem LineKept.of_sli (h : t.sli = s.sli) : LineKept s t := .inl ⟨by rw [h], by rw [h]⟩

theorem LineKept.of_runs (h : LineKept s t) (runs : t.mbc.station.running = true) :
    t.sli.stuckCount = s.sli.stuckCount ∧ t.sli.prevHigh = s.sli.prevHigh :=
  h.resolve_right (not_detached_of_running runs)

theorem lineKept_boundary (none_ : boundary_.readout = none) (high : Bool) (sli : z.sli = s.sli) :
    LineKept s (boundary boundary_ high z) := by
  have clock := (clocked_boundary none_ high z).line
  rw [counted_sli, sli] at clock
  exact clock

theorem lineKept_snap (none_ : boundary_.readout = none) (lockFirst : Bool) (c : Nat) (s : State) :
    LineKept s (snap lockFirst boundary_ c s) := by
  have slipped : (slipRule (s.P - c) { nextCycle s with cyt.lastSnap := s.P - c }).sli = s.sli := slipRule_sli _ _
  unfold snap
  dsimp only
  split
  · exact lineKept_boundary none_ false ((lockRule_sli _ _).trans slipped)
  · have kept := lineKept_boundary none_ false slipped
    split
    next keeps =>
      rcases kept with kept | gone
      · exact .inl (by rw [lockRule_sli]; exact kept)
      · rw [gone] at keeps
        cases keeps
    · exact kept

theorem lineKept_takeFall (none_ : boundary_.readout = none) (lockFirst : Bool) (c : Nat) (s : State) :
    LineKept s (takeFall lockFirst boundary_ c s) := by
  unfold takeFall
  split
  · exact .of_sli rfl
  · refine .inl ?_
    show (markBoundary _).sli.stuckCount = _ ∧ (markBoundary _).sli.prevHigh = _
    rw [markBoundary_sli]
    exact ⟨rfl, rfl⟩
  · exact lineKept_snap none_ lockFirst c s
  · exact .of_sli ((lockRule_sli _ _).trans (markBoundary_sli _))
  · exact .of_sli (lockRule_sli _ _)
  · exact .of_sli rfl

/-! ### What moves the position on the tick (R3, R7) -/

/-- A first fall, a late restart and a snap move the position. -/
theorem fallMoves_of (runs : z.mbc.station.running = true)
    (begins : z.mbc.station.inGroup = false ∨ (0 < c ∧ z.cfg.fp.p / 2 ≤ c)) : fallMoves z c = true := by
  have half : z.P / 2 = z.cfg.fp.p / 2 := rfl
  rw [fallMoves]
  rcases begins with outside | ⟨later, late⟩
  · cases st : z.mbc.station <;> simp only [st, Station.running, Station.inGroup, Bool.false_eq_true, Bool.true_eq_false] at runs outside
    · rfl
    · by_cases late : z.cfg.fp.p / 2 ≤ c <;> simp [fallKind, half, late]
    · by_cases late : z.cfg.fp.p / 2 ≤ c <;> simp [fallKind, half, late]
  · cases st : z.mbc.station <;> simp_all [fallKind, Station.running, later.ne']

/-- An own fall and one that is ignored leave the position and the station. -/
theorem takeFall_still (grouped : z.mbc.station.inGroup = true) (early : c = 0 ∨ c < z.cfg.fp.p / 2) :
    takeFall lockFirst boundary_ c z = (if c = 0 then ownFall z else z) ∧ fallMoves z c = false := by
  have half : z.P / 2 = z.cfg.fp.p / 2 := rfl
  by_cases first : c = 0
  · subst first
    refine ⟨takeFall_own grouped, ?_⟩
    rcases (inGroup_iff _).mp grouped with st | st <;> simp [fallMoves, fallKind, st]
  · have before := early.resolve_left first
    refine ⟨by rw [takeFall_ignored grouped (Nat.pos_of_ne_zero first) before, if_neg first], ?_⟩
    rcases (inGroup_iff _).mp grouped with st | st <;> simp [fallMoves, fallKind, st, first, half, before.not_ge]

theorem ownFall_eq (grouped : z.mbc.station.inGroup = true) : ownFall z = { z with
    cyt := { z.cyt with lastSnap := 0, lockCount := lockAfter { z with cyt.lastSnap := 0 } 0 } } := by
  have other : z.mbc.station ≠ .aligning := fun aligning => by simp [aligning, Station.inGroup] at grouped
  exact lockRule_other (s := { z with cyt.lastSnap := 0 }) 0 other

/-! ### The order with the position counted last -/

/-- What the acts of a tick make of `z` once SYNC is come to, the position counted last. -/
def countedLast (pins : Pins) (order : TickOrder) (z : State) : State :=
  let n : TickNote := { captured := z.cyt.position, moved := false, sampled := false, counted := false }
  let sync := syncStage pins order n z
  let r := cycleStage pins order sync.1 sync.2
  if r.1.sampled then r.2 else (sampleSync pins order r.1 r.2).2

theorem IsTick.countsLast (tick : IsTick s) (idle : s.sli.markerActive = false) (high : pins.fault = true)
    (clear : s.los.latch ≠ .asserted) (talk : pins.talk = true) (rests : TalkRests s) (some_ : 0 < s.cfg.fp.tb)
    (stages : order.stages = [.talk, .fault, .sync, .cycle]) :
    exec (.tick pins order) s = .next (settle (countedLast pins order (talkHigh (edge s)))) := by
  have list : stageOrder order.stages = [.talk, .fault, .sync, .cycle] := by rw [stages]; rfl
  have stage : talkStage pins order (edge s) = talkHigh (edge s) := talkStage_rests tick.runs.2 { rests with } talk some_
  have still : faultStage pins (talkHigh (edge s)) = talkHigh (edge s) := faultStage_still high clear
  rw [tick.row, tickBody_eq, if_neg (by simp [edge, idle]), runActs, list]
  simp only [List.foldl_cons, List.foldl_nil, runStage, stage, still]
  rfl

theorem countedLast_eq {r q : TickNote × State}
    (sync : syncStage pins order { captured := z.cyt.position, moved := false, sampled := false, counted := false } z = r)
    (count : cycleStage pins order r.1 r.2 = q) :
    countedLast pins order z = if q.1.sampled then q.2 else (sampleSync pins order q.1 q.2).2 := by
  subst sync count
  rfl

/-- A line that is high ends a stuck episode, the wrap is made, and SYNC is sampled after it (R8, R15). -/
theorem countedLast_wraps (runs : z.mbc.station.running = true) (level : syncHigh pins z = true)
    (last : z.cfg.fp.p ≤ z.cyt.position + 1) : countedLast pins order z =
      (sampleSync pins order { captured := 0, moved := false, sampled := false, counted := true }
        (wrap order.boundary true (endEpisode z))).2 := by
  have ends : endEpisode z = { z with sli := { z.sli with stuckCount := 0, stuck := false } } := if_pos runs
  have level_ : syncHigh pins (endEpisode z) = true := by rw [ends]; exact level
  have due : wrapDue (endEpisode z) = true := by rw [ends]; exact wrapDue_of runs last
  have runs_ : (endEpisode z).mbc.station.running = true := by rw [ends]; exact runs
  have sync : ∀ n : TickNote, n.counted = false → syncStage pins order n z = (n, endEpisode z) := fun n early => by
    rw [syncStage, level, early, if_pos (by rfl)]
  have count : ∀ n : TickNote, n.moved = false → cycleStage pins order n (endEpisode z) =
      ({ n with captured := 0, counted := true }, wrap order.boundary true (endEpisode z)) := fun n still => by
    rw [cycleStage, runs_, still, if_pos (by rfl), due, if_pos rfl, level_]
  rw [countedLast_eq (sync _ rfl) (count _ rfl)]
  rfl

/-- A line that falls is sampled at once, wherever the position stands. -/
theorem syncStage_falls {n : TickNote} (runs : z.mbc.station.running = true) (low : pins.sync = false)
    (high : z.sli.prevHigh = true) (few : z.sli.stuckCount + 1 < z.cfg.fp.p) (none_ : order.boundary.readout = none) :
    syncStage pins order n z = ({ n with sampled := true, moved := n.moved || fallMoves z n.captured },
      takeFall order.lockFirst order.boundary n.captured (syncLowSample z)) := by
  have level : syncHigh pins z = false := by rw [syncHigh, low, Bool.false_and]
  have kept := lineKept_takeFall none_ order.lockFirst n.captured (syncLowSample z)
  have cfg := (inside_takeFall order.lockFirst order.boundary n.captured (syncLowSample z)).cfg
  rw [syncStage, level, if_neg (by simp), sampleSync, if_pos runs, level, if_neg (by simp)]
  dsimp only
  rw [fallSeen_of runs high, if_pos rfl, Bool.true_and]
  generalize takeFall order.lockFirst order.boundary n.captured (syncLowSample z) = w at kept cfg
  have calm : syncStuckDue w = false := by
    cases still : w.mbc.station.running with
    | false => simp [syncStuckDue, still]
    | true =>
      have below : ¬ w.P ≤ w.sli.stuckCount := by
        rw [(kept.of_runs still).1, State.P, cfg]
        exact ((Nat.min_le_left _ _).trans_lt few).not_ge
      simp [syncStuckDue, below]
  rw [whenDue_not _ calm]

/-- A fall that moves the position is taken, and the tick counts no more. -/
theorem countedLast_moves (runs : z.mbc.station.running = true) (low : pins.sync = false) (high : z.sli.prevHigh = true)
    (few : z.sli.stuckCount + 1 < z.cfg.fp.p) (none_ : order.boundary.readout = none)
    (moves : fallMoves z z.cyt.position = true) : countedLast pins order z =
      takeFall order.lockFirst order.boundary z.cyt.position (syncLowSample z) := by
  have count : ∀ (n : TickNote) (q : State), n.moved = true →
      cycleStage pins order n q = ({ n with counted := true }, q) := fun n q is => by
    rw [cycleStage, is, if_neg (by simp)]
  rw [countedLast_eq (syncStage_falls runs low high few none_) (count _ _ (by simp [moves]))]
  rfl

/-- A fall that does not move the position is taken, and the position is counted. -/
theorem countedLast_stays (runs : z.mbc.station.running = true) (low : pins.sync = false) (high : z.sli.prevHigh = true)
    (few : z.sli.stuckCount + 1 < z.cfg.fp.p) (none_ : order.boundary.readout = none)
    (still : fallMoves z z.cyt.position = false)
    (w_ : takeFall order.lockFirst order.boundary z.cyt.position (syncLowSample z) = w) (goes : w.mbc.station.running = true)
    (inside : w.cyt.position + 1 < w.cfg.fp.p) : countedLast pins order z = moved w := by
  subst w_
  rw [countedLast_eq (syncStage_falls runs low high few none_) (cycleStage_moves goes (by simp [still]) inside)]
  rfl

end

end Sys2Proof.Machine

/-! ## A tick and the rows of its happenings (R3, R7, R15, R17, R22 to R24, R29) -/

namespace Sys2Proof.Machine

section
variable {s t u w z : State} {pins : Pins} {order : TickOrder}

/-! ### A wrap on the tick, and the marker of that boundary (R3, R8, R15) -/

/-- What a boundary of a part that drives no marker leaves of the timer and of the SYNC records. -/
structure Bounded (z w : State) : Prop where
  position : w.cyt.position = 0
  line : w.sli.stuckCount = z.sli.stuckCount ∧ w.sli.prevHigh = z.sli.prevHigh
  marker : w.sli.markerActive = true → w.mbc.station.inGroup = true

theorem bounded_wrap (none_ : order.boundary.readout = none) (idle : z.sli.markerActive = false)
    (high : Bool) (runs : (wrap order.boundary high z).mbc.station.running = true) : Bounded z (wrap order.boundary high z) := by
  have clock := clocked_boundary none_ high (nextCycle z)
  have sli : (counted (nextCycle z)).sli = z.sli := counted_sli _
  refine ⟨?_, ?_, clock.marker fun drives => ?_⟩
  · obtain ⟨position, -⟩ | ⟨-, zero, -⟩ := clock.place
    · rw [counted_eq] at position
      exact position
    · exact zero
  · exact sli ▸ clock.line.resolve_right (not_detached_of_running runs)
  · rw [sli, idle] at drives
    cases drives

theorem sampleSync_high {n : TickNote} (runs : z.mbc.station.running = true) (level : syncHigh pins z = true) :
    (sampleSync pins order n z).2 = syncSampled true z := by
  rw [sampleSync, if_pos runs, level, if_pos rfl]
  rfl

theorem sampleSync_rests {n : TickNote} (rests : z.mbc.station.running = false) : (sampleSync pins order n z).2 = z := by
  rw [sampleSync, if_neg (by simp [rests])]

/-- The part `w` after its first low sample of SYNC. -/
def ownLow (w : State) : State := { w with sli := { w.sli with stuckCount := 1, prevHigh := false } }

/-- The marker of a boundary is the own fall of its tick. -/
theorem sampleSync_own {n : TickNote} (bounded : Bounded z w) (runs : w.mbc.station.running = true)
    (drives : w.sli.markerActive = true) (count : z.sli.stuckCount = 0) (high : z.sli.prevHigh = true)
    (room : 2 ≤ w.cfg.fp.p) (captured : n.captured = 0) : (sampleSync pins order n w).2 =
      ownFall (ownLow w) := by
  have level : syncHigh pins w = false := by rw [syncHigh, syncDriven, drives, Bool.not_true, Bool.and_false]
  have low : syncLowSample w = ownLow w := by
    have one : min (w.sli.stuckCount + 1) w.P = 1 := by
      rw [bounded.line.1, count]
      exact Nat.min_eq_left (Nat.le_of_succ_le room)
    rw [syncLowSample, one, ownLow]
  have grouped : (ownLow w).mbc.station.inGroup = true := bounded.marker drives
  have calm : syncStuckDue (ownFall (ownLow w)) = false := by
    rw [ownFall_eq grouped]
    simp only [syncStuckDue, Bool.and_eq_false_iff]
    exact .inl (.inr (decide_eq_false (Nat.not_le_of_gt room)))
  rw [sampleSync, if_pos runs, level, if_neg (by simp)]
  dsimp only
  rw [fallSeen_of runs (bounded.line.2.trans high), if_pos rfl, captured, low, takeFall_own grouped, whenDue_not _ calm]

/-- The row of the own fall. -/
theorem exec_ownFall (released : z.resetAsserted = false) (grouped : z.mbc.station.inGroup = true)
    (high : z.sli.prevHigh = true) (first : z.cyt.position = 0) (lockFirst : Bool) (boundary_ : BoundaryOrder) :
    exec (.syncFall lockFirst boundary_) z = .next (settle (ownFall { z with sli.prevHigh := false })) := by
  rw [exec_syncFall released (running_of_inGroup grouped) high, first, takeFall_own (by exact grouped)]

/-- The row of the marker's own fall, taken on the part that the wrap leaves. -/
theorem exec_markerFall (bounded : Bounded z w) (released : w.resetAsserted = false) (drives : w.sli.markerActive = true)
    (high : z.sli.prevHigh = true) (lockFirst : Bool) (boundary_ : BoundaryOrder) :
    exec (.syncFall lockFirst boundary_) { settle w with sli := { (settle w).sli with stuckCount := 1 } } =
      .next (settle (ownFall (ownLow w))) := by
  have grouped := bounded.marker drives
  rw [exec_ownFall (z := { settle w with sli := { (settle w).sli with stuckCount := 1 } }) released grouped
    (bounded.line.2.trans high) bounded.position, ownFall_eq (by exact grouped), ownFall_eq (by exact grouped)]
  rfl

/-- A tick at the end of the cycle, the position counted last: the wrap is made, and SYNC is sampled as it leaves it. -/
theorem IsTick.wraps (last : s.cfg.fp.p ≤ s.cyt.position + 1) (room : 2 ≤ s.cfg.fp.p) (tick : IsTick s)
    (none_ : order.boundary.readout = none) (idle : s.sli.markerActive = false) (high : s.sli.prevHigh = true)
    (sync : pins.sync = true)
    (row : exec (.tick pins order) s = .next (settle (countedLast pins order (talkHigh (edge s))))) :
    ∃ u, exec (.wrap order.boundary) (syncSampled true (talkHigh (edge s))) = .next u ∧
      (u.mbc.station.running = false → exec (.tick pins order) s = .next u) ∧
      (u.mbc.station.running = true → u.sli.markerActive = false →
        exec (.tick pins order) s = .next (settle (syncSampled true u))) ∧
      (u.mbc.station.running = true → u.sli.markerActive = true →
        exec (.tick pins order) s = exec (.syncFall order.lockFirst order.boundary)
          { u with sli := { u.sli with stuckCount := 1 } }) := by
  have level : syncHigh pins (talkHigh (edge s)) = true := by simp [syncHigh, syncDriven, talkHigh, edge, idle, sync]
  have ends : endEpisode (talkHigh (edge s)) = syncSampled true (talkHigh (edge s)) := by
    rw [endEpisode, if_pos (by exact tick.runs.2)]
    simp only [syncSampled, ← show (talkHigh (edge s)).sli.prevHigh = true from high, if_true]
  rw [countedLast_wraps (z := talkHigh (edge s)) tick.runs.2 level last, ends] at row
  have cfg := (inside_wrap order.boundary true (syncSampled true (talkHigh (edge s)))).cfg
  have released := (inside_wrap order.boundary true (syncSampled true (talkHigh (edge s)))).resetAsserted
  have bounded := bounded_wrap (z := syncSampled true (talkHigh (edge s))) none_ idle true
  refine ⟨_, exec_due (c := .wrap order.boundary) rfl tick.runs.1 (wrapDue_of tick.runs.2 last), ?_, ?_, ?_⟩
  · intro rests
    rw [row, sampleSync_rests (by exact rests)]
    rfl
  · intro runs marker
    rw [row, sampleSync_high (by exact runs) (by
      rw [syncHigh, syncDriven, sync]
      exact congrArg (fun b => true && !b) marker)]
    rfl
  · intro runs drives
    have bound := bounded runs
    rw [row, sampleSync_own bound runs drives rfl rfl (cfg ▸ room) rfl]
    exact (exec_markerFall bound (released.trans tick.runs.1) drives rfl _ _).symm

/-! ### A fall on the tick (R7, R8, R11, R13) -/

/-- The part on which a fall is taken: a low sample counted, the previous one still high. -/
def falling (s : State) : State :=
  { talkHigh (edge s) with sli := { s.sli with stuckCount := s.sli.stuckCount + 1 } }

theorem falling_low (few : s.sli.stuckCount + 1 < s.cfg.fp.p) :
    syncLowSample (talkHigh (edge s)) = { falling s with sli.prevHigh := false } := by
  have count : min (s.sli.stuckCount + 1) (talkHigh (edge s)).P = s.sli.stuckCount + 1 := Nat.min_eq_left few.le
  exact congrArg (fun n => { talkHigh (edge s) with sli := { s.sli with prevHigh := false, stuckCount := n } }) count

theorem exec_falling (tick : IsTick s) (high : s.sli.prevHigh = true) (few : s.sli.stuckCount + 1 < s.cfg.fp.p)
    (lockFirst : Bool) (boundary_ : BoundaryOrder) : exec (.syncFall lockFirst boundary_) (falling s) =
      .next (settle (takeFall lockFirst boundary_ s.cyt.position (syncLowSample (talkHigh (edge s))))) := by
  rw [exec_syncFall (s := falling s) tick.runs.1 tick.runs.2 high, falling_low few]
  rfl

/-- A fall that begins a cycle or restarts one is all that its tick does. -/
theorem IsTick.begins (tick : IsTick s) (none_ : order.boundary.readout = none) (high : s.sli.prevHigh = true)
    (low : pins.sync = false) (few : s.sli.stuckCount + 1 < s.cfg.fp.p)
    (row : exec (.tick pins order) s = .next (settle (countedLast pins order (talkHigh (edge s)))))
    (moves : s.mbc.station.inGroup = false ∨ (0 < s.cyt.position ∧ s.cfg.fp.p / 2 ≤ s.cyt.position)) :
    exec (.tick pins order) s = exec (.syncFall order.lockFirst order.boundary) (falling s) := by
  rw [row, exec_falling tick high few,
    countedLast_moves (z := talkHigh (edge s)) tick.runs.2 low high few none_ (fallMoves_of tick.runs.2 moves)]
  rfl

/-- An own fall and an ignored one are taken, and the position is counted. -/
theorem IsTick.goesOn (tick : IsTick s) (none_ : order.boundary.readout = none) (high : s.sli.prevHigh = true)
    (low : pins.sync = false) (few : s.sli.stuckCount + 1 < s.cfg.fp.p)
    (row : exec (.tick pins order) s = .next (settle (countedLast pins order (talkHigh (edge s)))))
    (grouped : s.mbc.station.inGroup = true) (early : s.cyt.position = 0 ∨ s.cyt.position < s.cfg.fp.p / 2) :
    ∃ u, exec (.syncFall order.lockFirst order.boundary) (falling s) = .next u ∧
      exec (.tick pins order) s = .next (settle (moved u)) := by
  have inside : s.cyt.position + 1 < s.cfg.fp.p := by omega
  obtain ⟨taken, -⟩ := takeFall_still (z := syncLowSample (talkHigh (edge s))) (c := s.cyt.position)
    (lockFirst := order.lockFirst) (boundary_ := order.boundary) grouped early
  obtain ⟨-, still⟩ := takeFall_still (z := talkHigh (edge s)) (c := s.cyt.position)
    (lockFirst := order.lockFirst) (boundary_ := order.boundary) grouped early
  refine ⟨_, (exec_falling tick high few _ _).trans (congrArg (fun q => Host.Outcome.next (settle q)) taken), ?_⟩
  have stays := countedLast_stays (z := talkHigh (edge s)) (pins := pins) tick.runs.2 low high few none_ still taken
  by_cases first : s.cyt.position = 0
  · rw [if_pos first, ownFall_eq (by exact grouped)] at stays ⊢
    rw [row, stays tick.runs.2 inside]
    rfl
  · rw [if_neg first] at stays ⊢
    rw [row, stays tick.runs.2 inside]
    rfl

/-! ### The marker's ticks (R15) -/

/-- The acts of a tick of a part at `b` once the marker's count is made, with TALK at rest and high. -/
def marking (b : State) (low : Bool) : Made :=
  { base := b, low := low, talk := (talkHigh b).tli, stage := b.los, queue := fun _ _ => b.evq }

theorem marking_holds {b : State} {low : Bool} (runs : Runs b) (inside : b.cyt.position + 1 < b.cfg.fp.p)
    (level : low = !(pins.sync && !b.sli.markerActive))
    (steady : low = true → b.sli.prevHigh = false ∧ b.sli.stuckCount + 1 < b.cfg.fp.p) (high : pins.fault = true)
    (clear : b.los.latch ≠ .asserted) (talk : pins.talk = true) (rests : TalkRests b) (some_ : 0 < b.cfg.fp.tb) :
    (marking b low).Holds pins order where
  runs := runs
  inside := inside
  level := level
  steady := steady
  start := rfl
  talk c f y := talkStage_rests (z := (marking b low).part ⟨c, false, f, y⟩) runs.2 { rests with } talk some_
  fault _ _ _ := faultStage_still high clear

/-- A marker with more than one tick left is driven. -/
theorem markerTick_drives (left : 2 ≤ s.sli.markerLeft) :
    markerTick s = { s with sli.markerLeft := s.sli.markerLeft - 1 } := by
  refine whenDue_not _ ?_
  have some_ : s.sli.markerLeft - 1 ≠ 0 := by omega
  simp [markerEndDue, some_]

/-- A marker with one tick left ends. -/
theorem markerTick_ends (active : s.sli.markerActive = true) (left : s.sli.markerLeft = 1) :
    markerTick s = { s with sli := { s.sli with markerActive := false, markerLeft := 0 } } := by
  refine (whenDue_of (due := markerEndDue) stopMarker ?_).trans rfl
  simp [markerEndDue, active, left]

theorem IsTick.marker (tick : IsTick s) (on : OnTick s pins) (active : s.sli.markerActive = true)
    (inside : s.cyt.position + 1 < s.cfg.fp.p) (talk : pins.talk = true) (rests : TalkRests s) (some_ : 0 < s.cfg.fp.tb)
    {line : SyncLine} {low : Bool} (ticks : markerTick (edge s) = { edge s with sli := line })
    (level : low = !(pins.sync && !line.markerActive))
    (steady : low = true → line.prevHigh = false ∧ line.stuckCount + 1 < s.cfg.fp.p) :
    exec (.tick pins order) s = .next (settle (marking { edge s with sli := line } low).whole) :=
  tick.made (marking_holds tick.runs inside level steady on.fault.1 on.fault.2 talk { rests with } some_)
    ((if_pos active).trans ticks)

/-! ### A cell read, and a start mark (R23, R24, R26) -/

/-- The sample tick of a cell of the key or the length. -/
theorem IsTick.reads {low : Bool} (on : OnTick s pins) (idle : s.sli.markerActive = false)
    (inside : s.cyt.position + 1 < s.cfg.fp.p) (sync : pins.sync = true) (silent : s.tli.flight = none)
    (receiving : s.tli.rx.phase = .receiving) (vetoless : s.tli.rx.vetoing = false)
    (half : s.tli.rx.tick + 1 = s.cfg.fp.tb / 2) (started : 1 ≤ s.tli.rx.bits.length) (few : s.tli.rx.bits.length < 13)
    (level : low = !pins.talk) (unmarked : low = true → s.tli.prevHigh = false)
    (counts : (lineSampled low s).tli.stuckCount < s.cfg.fp.tb ∧ (lineSampled low s).tli.idle < s.cfg.fp.tb) :
    exec (.tick pins order) s = .next (settle (moved (syncSampled true (edge (cellSampled low s { s.tli.rx with
      bits := s.tli.rx.bits ++ [!low], tick := s.tli.rx.tick + 1, lastBit := some (!low) }))))) := by
  refine (tick_of_onTick on).samples on idle inside sync fun z tli mbc cfg => ?_
  have line := lineSampled_parts tli cfg low
  rw [← line, ← cfg] at counts
  rw [← tli] at silent receiving vetoless half started few unmarked
  rw [← cfg] at half
  rw [← tli]
  exact talkStage_reads (by rw [mbc]; exact on.runs.2) silent receiving vetoless half started few level unmarked
    counts.1 counts.2

/-- An idle line that falls begins a frame. -/
theorem IsTick.starts (on : OnTick s pins) (idle : s.sli.markerActive = false) (inside : s.cyt.position + 1 < s.cfg.fp.p)
    (sync : pins.sync = true) (rests : TalkRests s) (talk : pins.talk = false) (high : s.tli.prevHigh = true)
    (run : s.cfg.fp.tb ≤ s.tli.idle) (clear : s.tli.stuck = false) (room : 4 ≤ s.cfg.fp.tb)
    (few : s.tli.stuckCount + 1 < s.cfg.fp.tb) :
    exec (.tick pins order) s = exec .talkMark (moved (syncSampled true (edge (markCounted s)))) := by
  refine IsTick.marks (rx := Rx.started) on idle inside sync high rfl rfl rfl room few
    (fun z tli _ _ => originateDue_requests (by rw [tli]; exact rests.requests)) (fun z _ _ _ => by simp [talk])
    fun z tli cfg => ?_
  rw [← cfg] at run
  rcases tli with tli | tli
  · obtain ⟨waiting, flight, requests⟩ := rests
    rw [← tli] at waiting flight requests run clear
    exact talkMark_receives ⟨waiting, flight, requests⟩ run clear
  · have rests_ : TalkRests (markCounted s) := { rests with }
    obtain ⟨waiting, flight, requests⟩ := rests_
    rw [← tli] at waiting flight requests
    exact talkMark_receives ⟨waiting, flight, requests⟩ (by rw [tli]; exact run) (by rw [tli]; exact clear)

/-- Settles O35. -/
theorem tickDoesTheRows : Obligations.TickDoesTheRows := by
  intro s pins order on none_ some_
  have tick := tick_of_onTick on
  refine ⟨fun idle high talk rests stages => ?_, fun active inside talk rests => ⟨fun left prev few => ?_, fun left sync => ?_⟩,
    fun idle inside sync silent => ⟨fun receiving vetoless half started few => ?_, fun rests talk high run clear room few => ?_,
      fun v k sender payload talk stages vetoless last run is complete => ?_⟩⟩
  · have row := tick.countsLast idle on.fault.1 on.fault.2 talk rests some_ stages
    refine ⟨fun sync last room => tick.wraps last room none_ idle high sync row, fun v low few is => ?_⟩
    subst is
    exact ⟨tick.begins none_ high low few row, tick.goesOn none_ high low few row⟩
  · rw [tick.marker on active inside talk rests some_ (markerTick_drives (s := edge s) left) (low := true)
      (by simp [edge, active]) fun _ => ⟨prev, few⟩]
    have count : min (s.sli.stuckCount + 1) s.cfg.fp.p = s.sli.stuckCount + 1 := Nat.min_eq_left few.le
    have line : (syncSampled false { edge s with sli := { s.sli with markerLeft := s.sli.markerLeft - 1 } }).sli =
        { s.sli with markerLeft := s.sli.markerLeft - 1, stuckCount := s.sli.stuckCount + 1 } := by
      simp [syncSampled, edge, count, prev]
    exact congrArg (fun q => Host.Outcome.next (settle { moved (talkHigh (edge s)) with sli := q })) line
  · rw [tick.marker on active inside talk rests some_ (markerTick_ends (s := edge s) active left) (low := false)
      (by simp [sync]) nofun]
    rfl
  · refine ⟨fun talk run => ?_, fun talk prev few_ => ?_⟩
    · rw [IsTick.reads (low := false) on idle inside sync silent receiving vetoless half started few (by rw [talk]; rfl) nofun
        (counts_high run some_)]
      rfl
    · rw [IsTick.reads (low := true) on idle inside sync silent receiving vetoless half started few (by rw [talk]; rfl)
        (fun _ => prev) (counts_low few_ (by omega) some_), cellSampled_low (by omega) prev]
      rfl
  · exact IsTick.starts on idle inside sync rests talk high run clear room few
  · subst is
    exact tick.accepts idle inside on.fault.1 on.fault.2 sync silent talk stages vetoless last run complete

end

end Sys2Proof.Machine
